-- ==== Sys2Proof/Word.lean ====
section
/-! DEFINITION. The byte of the body link and of the serial memory.

Only what the reference treats as bits is a bit vector: a byte on the link (R1, R193) and a byte of
the serial memory (R113). Counts, distances, times and addresses are numbers. -/

namespace Sys2Proof

/-- A byte, with its first received bit as bit 0 (R193). -/
abbrev Byte := BitVec 8

end Sys2Proof
end

