-- ==== Sys2Proof/Syntax.lean ====
section
/-! DEFINITION. The commands of the block: one constructor of `Instr` for each row of
spec/opcode_table.json, with the operands that the command brings from outside (a byte on the line, a
contact level, a reading). Everything else a command needs is in the state. -/

namespace Sys2Proof

/-- The eighteen signals of the Signal Table, 0 to 17 in this order (table of 2.1). -/
inductive Signal where
  | engRpm | coolantT | oilP | engFlags | gear | transT | doors | lamps | keyIn | belt | parkBrake
  | washer | bulbs | vehSpeed | fuelLevel | sysVolt | brakeFluid | headlampSw
deriving DecidableEq, Repr

/-- The twenty-four warnings, numbered 1 to 24 in this order (R121). -/
inductive Warning where
  | oilPressure | coolantHot | brakeFluid | parkBrakeMoving | charge | engineCheck | fuelReserve
  | doorOpenMoving | transHot | gaugeFault | senderFault | engineLinkLost | serviceDue | bodyLinkLost
  | washerLow | bulbOut | belt | lightsOn | keyIn | odoRestored | configDefaults | storeFault
  | clockUnset | serviceSoon
deriving DecidableEq, Repr

/-- The six gauges, numbered 1 to 6 in this order (R64). -/
inductive GaugeId where
  | speed | tacho | fuel | coolant | oil | volt
deriving DecidableEq, Repr

/-- The five switch lines (3.4). -/
inductive SwitchLine where
  | ignition | driverDoor | headlamp | brakeFluid | spare
deriving DecidableEq, Repr

/-- A switch line's level: active when the contact pulls its line low (3.4). -/
inductive Level where
  | active | inactive
deriving DecidableEq, Repr

/-- The four push buttons (3.5). -/
inductive Button where
  | mode | set | reset | check
deriving DecidableEq, Repr

/-- The two positions of a button: a sample's, and a debounced one (R60). -/
inductive Contact where
  | up | down
deriving DecidableEq, Repr

/-- The commands of the block: the steps listed in spec/opcode_table.json. -/
inductive Instr where
  /-- The check byte arrives (R6). -/
  | frameReceived (check : Byte)
  /-- A byte that ends the frame as malformed; `framing` when its stop bit reads dominant in a dominant run
  that stays short of 10 bt (R2, R5). -/
  | receiveErrorByte (b : Byte) (framing : Bool)
  /-- A gap of 21 bt or more (R5). -/
  | byteGapTimeout
  /-- 14 bt of uninterrupted recessive line in SKIPPING (R5). -/
  | skippingIdleEnd
  /-- A dominant run of 10 bt or more has ended (R2). -/
  | breakReceived
  /-- A bit boundary; `idle` is the recessive bt counted since the idle count was last brought up to
  date (R9). -/
  | attemptStart (idle : Nat)
  /-- A recessive header bit reads dominant (R10). -/
  | arbitrationLost
  /-- A bit reads differently from the bit sent (R11). -/
  | bitError
  /-- The cluster's own break ends (R12). -/
  | breakEnd
  /-- The stop bit of the check byte is read back with no mismatch (R11). -/
  | attemptSuccess
  /-- The 100 ms pause ends (R12). -/
  | pauseExpiry
  /-- The 1 s mute ends (R13). -/
  | muteExpiry
  /-- The 2 s presence timer of a station's roster entry ends (R20). -/
  | rosterTimerExpiry (station : Nat)
  /-- The dispatcher hands SGT the oldest frame, an ENGINE_STATUS (R34). -/
  | engineStatus
  /-- The dispatcher hands SGT the oldest frame, a TRANS_STATUS (R35). -/
  | transStatus
  /-- The dispatcher hands SGT the oldest frame, a BODY_STATUS (R36). -/
  | bodyStatus
  /-- The dispatcher hands ODU the oldest frame, an ODO_ECHO (R37). -/
  | odoEcho
  /-- The dispatcher hands WNU the oldest frame, a CHIME_REQUEST (R141). -/
  | chimeRequest
  /-- The dispatcher hands WNU the oldest frame, a CHIME_CANCEL (R142). -/
  | chimeCancel
  /-- A peer signal's expiry timer ends (R29). -/
  | signalExpiry (sig : Signal)
  /-- A falling edge of the speed input, at `us` microseconds into the present gate (R47, R48). -/
  | speedPulse (us : Nat)
  /-- A 125 ms speed gate ends (R48). -/
  | speedGateEnd
  /-- A fuel sender reading (R50). -/
  | fuelSample (reading : Byte)
  /-- A supply voltage reading, in mV (R56). -/
  | supplyReading (millivolts : Nat)
  /-- The samples of a switch line since the command before, oldest first, the last of which completes its
  filter; `contacts` are the zero-reference contacts, bit n − 1 set when gauge n's is closed, which GDU
  samples if STARTING ends here (R57, R71). -/
  | switchFilterCompletion (line : SwitchLine) (samples : List Level) (contacts : BitVec 6)
  /-- A falling edge on the link (R184). -/
  | linkFallingEdgeWake
  /-- The samples of a button since the command before, oldest first, ending with four equal ones that
  differ from its debounced position (R60). With no samples it tells that MSC is taking its next event in this
  moment and has read the OVERRUN flag: what is given before that taking is given in its moment (R62). -/
  | buttonPositionChange (button : Button) (samples : List Contact)
  /-- A button's 2 s hold timer ends (R61). -/
  | buttonHoldTimerExpiry (button : Button)
  /-- The 10 s of CHECK and RESET together end (R61). -/
  | longTimerExpiry
  /-- MSC takes the oldest event, MODE PRESS (R171). -/
  | modePress
  /-- MSC takes the oldest event, SET PRESS (R171). -/
  | setPress
  /-- MSC takes the oldest event, SET RELEASE (R171). -/
  | setRelease
  /-- MSC takes the oldest event, SET HOLD (R171). -/
  | setHold
  /-- MSC takes the oldest event, RESET PRESS (R171). -/
  | resetPress
  /-- MSC takes the oldest event, RESET HOLD (R86). -/
  | resetHold
  /-- MSC takes the oldest event, CHECK PRESS (R171). -/
  | checkPress
  /-- MSC takes the oldest event, CHECK HOLD (R169). -/
  | checkHold
  /-- MSC takes the oldest event, CHECK+RESET LONG (R185). -/
  | checkResetLong
  /-- MSC takes the oldest event, one that has no action in the present state (R171). -/
  | ignoredButtonEvent
  /-- An 8 ms homing step ends; `closed` is the sampled contact (R71). -/
  | homingStep (gauge : GaugeId) (closed : Bool)
  /-- A lift step ends; `closed` is the contact sampled if the next attempt begins (R71). -/
  | homingLiftStep (gauge : GaugeId) (closed : Bool)
  /-- A step-period boundary of a gauge at rest (R74). -/
  | gaugeRestBoundary (gauge : GaugeId)
  /-- A motion step ends; `closed` is the contact sampled on an arrival at 0 (R75, R77). -/
  | gaugeStepEnd (gauge : GaugeId) (closed : Bool)
  /-- A period boundary of a reversal rest (R76). -/
  | reversalRestBoundary (gauge : GaugeId)
  /-- The 4-period rest at full span ends (R73). -/
  | sweepRestEnd (gauge : GaugeId)
  /-- ODU's 500 ms broadcast timer ends (R41). -/
  | clusterDistanceTimerExpiry
  /-- WNU's 2 s broadcast timer ends (R43). -/
  | clusterWarningsTimerExpiry
  /-- TRC's 2 s broadcast timer ends (R44). -/
  | rearSummaryTimerExpiry
  /-- A unit has been written and read back; `readBack` is what was read (R112). -/
  | storeUnitComplete (readBack : List Byte)
  /-- The 2 s echo wait ends (R115). -/
  | echoWaitExpiry
  /-- A warning's qualify timer ends (R124). -/
  | qualifyTimerExpiry (warning : Warning)
  /-- A warning's release timer ends (R126). -/
  | releaseTimerExpiry (warning : Warning)
  /-- The 5 s running timer ends (R122). -/
  | engineRunningTimerExpiry
  /-- The 3 s link window ends (R123). -/
  | linkWindowExpiry
  /-- The 60 s belt window ends (R123). -/
  | beltWindowExpiry
  /-- A warning's 4 s auto-acknowledge timer ends (R128). -/
  | autoAcknowledgeExpiry (warning : Warning)
  /-- A warning's 60 s re-announce timer ends (R129). -/
  | reannounceTimerExpiry (warning : Warning)
  /-- The 8 s display timer of SERVICE_DUE or SERVICE_SOON ends (R130). -/
  | serviceDisplayTimerExpiry (warning : Warning)
  /-- A one-shot pattern reaches its length (R137). -/
  | patternEnd
  /-- The 100 ms spacing ends (R138). -/
  | spacingExpiry
  /-- The prescaler reaches 32,768 (R156). -/
  | secondPassage
  /-- A part of the trim window ends, `cycles` oscillator cycles after the prescaler was last brought up
  to date, the ending cycle included (R158). -/
  | trimPartEnd (cycles : Nat)
  /-- A trim window ends (R159). -/
  | trimWindowEnd
  /-- A send of the display record ends (R166). -/
  | displaySendEnd
  /-- The peer text's 5 s end (R169). -/
  | peerTextTimerExpiry
  /-- The review's 2 s end (R169). -/
  | reviewTimerExpiry
  /-- The lamp test's 3 s end (R173). -/
  | lampTestExpiry
  /-- Keep-alive supply is applied (R176). -/
  | keepAliveSupplyApplied
  /-- Keep-alive supply is lost (R175). -/
  | keepAliveSupplyLost
  /-- Step 1 ends; `cells` are the cells of the pattern memory that have gone bad since they were last read, each
  with the byte it reads now (R177). -/
  | patternMemoryChecksum (cells : List (Nat × Byte))
  /-- Step 2 ends; `found` is what a supply dip has left in place of the signature, none where it stands as it was
  written, and `ram` has what each location of keep-alive RAM reads back after each of the eight patterns (R178). -/
  | keepAliveSignatureCheck (found : Option (BitVec 16)) (ram : List (Vector Byte 8))
  /-- Step 3 ends (R179). -/
  | configurationRead
  /-- Step 4 ends; `contacts` as for a switch completion, sampled if STARTING ends here (R113, R180). -/
  | ringAndServiceRead (contacts : BitVec 6)
  /-- The courtesy timer ends (R182). -/
  | courtesyTimerExpiry
  /-- The 5 min courtesy cap ends (R182). -/
  | courtesyCapExpiry
  /-- The 500 ms save wait ends (R183). -/
  | saveWaitExpiry
  /-- The 50 ms restart hold ends (R185). -/
  | restartHoldExpiry
  /-- RQS takes the oldest frame, a READ SENSE (R188). -/
  | readSense
  /-- RQS takes the oldest frame, a CLEAR SENSE (R188). -/
  | clearSense
  /-- RQS takes the oldest frame, a READ LOG (R189). -/
  | readLog
  /-- RQS takes the oldest frame, a CLEAR LOG (R134). -/
  | clearLog
  /-- RQS takes the oldest frame, a READ SIGNAL (R189). -/
  | readSignal
  /-- RQS takes the oldest frame, a READ SERVICE (R189). -/
  | readService
  /-- RQS takes the oldest frame, a RESET SERVICE (R150). -/
  | resetService
  /-- RQS takes the oldest frame, a SET CLOCK (R161). -/
  | setClock
  /-- RQS takes the oldest frame, a SET TRIM (R159). -/
  | setTrim
  /-- RQS takes the oldest frame, an ADJUST HOUR (R163). -/
  | adjustHour
  /-- RQS takes the oldest frame, a WRITE CONFIG (R191). -/
  | writeConfig
  /-- RQS takes the oldest frame, a GAUGE TEST; `contacts` are sampled for a FAULTED gauge that homes
  again (R80, R71). -/
  | gaugeTest (contacts : BitVec 6)
  /-- RQS takes the oldest frame, a CHIME TEST (R192). -/
  | chimeTest
  /-- A correctly framed byte arrives (R5). -/
  | byteReceived (b : Byte)
deriving DecidableEq, Repr

end Sys2Proof
end

