-- ==== Sys2Proof/Config.lean ====
section
/-! DEFINITION. The configured values of one start, and the free values.

`Settings` is what the configuration read of step 3 leaves in force for the whole of a start (R179).
The `opaque` constants are values the reference leaves open: they have no body, so no proof can use
what they are. Each is named in the assumption log. -/

namespace Sys2Proof

/-- The configured values in force (the table of R179). -/
structure Settings where
  /-- Station address, 1 to 14. -/
  address : Nat
  /-- Expected source of ENGINE_STATUS. -/
  srcEngine : Nat
  /-- Expected source of TRANS_STATUS. -/
  srcTrans : Nat
  /-- Expected source of BODY_STATUS. -/
  srcBody : Nat
  /-- Pulses per kilometre, PPK. -/
  ppk : Nat
  /-- Tank capacity in dl. -/
  capacity : Nat
  /-- The eight points of the sender table: a reading and a share in half-percent steps (R51). -/
  sender : List (Nat × Nat)
  /-- Refuel threshold in dl (R54). -/
  refuel : Nat
  /-- Reserve level in dl (R121). -/
  reserve : Nat
  /-- Default consumption D10 in 0.1 L/100 km (R97). -/
  d10 : Nat
  /-- Journey gap in minutes (R87). -/
  journeyGap : Nat
  /-- Commit interval in km (R107). -/
  commitKm : Nat
  /-- Courtesy time in seconds (R182). -/
  courtesyS : Nat
  /-- Gauge spans in steps, gauges 1 to 6 (R64). -/
  spans : Vector Nat 6
  /-- Gauge step periods in ms, gauges 1 to 6 (R64). -/
  periods : Vector Nat 6
  /-- Deadband in steps (R64). -/
  deadband : Nat
  /-- Sweep enable (R64). -/
  sweepEnable : Bool
  /-- Ignition filter length in samples (R58). -/
  ignLength : Nat
  /-- Display units: true for IMPERIAL (R93). -/
  imperial : Bool
  /-- The configured clock trim (R165). -/
  clockTrim : Int
  /-- Distance intervals of items 0 to 3 in units of 100 km (R146). -/
  distIntervals : Vector Nat 4
  /-- Day intervals of items 0 to 3 (R146). -/
  dayIntervals : Vector Nat 4
  /-- Short-trip penalty in km (R146). -/
  penaltyKm : Nat
deriving DecidableEq, Repr

/-! ## What the pattern memory defines (R65, R121, R141) -/

/-- The seven tone patterns, numbered 1 to 7 in this order (R137). -/
inductive Pattern where
  | gong1 | gong3 | alarm | chime | bell | tick | call
deriving DecidableEq, Repr

/-- The eight warning lamps (R132). -/
inductive Lamp where
  | oil | temp | brake | charge | fuel | check | belt | service
deriving DecidableEq, Repr

/-- A warning's definition in the pattern memory, its condition apart (R121). -/
structure WarningDefinition where
  cls : Nat
  qualifyMs : Nat
  releaseMs : Nat
  lamp : Option Lamp
  pattern : Option Pattern
  text : List Char
deriving DecidableEq, Repr, Inhabited

/-- A signal record as a condition reads it: the number of its state, in the order of R26, and its value. -/
structure SignalReading where
  signal : Signal
  state : Nat
  value : Option Int
deriving DecidableEq, Repr

namespace Config

/-- Free value: which bits of a byte a cut-off write had already changed, by draw and address
(R119 "the old value, the new value, or a torn mixture"). Log entry 10. -/
opaque tornMask : Nat → Nat → BitVec 8

/-- Free value: whether the unit in progress at SLEEP entry ends verified (R118). Log entry 11. -/
opaque sleepUnitVerifies : Nat → Bool

/-- Free value: a byte of a unit that mismatched on its repeat at SLEEP entry (R118). Log entry 11. -/
opaque sleepMismatchByte : Nat → Nat → BitVec 8

/-- Free value: the bytes of the internal pattern memory, which the reference does not lay out (R177). Log entry 63. -/
opaque patternMemory : List (BitVec 8)

/-- Free value: the definition of a warning that a pattern memory with bad cells holds, by its bytes (R177). Log
entry 63. -/
opaque heldDefinition : List (BitVec 8) → Warning → WarningDefinition

/-- Free value: the signals that the condition of a warning reads as a pattern memory with bad cells holds it, by its
bytes (R177). Log entry 63. -/
opaque heldSignals : List (BitVec 8) → Warning → List Signal

/-- Free value: whether the condition of a warning is true as a pattern memory with bad cells holds it, by its bytes, by
whether a warning with a band is INACTIVE, by the reserve level, by the signals it reads, and by what R123 hands the
warning (R122, R177). Log entry 63. -/
opaque heldCondition :
  List (BitVec 8) → Warning → Bool → Nat → List SignalReading → List Nat → Bool

/-- Free value: the curve of a gauge that a pattern memory with bad cells holds, by its bytes (R177). Log entry 63. -/
opaque heldCurve : List (BitVec 8) → GaugeId → Vector (Int × Nat) 4

/-- Free value: the curve target by a curve whose values do not ascend or whose fractions descend, before GDU's clamp:
by the curve, the span and the value (R65). Log entry 63. -/
opaque unevenCurveTarget : List (Int × Nat) → Nat → Int → Nat

/-- Free value: a peer text that a pattern memory with bad cells holds, by its bytes and the text id (R177). Log
entry 63. -/
opaque heldPeerText : List (BitVec 8) → Nat → List Char

/-- Free value: what a pattern memory with bad cells holds for NO WARNINGS, by its bytes (R177). Log entry 63. -/
opaque heldNoWarnings : List (BitVec 8) → List Char

/-- Free value: what a pattern memory with bad cells holds for SET CLOCK, by its bytes (R177). Log entry 63. -/
opaque heldSetClock : List (BitVec 8) → List Char

/-- Free value: the two bytes that the part writes as its keep-alive signature (R178). Log entry 64. -/
opaque keepAliveSignature : BitVec 16

/-- Free value: whether an attempt on the line at SLEEP entry ends by a bit error (R24). Log entry 12. -/
opaque sleepAttemptFails : Nat → Bool

/-- Free value: the order in which warnings that change together are taken (R131). Log entry 13. -/
opaque order : Nat → Nat

/-- Free value: whether ODU's raise of ODO_RESTORED is taken before WNU's hand-over of the displayed
km (R133). Log entry 14. -/
opaque raiseBeforeHandOver : Nat → Bool

/-- Free value: what a 32-bit distance holds when the exact sum does not fit it (R105). Log entry 15. -/
opaque overflow32 : Nat → BitVec 32

/-- Free value: the speed of a gate whose edges span 0 µs, by the number of intervals (R48). Log entry 16. -/
opaque speedOfZeroSpan : Nat → Nat

/-- Free value: due_km after a penalty larger than it, taken up to the due_km before it (R145, R153). Log
entry 17. -/
opaque dueKmUnderflow : Nat → Nat → BitVec 24

/-- Free value: the two bytes sent for a number of remaining days outside the signed 16-bit range
(R189). Log entry 18. -/
opaque remainingDays16 : Int → BitVec 16

/-- Free value: whether the unit code beside an absent INSTANT figure is the flow code (R168).
Log entry 19. -/
opaque absentInstantIsFlow : Bool

end Config

end Sys2Proof
end

