-- ==== Sys2Proof/Machine/Values.lean ====
section
/-! DEFINITION. The part's fixed tables: numbering, refresh times, what the pattern memory defines as it was made
(warning definitions, texts, gauge curves) and the configuration defaults. -/

namespace Sys2Proof

/-- Signal number, 0 to 17 (2.1). -/
def Signal.ix : Signal → Fin 18
  | .engRpm => 0 | .coolantT => 1 | .oilP => 2 | .engFlags => 3 | .gear => 4 | .transT => 5
  | .doors => 6 | .lamps => 7 | .keyIn => 8 | .belt => 9 | .parkBrake => 10 | .washer => 11
  | .bulbs => 12 | .vehSpeed => 13 | .fuelLevel => 14 | .sysVolt => 15 | .brakeFluid => 16
  | .headlampSw => 17

/-- The signals in the order of their numbers. -/
def Signal.all : List Signal :=
  [.engRpm, .coolantT, .oilP, .engFlags, .gear, .transT, .doors, .lamps, .keyIn, .belt, .parkBrake,
   .washer, .bulbs, .vehSpeed, .fuelLevel, .sysVolt, .brakeFluid, .headlampSw]

/-- The signal of a number, if it names one. -/
def Signal.ofNat? (n : Nat) : Option Signal := Signal.all[n]?

/-- Refresh time T in ms, for peer signals (2.1). -/
def Signal.refreshMs : Signal → Nat
  | .engRpm | .coolantT | .oilP | .engFlags => 300
  | _ => 600

/-- Warning index, the warning's number less 1 (R121). -/
def Warning.ix : Warning → Fin 24
  | .oilPressure => 0 | .coolantHot => 1 | .brakeFluid => 2 | .parkBrakeMoving => 3 | .charge => 4
  | .engineCheck => 5 | .fuelReserve => 6 | .doorOpenMoving => 7 | .transHot => 8 | .gaugeFault => 9
  | .senderFault => 10 | .engineLinkLost => 11 | .serviceDue => 12 | .bodyLinkLost => 13
  | .washerLow => 14 | .bulbOut => 15 | .belt => 16 | .lightsOn => 17 | .keyIn => 18
  | .odoRestored => 19 | .configDefaults => 20 | .storeFault => 21 | .clockUnset => 22
  | .serviceSoon => 23

/-- The warnings in the order of their numbers. -/
def Warning.all : List Warning :=
  [.oilPressure, .coolantHot, .brakeFluid, .parkBrakeMoving, .charge, .engineCheck, .fuelReserve,
   .doorOpenMoving, .transHot, .gaugeFault, .senderFault, .engineLinkLost, .serviceDue,
   .bodyLinkLost, .washerLow, .bulbOut, .belt, .lightsOn, .keyIn, .odoRestored, .configDefaults,
   .storeFault, .clockUnset, .serviceSoon]

/-- The warning's number, 1 to 24 (R121). -/
def Warning.number (w : Warning) : Nat := w.ix.val + 1

/-- The pattern of a number 1 to 7. -/
def Pattern.ofNat? : Nat → Option Pattern
  | 1 => some .gong1 | 2 => some .gong3 | 3 => some .alarm | 4 => some .chime | 5 => some .bell
  | 6 => some .tick | 7 => some .call | _ => none

/-- ALARM and CHIME sound until ended, the others are one-shot (R137). -/
def Pattern.continuous : Pattern → Bool
  | .alarm | .chime => true
  | _ => false

/-- Length of a one-shot pattern in ms, absent for a continuous one (R137). -/
def Pattern.lengthMs : Pattern → Option Nat
  | .gong1 => some 400 | .gong3 => some 1600 | .alarm => none | .chime => none | .bell => some 6000
  | .tick => some 20 | .call => some 900

/-- What the tone output sounds at a moment: the high tone, the low tone, or nothing (R137). -/
inductive Sound where
  | high | low | silence
deriving DecidableEq, Repr

/-- The frequency of a sound in Hz, 0 for silence (R137). -/
def Sound.hertz : Sound → Nat
  | .high => 2000 | .low => 1000 | .silence => 0

/-- One round of a pattern's sequence: sounds with their lengths in ms (R137). -/
def Pattern.round : Pattern → List (Sound × Nat)
  | .gong1 => [(.low, 400)]
  | .gong3 => [(.low, 400), (.silence, 200), (.low, 400), (.silence, 200), (.low, 400)]
  | .alarm => [(.high, 500), (.low, 500)]
  | .chime => [(.high, 200), (.silence, 800)]
  | .bell => [(.high, 200), (.silence, 300)]
  | .tick => [(.low, 20)]
  | .call => [(.high, 450), (.low, 450)]

/-- How often the round is sounded, absent for until ended (R137). -/
def Pattern.rounds : Pattern → Option Nat
  | .bell => some 12
  | .alarm | .chime => none
  | .gong1 | .gong3 | .tick | .call => some 1

/-- The sound at a time in ms into a run of sounds, silence past its end. -/
def soundIn : List (Sound × Nat) → Nat → Sound
  | [], _ => .silence
  | (x, len) :: rest, ms => if ms < len then x else soundIn rest (ms - len)

/-- The sound of a pattern at a time in ms since it started (R137). -/
def Pattern.soundAt (p : Pattern) (ms : Nat) : Sound :=
  let length := (p.round.map (·.2)).sum
  match p.rounds with
  | some n => if ms < n * length then soundIn p.round (ms % length) else .silence
  | none => soundIn p.round (ms % length)

/-- Warning class (R121). -/
def Warning.cls : Warning → Nat
  | .oilPressure | .coolantHot | .brakeFluid | .parkBrakeMoving => 0
  | .charge | .engineCheck | .fuelReserve | .doorOpenMoving | .transHot | .gaugeFault | .senderFault
  | .engineLinkLost | .serviceDue => 1
  | .bodyLinkLost | .washerLow | .bulbOut | .belt | .lightsOn | .keyIn | .odoRestored
  | .configDefaults | .storeFault | .clockUnset => 2
  | .serviceSoon => 3

/-- Qualify time in ms (R121). SERVICE_DUE and SERVICE_SOON have none: R130 announces them. -/
def Warning.qualifyMs : Warning → Nat
  | .oilPressure => 2000 | .coolantHot => 5000 | .brakeFluid => 2000 | .parkBrakeMoving => 2000
  | .charge => 10000 | .engineCheck => 1000 | .fuelReserve => 30000 | .doorOpenMoving => 1000
  | .transHot => 5000 | .gaugeFault => 0 | .senderFault => 0 | .engineLinkLost => 0
  | .serviceDue => 0 | .bodyLinkLost => 0 | .washerLow => 10000 | .bulbOut => 2000 | .belt => 0
  | .lightsOn => 0 | .keyIn => 0 | .odoRestored => 0 | .configDefaults => 0 | .storeFault => 0
  | .clockUnset => 0 | .serviceSoon => 0

/-- Release time in ms (R121). -/
def Warning.releaseMs : Warning → Nat
  | .oilPressure => 2000 | .coolantHot => 5000 | .brakeFluid => 2000 | .parkBrakeMoving => 1000
  | .charge => 5000 | .engineCheck => 5000 | .fuelReserve => 0 | .doorOpenMoving => 1000
  | .transHot => 5000 | .gaugeFault => 0 | .senderFault => 2000 | .engineLinkLost => 1000
  | .serviceDue => 0 | .bodyLinkLost => 1000 | .washerLow => 10000 | .bulbOut => 2000 | .belt => 0
  | .lightsOn => 0 | .keyIn => 0 | .odoRestored => 0 | .configDefaults => 0 | .storeFault => 0
  | .clockUnset => 0 | .serviceSoon => 0

/-- The lamp a warning is mapped to (R121, R132). -/
def Warning.lamp : Warning → Option Lamp
  | .oilPressure => some .oil | .coolantHot => some .temp | .brakeFluid => some .brake
  | .parkBrakeMoving => some .brake | .charge => some .charge | .engineCheck => some .check
  | .fuelReserve => some .fuel | .doorOpenMoving => none | .transHot => some .temp
  | .gaugeFault => some .check | .senderFault => some .fuel | .engineLinkLost => some .check
  | .serviceDue => some .service | .bodyLinkLost => none | .washerLow => none | .bulbOut => none
  | .belt => some .belt | .lightsOn => none | .keyIn => none | .odoRestored => none
  | .configDefaults => none | .storeFault => none | .clockUnset => none | .serviceSoon => some .service

/-- The chime pattern of a warning (R121). -/
def Warning.pattern : Warning → Option Pattern
  | .oilPressure | .coolantHot | .brakeFluid | .parkBrakeMoving => some .alarm
  | .charge | .engineCheck | .fuelReserve | .doorOpenMoving | .transHot | .gaugeFault | .senderFault
  | .engineLinkLost | .serviceDue => some .gong3
  | .bodyLinkLost | .washerLow | .bulbOut => some .gong1
  | .belt => some .bell
  | .lightsOn | .keyIn => some .chime
  | .odoRestored | .configDefaults | .storeFault | .clockUnset => some .gong1
  | .serviceSoon => none

/-- The display text of a warning, at most 16 characters (R121). -/
def Warning.text : Warning → List Char
  | .oilPressure => ['O','I','L',' ','P','R','E','S','S','U','R','E',' ','L','O','W']
  | .coolantHot => ['E','N','G','I','N','E',' ','O','V','E','R','H','E','A','T']
  | .brakeFluid => ['B','R','A','K','E',' ','F','L','U','I','D',' ','L','O','W']
  | .parkBrakeMoving => ['R','E','L','E','A','S','E',' ','P','A','R','K',' ','B','R','K']
  | .charge => ['C','H','A','R','G','I','N','G',' ','F','A','U','L','T']
  | .engineCheck => ['C','H','E','C','K',' ','E','N','G','I','N','E']
  | .fuelReserve => ['F','U','E','L',' ','R','E','S','E','R','V','E']
  | .doorOpenMoving => ['D','O','O','R',' ','O','P','E','N']
  | .transHot => ['G','E','A','R','B','O','X',' ','H','O','T']
  | .gaugeFault => ['G','A','U','G','E',' ','F','A','U','L','T']
  | .senderFault => ['F','U','E','L',' ','S','E','N','D','E','R',' ','F','L','T']
  | .engineLinkLost => ['N','O',' ','E','N','G','I','N','E',' ','D','A','T','A']
  | .serviceDue => ['S','E','R','V','I','C','E',' ','D','U','E']
  | .bodyLinkLost => ['N','O',' ','B','O','D','Y',' ','D','A','T','A']
  | .washerLow => ['W','A','S','H','E','R',' ','F','L','U','I','D',' ','L','O','W']
  | .bulbOut => ['B','U','L','B',' ','F','A','I','L','U','R','E']
  | .belt => ['F','A','S','T','E','N',' ','B','E','L','T']
  | .lightsOn => ['L','I','G','H','T','S',' ','O','N']
  | .keyIn => ['K','E','Y',' ','I','N',' ','L','O','C','K']
  | .odoRestored => ['O','D','O',' ','R','E','S','T','O','R','E','D']
  | .configDefaults => ['C','O','N','F','I','G',' ','D','E','F','A','U','L','T','S']
  | .storeFault => ['M','E','M','O','R','Y',' ','F','A','U','L','T']
  | .clockUnset => ['S','E','T',' ','C','L','O','C','K']
  | .serviceSoon => ['S','E','R','V','I','C','E',' ','S','O','O','N']

/-- The definition of a warning in the pattern memory as it was made, its condition apart (R121). -/
def Warning.definition (w : Warning) : WarningDefinition :=
  { cls := w.cls, qualifyMs := w.qualifyMs, releaseMs := w.releaseMs, lamp := w.lamp, pattern := w.pattern,
    text := w.text }

/-- The peer texts 1 to 5 (R141). An id that names none is empty. -/
def peerTextChars : Nat → List Char
  | 1 => ['P','A','S','S','E','N','G','E','R',' ','C','A','L','L']
  | 2 => ['P','A','S','S','E','N','G','E','R',' ','R','E','A','D','Y']
  | 3 => ['R','E','A','R',' ','D','O','O','R',' ','O','P','E','N']
  | 4 => ['R','E','A','R',' ','B','E','L','T',' ','O','P','E','N']
  | 5 => ['T','E','S','T','E','R',' ','A','C','T','I','V','E']
  | _ => []

/-- The text of a review of an empty list (R167). -/
def noWarningsChars : List Char := ['N', 'O', ' ', 'W', 'A', 'R', 'N', 'I', 'N', 'G', 'S']

/-- The text of clock-set mode before its space and the time (R167). -/
def setClockChars : List Char := ['S', 'E', 'T', ' ', 'C', 'L', 'O', 'C', 'K']

/-- Gauge index, the gauge's number less 1 (R64). -/
def GaugeId.ix : GaugeId → Fin 6
  | .speed => 0 | .tacho => 1 | .fuel => 2 | .coolant => 3 | .oil => 4 | .volt => 5

/-- The gauges in the order of their numbers. -/
def GaugeId.all : List GaugeId := [.speed, .tacho, .fuel, .coolant, .oil, .volt]

/-- The signal a gauge reads (R64). -/
def GaugeId.signal : GaugeId → Signal
  | .speed => .vehSpeed | .tacho => .engRpm | .fuel => .fuelLevel | .coolant => .coolantT
  | .oil => .oilP | .volt => .sysVolt

/-- The four curve points of a gauge: a signal value and a fraction of the span in 1/256 (R65). -/
def GaugeId.curve : GaugeId → List (Int × Nat)
  | .speed => [(0, 0), (200, 16), (2400, 236), (2600, 256)]
  | .tacho => [(0, 0), (1000, 32), (7000, 224), (8000, 256)]
  | .fuel => [(0, 0), (32, 24), (224, 232), (256, 256)]
  | .coolant => [(40, 0), (75, 128), (105, 128), (130, 256)]
  | .oil => [(0, 0), (100, 64), (500, 192), (700, 256)]
  | .volt => [(80, 0), (110, 64), (150, 192), (180, 256)]

/-- Switch line index (3.4). -/
def SwitchLine.ix : SwitchLine → Fin 5
  | .ignition => 0 | .driverDoor => 1 | .headlamp => 2 | .brakeFluid => 3 | .spare => 4

/-- Button index (3.5). -/
def Button.ix : Button → Fin 4
  | .mode => 0 | .set => 1 | .reset => 2 | .check => 3

/-- The four service items, 0 to 3 in this order (chapter 8). -/
inductive ServiceItem where
  | engineOil | inspection | transmissionFluid | sparkAndFilters
deriving DecidableEq, Repr

/-- Service item number (chapter 8). -/
def ServiceItem.ix : ServiceItem → Fin 4
  | .engineOil => 0 | .inspection => 1 | .transmissionFluid => 2 | .sparkAndFilters => 3

/-- The service items in order. -/
def ServiceItem.all : List ServiceItem := [.engineOil, .inspection, .transmissionFluid, .sparkAndFilters]

/-- The item of a number 0 to 3. -/
def ServiceItem.ofNat? (n : Nat) : Option ServiceItem := ServiceItem.all[n]?

/-- The default sender table (R52). -/
def defaultSender : List (Nat × Nat) :=
  [(232, 0), (204, 25), (176, 50), (148, 80), (120, 110), (92, 140), (64, 170), (36, 200)]

/-- The configuration with every field at its default (R179, R64, R146). -/
def Settings.default : Settings where
  address := 4
  srcEngine := 1
  srcTrans := 2
  srcBody := 3
  ppk := 4000
  capacity := 900
  sender := defaultSender
  refuel := 50
  reserve := 80
  d10 := 180
  journeyGap := 120
  commitKm := 2
  courtesyS := 30
  spans := #v[960, 840, 360, 360, 360, 360]
  periods := #v[1, 1, 8, 8, 4, 8]
  deadband := 2
  sweepEnable := true
  ignLength := 32
  imperial := false
  clockTrim := 0
  distIntervals := #v[150, 200, 250, 250]
  dayIntervals := #v[365, 730, 0, 1095]
  penaltyKm := 20

end Sys2Proof
end

