-- ==== Sys2Proof/Machine/State.lean ====
section
/-! DEFINITION. The state of the block: one structure for each of its thirteen blocks, the configured
values of the present start, the serial memory at the store port, and the queue of waiting commands.
All of it is plain data. INVENTORY.md lists every field with its rule and reset value. -/

namespace Sys2Proof.Machine

open Sys2Proof

/-- A timer: stopped, or running since it was last started, at so many milliseconds. -/
abbrev Timer := Option Nat

/-! ## Link Station (chapter 1) -/

/-- The kinds of frame; kind 3 is not a frame (R3). -/
inductive FrameKind where
  | broadcast | directed | response
deriving DecidableEq, Repr

/-- A frame's contents, its check apart (R3). -/
structure Frame where
  cls : Nat
  kind : FrameKind
  source : Nat
  target : Option Nat
  id : Byte
  data : List Byte
deriving DecidableEq, Repr

/-- The receiver; in a frame it holds the bytes so far, header first (R5). -/
inductive Receiver where
  | waiting
  | inFrame (bytes : List Byte)
  | skipping
deriving DecidableEq, Repr

/-- The transmitter's states (R8). -/
inductive TxState where
  | idle | waitingIdle | sending | breaking | paused | muted
deriving DecidableEq, Repr

/-- A transmit queue entry (1.6). `entered` orders entries by time of entry. -/
structure TxEntry where
  frame : Frame
  entered : Nat
  failed : Nat
  held : Option Frame
  underAttempt : Bool
deriving DecidableEq, Repr

/-- The states of a roster entry (1.8). -/
inductive Presence where
  | never | present | silent
deriving DecidableEq, Repr

/-- A roster entry: its state and its 2 s presence timer (1.8). -/
structure RosterEntry where
  presence : Presence
  timer : Timer
deriving DecidableEq, Repr

/-- The six link counters (R21). -/
structure LinkCounters where
  checkErrors : Nat
  truncated : Nat
  foreign : Nat
  txAbandoned : Nat
  txDisplaced : Nat
  ringOverflow : Nat
deriving DecidableEq, Repr

/-- The Link Station. -/
structure Link where
  listening : Bool
  receiver : Receiver
  tx : TxState
  /-- The 100 ms pause or the 1 s mute (R8). -/
  txTimer : Timer
  /-- Recessive bt since the line was last dominant, as far as the commands have told (R8). -/
  idleCount : Nat
  /-- Consecutive abandoned frames (R8). -/
  abandonRun : Nat
  txQueue : List TxEntry
  ring : List Frame
  /-- Stations 1 to 14. -/
  roster : Vector RosterEntry 14
  counters : LinkCounters
deriving DecidableEq, Repr

/-! ## Signal Table (chapter 2) -/

/-- The states of a signal record (R26). -/
inductive SigState where
  | never | fresh | stale | lost | invalid
deriving DecidableEq, Repr

/-- A signal record (R26); a flag signal's value holds its flags as bits (R194). -/
structure SignalRecord where
  value : Option Int
  state : SigState
  /-- Expected source, 0 for a local signal. -/
  expected : Nat
  timer : Timer
  count : Nat
deriving DecidableEq, Repr

/-! ## Input Unit (chapter 3) -/

/-- The speed gate (R48, R49). Times within the gate are in µs from its opening. -/
structure SpeedGate where
  isOpen : Bool
  edges : Nat
  firstUs : Nat
  lastUs : Nat
  /-- µs from the last edge of an earlier gate to the opening of this one; absent if none. -/
  sinceEdge : Option Nat
  /-- The last speed computed in this start. -/
  computed : Option Nat
deriving DecidableEq, Repr

/-- The fuel sender's state (R50, R53, R54). -/
structure FuelInput where
  bad : Nat
  f64 : Option Nat
  averaging : Bool
  good : Nat
  sum : Nat
deriving DecidableEq, Repr

/-- A switch filter (R57): `last` is the last sample taken, absent until the first sample after it has
started anew; `completed` once it has completed since then. -/
structure SwitchFilter where
  level : Level
  last : Option Level
  run : Nat
  completed : Bool
deriving DecidableEq, Repr

/-- A button debouncer (R60): `last` is the last sample taken, absent until the first sample of a start
settles the position. -/
structure Debouncer where
  position : Contact
  last : Option Contact
  run : Nat
  hold : Timer
  holdGiven : Bool
  locked : Bool
deriving DecidableEq, Repr

/-- A button event (R62). -/
inductive ButtonEvent where
  | press (b : Button)
  | hold (b : Button)
  | long
  | release (b : Button)
  | releaseAfterHold (b : Button)
deriving DecidableEq, Repr

/-- The OVERRUN flag (R62), with the reading of it by a taking whose moment has come: clear, and clear with that
reading done; set, and set after that reading. -/
inductive OverrunFlag where
  | clear | clearRead | raised | raisedAfterRead
deriving DecidableEq, Repr

/-- The Input Unit. -/
structure Input where
  residue : Nat
  gate : SpeedGate
  fuel : FuelInput
  filters : Vector SwitchFilter 5
  /-- The ignition filter length in force (R58). -/
  ignLength : Nat
  buttons : Vector Debouncer 4
  /-- The 10 s timer of CHECK and RESET together (R61). -/
  longTimer : Timer
  events : List ButtonEvent
  overrun : OverrunFlag
deriving DecidableEq, Repr

/-! ## Gauge Drive (chapter 4) -/

/-- The states of a gauge (R69). -/
inductive GaugeState where
  | unhomed | homing | sweep | tracking | faulted | parking | parked
deriving DecidableEq, Repr

/-- The motion of a gauge (R69). -/
inductive Motion where
  | atRest | movingUp | movingDown | reversalRest
deriving DecidableEq, Repr

/-- The part of a sweep in progress (R73). -/
inductive SweepPhase where
  | toSpan | atSpan | toZero
deriving DecidableEq, Repr

/-- A gauge record (R69). `lift` counts the lift steps between homing attempts (R71); `staleTarget` is
the target the gauge had when its record last became STALE (R67). -/
structure Gauge where
  state : GaugeState
  position : Nat
  target : Nat
  motion : Motion
  ramp : Nat
  rest : Nat
  attempt : Nat
  steps : Nat
  lift : Option Nat
  phase : SweepPhase
  sweepMark : Bool
  testMark : Bool
  staleTarget : Nat
deriving DecidableEq, Repr

/-- The Gauge Drive. -/
structure GaugeDrive where
  gauges : Vector Gauge 6
  parkInForce : Bool
deriving DecidableEq, Repr

/-! ## Trip Computer (chapter 5) and Clock Unit (chapter 9) -/

/-- A stamp: day number and second of day (R164). -/
structure Stamp where
  day : Nat
  second : Nat
deriving DecidableEq, Repr

/-- The three trips. -/
inductive Trip where
  | a | b | journey
deriving DecidableEq, Repr

/-- A trip record (R84). -/
structure TripRecord where
  distance : Nat
  fuel : Nat
  run : Nat
  startOdometer : Nat
  startStamp : Option Stamp
  fuelGap : Bool
  awaiting : Bool
deriving DecidableEq, Repr

/-- The basis of a held range (R97). -/
inductive RangeBasis where
  | window | default
deriving DecidableEq, Repr

/-- The held range to empty (R97). -/
structure HeldRange where
  metres : Nat
  basis : RangeBasis
  level : Nat
deriving DecidableEq, Repr

/-- The instant figure with its kind (R95). -/
inductive InstantFigure where
  | consumption (tenths : Nat)
  | flow (tenths : Nat)
deriving DecidableEq, Repr

/-- The Trip Computer. `window` holds the fuel of each closed 2000 m segment, oldest first (R96). -/
structure TripComputer where
  tripA : TripRecord
  tripB : TripRecord
  journey : TripRecord
  fuelRef : Option Nat
  binMetres : Nat
  binFuel : Nat
  instant : Option InstantFigure
  window : List Nat
  openMetres : Nat
  openFuel : Nat
  range : Option HeldRange
  /-- The first RUN entry of a WAKE start is still to come (R87). -/
  journeyRuleDue : Bool
  /-- The last-off stamp of the COURTESY before the SLEEP, held from a WAKE start until the journey rule has read it
  (R87, R164). The Clock Unit's own stamp may be replaced before that, as a COURTESY that followed the start ends. -/
  journeyStamp : Option Stamp
  /-- The 2 s REAR_SUMMARY timer (R44). -/
  rearTimer : Timer
deriving DecidableEq, Repr

/-- The Clock Unit (R156). -/
structure Clock where
  hour : Nat
  minute : Nat
  second : Nat
  day : Nat
  valid : Bool
  prescaler : Nat
  windowCount : Nat
  trim : Int
  pendingTrim : Option Int
  lastOff : Option Stamp
deriving DecidableEq, Repr

/-! ## Odometer Unit and Store Controller (chapter 6) -/

/-- The commit states (R107). -/
inductive CommitState where
  | clear | waiting | writing | deferred
deriving DecidableEq, Repr

/-- The Odometer Unit. -/
structure Odometer where
  committed : Nat
  pending : Nat
  verified : Option Nat
  commit : CommitState
  retryPoint : Nat
  /-- A COURTESY-end save asked during WRITING (R117). -/
  saveMark : Bool
  restored : Bool
  /-- The start resolution has ended (R116). -/
  resolved : Bool
  /-- The base of R114. -/
  base : Option Nat
  /-- R114 calls for a commit at the end of the resolution. -/
  baseCommit : Bool
  /-- The 2 s echo wait (R115). -/
  echoWait : Timer
  /-- The 500 ms CLUSTER_DISTANCE timer (R41). -/
  distTimer : Timer
  /-- The offer of this COURTESY period has been made (R41). -/
  courtesyOffered : Bool
deriving DecidableEq, Repr

/-- A service record's fields, its check apart (R145). -/
structure ServiceRecord where
  dueKm : Nat
  dueDay : Option Nat
  penalty : Nat
deriving DecidableEq, Repr

/-- One item of a service job; `carriesReset` when its contents are those of a RESET SERVICE whose
report is awaited (R150). -/
structure ServiceEntry where
  item : ServiceItem
  record : ServiceRecord
  carriesReset : Bool
deriving DecidableEq, Repr

/-- A store job as it is being written (R111, R112). -/
inductive Job where
  | odometer (value : Nat) (mark : Bool) (slot : Nat)
  | service (entries : List ServiceEntry)
  | configuration (image : List Byte)
deriving DecidableEq, Repr

/-- The job in progress: the unit being written and whether this is its repeat (R112). -/
structure ActiveJob where
  job : Job
  unit : Nat
  repeated : Bool
deriving DecidableEq, Repr

/-- A waiting odometer job (R107). -/
structure OdometerJob where
  value : Nat
  mark : Bool
deriving DecidableEq, Repr

/-- The Store Controller. -/
structure StoreController where
  /-- Jobs may begin: the start reads have ended and the part is awake (R111). -/
  portOpen : Bool
  active : Option ActiveJob
  waitOdometer : Option OdometerJob
  /-- The waiting service job, in item order; empty when none waits. -/
  waitService : List ServiceEntry
  waitConfiguration : Bool
  writePos : Nat
  fault : Bool
deriving DecidableEq, Repr

/-- The serial memory's contents (R113): a list of (address, byte) in canonical form. -/
abbrev Memory := List Host.Cell

/-! ## Warning Unit (chapter 7) -/

/-- The states of a warning (R124, R126). -/
inductive WarnState where
  | inactive | pending | active | acknowledged | clearing
deriving DecidableEq, Repr

/-- A warning's status record (R124). -/
structure WarningRecord where
  state : WarnState
  /-- While CLEARING: the held state is ACKNOWLEDGED. -/
  heldAck : Bool
  /-- The qualify timer in PENDING, the release timer in CLEARING. -/
  timer : Timer
  activation : Nat
  /-- It has headed the unacknowledged list since its announcement (R128). -/
  headed : Bool
  autoAck : Timer
  reannounce : Timer
  /-- The 8 s display timer (R130). -/
  display : Timer
deriving DecidableEq, Repr

/-- A warning log entry (R133). -/
structure LogEntry where
  warning : Warning
  stamp : Option Stamp
  km : Option Nat
deriving DecidableEq, Repr

/-- The source of a chime request (R135). -/
inductive ChimeSource where
  | warning (w : Warning)
  | station (address : Nat)
deriving DecidableEq, Repr

/-- A chime request (R135). -/
structure ChimeRequest where
  source : ChimeSource
  pattern : Pattern
  cls : Nat
  entered : Nat
deriving DecidableEq, Repr

/-- The tone output (R138). -/
inductive Tone where
  | silent
  | idle
  | sounding (r : ChimeRequest)
  | spacing
deriving DecidableEq, Repr

/-- The Warning Unit. -/
structure WarningUnit where
  records : Vector WarningRecord 24
  list : List Warning
  log : List LogEntry
  overflow : Nat
  counts : Vector Nat 24
  chimes : List ChimeRequest
  tone : Tone
  /-- The engine was running when last worked out (R122). -/
  engineRunning : Bool
  runningTimer : Timer
  /-- The running timer has expired since the engine became running (R122). -/
  runningLong : Bool
  linkWindow : Timer
  beltWindow : Timer
  odoRestored : Bool
  configDefaults : Bool
  /-- The 2 s CLUSTER_WARNINGS timer (R43). -/
  broadcastTimer : Timer
deriving DecidableEq, Repr

/-! ## Service Reminder Unit (chapter 8) -/

/-- A service item's working copy and marks (R145). -/
structure ServiceState where
  record : ServiceRecord
  awaiting : Bool
  dirty : Bool
deriving DecidableEq, Repr

/-- An open drive (R152). -/
structure Drive where
  baseline : Nat
  carried : Nat
  warm : Bool
deriving DecidableEq, Repr

/-- The Service Reminder Unit. -/
structure ServiceUnit where
  items : Vector ServiceState 4
  oilReset : Bool
  drive : Option Drive
  /-- A RESET SERVICE held for the displayed km (R150). -/
  heldReset : Option ServiceItem
deriving DecidableEq, Repr

/-! ## Message Centre (chapter 10) -/

/-- The display record (R166). -/
structure DisplayRecord where
  text : List Char
  blink : Bool
  low : Bool
deriving DecidableEq, Repr

/-- The eight items (R168). -/
inductive Item where
  | distance | average | speed | time | fuel | range | instant | clock
deriving DecidableEq, Repr

/-- A peer text on show with its station (R169). -/
structure PeerText where
  text : Nat
  station : Nat
deriving DecidableEq, Repr

/-- The lamp test of the present start (R173). -/
inductive LampTest where
  | notRun | running | ended
deriving DecidableEq, Repr

/-- The Message Centre. -/
structure MessageCentre where
  /-- The display record last composed. -/
  composed : DisplayRecord
  /-- The display record last sent; absent before the first send. -/
  lastSent : Option DisplayRecord
  sending : Bool
  trip : Trip
  item : Item
  peerText : Option PeerText
  peerTimer : Timer
  /-- The rest of the review's copy, the warning under review first; empty for NO WARNINGS. -/
  review : Option (List Warning)
  reviewTimer : Timer
  /-- Clock-set mode with the hour and minute being set. -/
  clockSet : Option (Nat × Nat)
  /-- The trip-step mark. -/
  mark : Bool
  downSet : List Button
  lampTest : LampTest
  lampTimer : Timer
deriving DecidableEq, Repr

/-! ## Power Unit (chapter 11) and Request Server (chapter 12) -/

/-- The power states (R175). -/
inductive Power where
  | off | starting | run | courtesy | sleep
deriving DecidableEq, Repr

/-- The kinds of start (R176). -/
inductive StartKind where
  | cold | warm | wake
deriving DecidableEq, Repr

/-- The progress of a start: the restart hold, the four steps, and the wait for the ignition filter
after step 4 (R177, R180, R185). -/
inductive StartStep where
  | none | hold | step1 | step2 | step3 | step4 | done
deriving DecidableEq, Repr

/-- The phases of the end of COURTESY (R183). -/
inductive EndPhase where
  | none | saving | parking
deriving DecidableEq, Repr

/-- The result of step 3 (R177). -/
inductive ConfigResult where
  | allDefaulted
  | defaulted (fields : Nat)
deriving DecidableEq, Repr

/-- The Power Unit. -/
structure PowerUnit where
  state : Power
  kind : StartKind
  step : StartStep
  restartHold : Timer
  /-- Step 3 of the present start has ended. -/
  configured : Bool
  courtesyTimer : Timer
  courtesyCap : Timer
  endPhase : EndPhase
  saveWait : Timer
  pendingWake : Bool
  /-- The internal pattern memory, as it stands (R177). -/
  patternMemory : List Byte
  /-- The model's own mark that some cell of the pattern memory has gone bad since the part was made (log entry 63). -/
  patternSpoiled : Bool
  /-- The two bytes at the signature's place in keep-alive RAM (R178). -/
  signature : BitVec 16
  patternFail : Bool
  signatureBad : Bool
  failedLocations : Nat
  configResult : ConfigResult
deriving DecidableEq, Repr

/-- The configuration write status (R188). -/
inductive WriteStatus where
  | none | queued | written | failed
deriving DecidableEq, Repr

/-- A request in service (R187). -/
structure ServedRequest where
  id : Byte
  requester : Nat
deriving DecidableEq, Repr

/-- The Request Server with the sense record's own values. -/
structure RequestServer where
  inService : Option ServedRequest
  lastError : Byte
  staging : List Byte
  writeStatus : WriteStatus
deriving DecidableEq, Repr

/-! ## The whole state -/

/-- The state of the ZELPACT 362 and of the serial memory at its store port. -/
structure State where
  power : PowerUnit
  link : Link
  signals : Vector SignalRecord 18
  input : Input
  gdu : GaugeDrive
  trc : TripComputer
  odo : Odometer
  stc : StoreController
  wnu : WarningUnit
  sru : ServiceUnit
  clock : Clock
  msc : MessageCentre
  rqs : RequestServer
  settings : Settings
  /-- The serial memory. -/
  store : Memory
  /-- The model's own count of moments, which orders times of entry (log entry 9). -/
  seq : Nat
  /-- The model's own count of free values drawn (log entry 9). -/
  draw : Nat
  /-- The commands waiting, first in first out. -/
  pending : List Instr
deriving DecidableEq, Repr

/-- The reasons a step can stop with a fault. -/
inductive Fault where
  /-- A store unit would reach beyond address FFh, the last of the 256-byte serial memory (R113).
  Raised by STORE_UNIT_COMPLETE alone, only in a state whose write position is above 15, which no run
  reaches. Safe: the model stops. -/
  | storeAddress (address : Nat)
deriving DecidableEq, Repr

/-- The reasons a step can be refused. -/
inductive Refusal where
  /-- The command has no meaning yet; raised by `exec`'s arm of that name alone. Safe. -/
  | notModelled (mnemonic : String)
deriving DecidableEq, Repr

/-! ## Block updates -/

/-- Replace one block of the state. -/
def State.setPower (s : State) (v : PowerUnit) : State := { s with power := v }
/-- Replace the Link Station. -/
def State.setLink (s : State) (v : Link) : State := { s with link := v }
/-- Replace the Signal Table. -/
def State.setSignals (s : State) (v : Vector SignalRecord 18) : State := { s with signals := v }
/-- Replace the Input Unit. -/
def State.setInput (s : State) (v : Input) : State := { s with input := v }
/-- Replace the Gauge Drive. -/
def State.setGdu (s : State) (v : GaugeDrive) : State := { s with gdu := v }
/-- Replace the Trip Computer. -/
def State.setTrc (s : State) (v : TripComputer) : State := { s with trc := v }
/-- Replace the Odometer Unit. -/
def State.setOdo (s : State) (v : Odometer) : State := { s with odo := v }
/-- Replace the Store Controller. -/
def State.setStc (s : State) (v : StoreController) : State := { s with stc := v }
/-- Replace the Warning Unit. -/
def State.setWnu (s : State) (v : WarningUnit) : State := { s with wnu := v }
/-- Replace the Service Reminder Unit. -/
def State.setSru (s : State) (v : ServiceUnit) : State := { s with sru := v }
/-- Replace the Clock Unit. -/
def State.setClock (s : State) (v : Clock) : State := { s with clock := v }
/-- Replace the Message Centre. -/
def State.setMsc (s : State) (v : MessageCentre) : State := { s with msc := v }
/-- Replace the Request Server. -/
def State.setRqs (s : State) (v : RequestServer) : State := { s with rqs := v }
/-- Replace the configured values. -/
def State.setSettings (s : State) (v : Settings) : State := { s with settings := v }
/-- Replace the serial memory. -/
def State.setStore (s : State) (v : Memory) : State := { s with store := v }
/-- Replace the moment count. -/
def State.setSeq (s : State) (v : Nat) : State := { s with seq := v }
/-- Replace the draw count. -/
def State.setDraw (s : State) (v : Nat) : State := { s with draw := v }
/-- Replace the command queue. -/
def State.setPending (s : State) (v : List Instr) : State := { s with pending := v }

/-! ## Reset -/

/-- The state at the beginning of STARTING of a COLD start (OFF to STARTING, 11.7), over the serial
memory's and the pattern memory's contents, the model's counters and the command queue, which a start does not touch.
A blank record as the one last sent, with its send in progress, is the model's choice (log entry 53), and so are the
activation time 0 and the held state of a warning that has not been announced (log entry 4). -/
def State.cold (store : Memory) (pattern : List Byte) (spoiled : Bool) (seq draw : Nat) (pending : List Instr) :
    State where
  power :=
    { state := .starting, kind := .cold, step := .step1, restartHold := none, configured := false,
      courtesyTimer := none, courtesyCap := none, endPhase := .none, saveWait := none,
      pendingWake := false, patternMemory := pattern, patternSpoiled := spoiled, signature := 0,
      patternFail := false, signatureBad := false, failedLocations := 0, configResult := .defaulted 0 }
  link :=
    { listening := false, receiver := .waiting, tx := .idle, txTimer := none, idleCount := 0,
      abandonRun := 0, txQueue := [], ring := [],
      roster := Vector.replicate 14 { presence := .never, timer := none },
      counters :=
        { checkErrors := 0, truncated := 0, foreign := 0, txAbandoned := 0, txDisplaced := 0,
          ringOverflow := 0 } }
  signals :=
    Vector.replicate 18 { value := none, state := .never, expected := 0, timer := none, count := 0 }
  input :=
    { residue := 0,
      gate :=
        { isOpen := false, edges := 0, firstUs := 0, lastUs := 0, sinceEdge := none,
          computed := none },
      fuel := { bad := 0, f64 := none, averaging := false, good := 0, sum := 0 },
      filters := Vector.replicate 5
        { level := .inactive, last := none, run := 1, completed := false },
      ignLength := 512,
      buttons := Vector.replicate 4
        { position := .up, last := none, run := 1, hold := none, holdGiven := false,
          locked := false },
      longTimer := none, events := [], overrun := .clear }
  gdu :=
    { gauges := Vector.replicate 6
        { state := .unhomed, position := 0, target := 0, motion := .atRest, ramp := 0, rest := 0,
          attempt := 1, steps := 0, lift := none, phase := .toSpan, sweepMark := false,
          testMark := false, staleTarget := 0 },
      parkInForce := false }
  trc :=
    { tripA :=
        { distance := 0, fuel := 0, run := 0, startOdometer := 0, startStamp := none,
          fuelGap := false, awaiting := true },
      tripB :=
        { distance := 0, fuel := 0, run := 0, startOdometer := 0, startStamp := none,
          fuelGap := false, awaiting := true },
      journey :=
        { distance := 0, fuel := 0, run := 0, startOdometer := 0, startStamp := none,
          fuelGap := false, awaiting := true },
      fuelRef := none, binMetres := 0, binFuel := 0, instant := none, window := [],
      openMetres := 0, openFuel := 0, range := none, journeyRuleDue := false, journeyStamp := none
      rearTimer := none }
  odo :=
    { committed := 0, pending := 0, verified := none, commit := .clear, retryPoint := 0,
      saveMark := false, restored := false, resolved := false, base := none, baseCommit := false,
      echoWait := none, distTimer := none, courtesyOffered := false }
  stc :=
    { portOpen := false, active := none, waitOdometer := none, waitService := [],
      waitConfiguration := false, writePos := 0, fault := false }
  wnu :=
    { records := Vector.replicate 24
        { state := .inactive, heldAck := false, timer := none, activation := 0, headed := false,
          autoAck := none, reannounce := none, display := none },
      list := [], log := [], overflow := 0, counts := Vector.replicate 24 0, chimes := [],
      tone := .silent, engineRunning := false, runningTimer := none, runningLong := false,
      linkWindow := none, beltWindow := none, odoRestored := false, configDefaults := false,
      broadcastTimer := none }
  sru :=
    { items := Vector.replicate 4
        { record := { dueKm := 0, dueDay := none, penalty := 0 }, awaiting := false, dirty := false },
      oilReset := false, drive := none, heldReset := none }
  clock :=
    { hour := 0, minute := 0, second := 0, day := 0, valid := false, prescaler := 0,
      windowCount := 0, trim := 0, pendingTrim := none, lastOff := none }
  msc :=
    { composed := { text := List.replicate 16 ' ', blink := false, low := false },
      lastSent := some { text := List.replicate 16 ' ', blink := false, low := false },
      sending := true, trip := .a, item := .distance, peerText := none, peerTimer := none,
      review := none, reviewTimer := none, clockSet := none, mark := false, downSet := [],
      lampTest := .notRun, lampTimer := none }
  rqs :=
    { inService := none, lastError := 0, staging := List.replicate 62 0, writeStatus := .none }
  settings := Settings.default
  store := store
  seq := seq
  draw := draw
  pending := pending

/-- The machine right after reset: keep-alive supply has just been applied to a part whose serial
memory is blank, and a COLD start begins (R176). What the bytes of its pattern memory are is free, and none of its cells has gone bad
(log entry 63). -/
def State.reset : State := State.cold [] Config.patternMemory false 0 0 []

end Sys2Proof.Machine
end

