-- ==== Sys2Proof/Machine/Operands.lean ====
section
/-! DEFINITION. Byte forms: multi-byte values, the levels of a byte on the line, the frame header and
check, the odometer slot, the service record and the configuration block (R1 to R4, R109, R145, R179,
R193, R195). -/

namespace Sys2Proof.Machine

open Sys2Proof

/-! ## Multi-byte values, most significant byte first (chapter 13) -/

/-- The number that bytes spell, most significant first. -/
def beNat (bs : List Byte) : Nat := bs.foldl (fun n b => 256 * n + b.toNat) 0

/-- The `n` low bytes of a number, most significant first. -/
def beBytes : Nat → Nat → List Byte
  | 0, _ => []
  | n + 1, v => BitVec.ofNat 8 (v / 256 ^ n) :: beBytes n v

/-- Byte `i` of a list, 00h past its end. -/
def byteAt (bs : List Byte) (i : Nat) : Byte := bs.getD i 0

/-- The `n` bytes from offset `i`. -/
def slice (bs : List Byte) (i n : Nat) : List Byte := (bs.drop i).take n

/-- A signed number in `n` bytes, two's complement. -/
def signedBytes (n : Nat) (v : Int) : List Byte := beBytes n (v % (256 ^ n : Nat)).toNat

/-- Bit `i` of a byte. -/
def bit (b : Byte) (i : Nat) : Bool := b.getLsbD i

/-- Bit `i` of a byte as a number. -/
def bitNat (b : Byte) (i : Nat) : Nat := if bit b i then 1 else 0

/-! ## Rotate-XOR checks (R4, R109, R145) -/

/-- Rotate a byte left by one bit. -/
def rotl (b : Byte) : Byte := b.rotateLeft 1

/-- XOR each byte in and rotate left by one bit. -/
def rotateXor (start : Byte) (bs : List Byte) : Byte := bs.foldl (fun v b => rotl (v ^^^ b)) start

/-- The check of a frame over every byte from the header to the last data byte (R4). -/
def frameCheck : List Byte → Byte
  | [] => 0
  | header :: rest => rotateXor (rotl header) rest

/-! ## Frames (R3, R193) -/

/-- Class field of a header: bits 0 and 1 hold class bits 1 and 0. -/
def headerCls (h : Byte) : Nat := 2 * bitNat h 0 + bitNat h 1

/-- Kind field of a header as a number, 0 to 3: bits 2 and 3 hold kind bits 1 and 0. -/
def headerKindCode (h : Byte) : Nat := 2 * bitNat h 2 + bitNat h 3

/-- Source field of a header: bits 4 to 7 hold source bits 3 to 0. -/
def headerSource (h : Byte) : Nat := 8 * bitNat h 4 + 4 * bitNat h 5 + 2 * bitNat h 6 + bitNat h 7

/-- The kind of a code; kind 3 is not a frame (R3). -/
def FrameKind.ofCode : Nat → Option FrameKind
  | 0 => some .broadcast
  | 1 => some .directed
  | 2 => some .response
  | _ => none

/-- The code of a kind (R3). -/
def FrameKind.code : FrameKind → Nat
  | .broadcast => 0 | .directed => 1 | .response => 2

/-- A header with a kind of 3 or source 0 ends the frame (R5). -/
def headerBad (h : Byte) : Bool := headerKindCode h == 3 || headerSource h == 0

/-- The header byte of class, kind and source, its fields bit-reversed (R193). -/
def headerByte (cls : Nat) (kind : FrameKind) (source : Nat) : Byte :=
  BitVec.ofNat 8
    ((cls / 2 % 2) + 2 * (cls % 2) + 4 * (kind.code / 2 % 2) + 8 * (kind.code % 2)
      + 16 * (source / 8 % 2) + 32 * (source / 4 % 2) + 64 * (source / 2 % 2) + 128 * (source % 2))

/-- Whether a header announces a target byte: DIRECTED and RESPONSE do (R3). -/
def headerHasTarget (h : Byte) : Bool := headerKindCode h != 0

/-- The offset of the length byte in a frame with this header (R3). -/
def lengthOffset (h : Byte) : Nat := if headerHasTarget h then 3 else 2

/-- What the next byte of a frame in progress is. -/
inductive NextField where
  | body | length | check
deriving DecidableEq, Repr

/-- The field that the next byte fills, by the bytes so far (R5 "from the header it knows whether a
target byte follows; from the length byte it knows how many data bytes follow"). -/
def nextField (bytes : List Byte) : NextField :=
  let h := byteAt bytes 0
  let at_ := lengthOffset h
  if bytes.length < at_ then .body
  else if bytes.length = at_ then .length
  else if bytes.length < at_ + 1 + (byteAt bytes at_).toNat then .body
  else .check

/-- The frame that the bytes before the check spell (R3, R193). -/
def frameOfBytes (bytes : List Byte) : Option Frame :=
  let h := byteAt bytes 0
  let at_ := lengthOffset h
  match FrameKind.ofCode (headerKindCode h) with
  | none => none
  | some kind =>
    some
      { cls := headerCls h, kind := kind, source := headerSource h,
        target := if headerHasTarget h then some (byteAt bytes 1).toNat else none,
        id := byteAt bytes (at_ - 1),
        data := slice bytes (at_ + 1) (byteAt bytes at_).toNat }

/-- The bytes of a frame before its check (R3). -/
def frameBody (f : Frame) : List Byte :=
  headerByte f.cls f.kind f.source
    :: (match f.target with
        | some t => [BitVec.ofNat 8 t]
        | none => [])
    ++ f.id :: BitVec.ofNat 8 f.data.length :: f.data

/-- A frame as it goes on the line, with its check (R3, R4). -/
def frameBytes (f : Frame) : List Byte := frameBody f ++ [frameCheck (frameBody f)]

/-- The idle spacing of a class in bt (R9). -/
def ifs (cls : Nat) : Nat := 14 + 3 * cls

/-! ## The line (R1, R2) -/

/-- The level of the line in a bit-time: dominant while a station drives it low, which sends a 0, recessive
while it is released, which sends a 1 (R1). -/
inductive LineLevel where
  | dominant | recessive
deriving DecidableEq, Repr

/-- The level that sends a bit (R1). -/
def bitLevel (one : Bool) : LineLevel := if one then .recessive else .dominant

/-- The ten bit-times of a byte with its stop bit at a level: the dominant start bit, the eight data bits,
least significant first, and the stop bit (R1). -/
def byteLevels (b : Byte) (stop : LineLevel) : List LineLevel :=
  .dominant :: (List.range 8).map (fun i => bitLevel (bit b i)) ++ [stop]

/-- The levels of a frame as the cluster sends it, its bytes back to back (R1). -/
def frameLevels (f : Frame) : List LineLevel :=
  (frameBytes f).flatMap (fun b => byteLevels b .recessive)

/-- The levels of the cluster's own break: 12 bt dominant (R2). -/
def breakLevels : List LineLevel := List.replicate 12 .dominant

/-- The byte that eight data levels spell, least significant first (R1). -/
def byteOfLevels (ls : List LineLevel) : Byte :=
  BitVec.ofNat 8 ((ls.map (fun l => if l = .recessive then 1 else 0)).foldr (fun x n => x + 2 * n) 0)

/-- What the receiver makes of a falling edge and the levels it then reads at the middles of the bit-times
(R1, R2). -/
inductive Character where
  /-- The start bit reads recessive: no byte, and the idle time goes on. -/
  | glitch
  /-- A byte with its recessive stop bit. -/
  | byte (b : Byte)
  /-- A byte whose stop bit reads dominant, in a dominant run of less than 10 bt. -/
  | framingError (b : Byte)
  /-- A dominant run of 10 bt or more: a break, which ends with the run. -/
  | breakRun
deriving DecidableEq, Repr

/-- The dominant bit-times that a run of levels begins with (R2). -/
def dominantRun (ls : List LineLevel) : Nat := (ls.takeWhile (· == .dominant)).length

/-- The length of the dominant run that a dominant stop bit stands in, from its falling edge, at the start bit or
inside the byte, to its end, at the stop bit or after it (R2). -/
def stopBitRun (ls : List LineLevel) : Nat :=
  dominantRun (ls.take 10).reverse + dominantRun (ls.drop 10)

/-- The reading of the levels that follow a falling edge: ten bit-times of a byte, and the rest of the dominant
run that its stop bit may stand in (R1, R2). -/
def readCharacter (ls : List LineLevel) : Character :=
  let b := byteOfLevels ((ls.drop 1).take 8)
  if ls.head? = some .recessive then .glitch
  else if ls[9]? = some .dominant then
    if 10 ≤ stopBitRun ls then .breakRun else .framingError b
  else .byte b

/-- The recessive bit-times that end a run of levels: what they leave in the idle count (R8). -/
def trailingIdle (ls : List LineLevel) : Nat := (ls.reverse.takeWhile (· == .recessive)).length

/-- The idle count at the end of a byte: the bit-times since its last dominant bit (R8). -/
def idleAfterByte (b : Byte) (framing : Bool) : Nat :=
  trailingIdle (byteLevels b (if framing then .dominant else .recessive))

/-! ## Odometer slots (R109, R195) -/

/-- The six bytes of an odometer slot. -/
def slotBytes (index value : Nat) (mark : Bool) : List Byte :=
  let body := beBytes 4 value ++ [if mark then (1 : Byte) else 0]
  body ++ [rotateXor (BitVec.ofNat 8 index) body]

/-- All bytes 00h, or all FFh: blank memory (R109, R145). -/
def blankBytes (bs : List Byte) : Bool := bs.all (· == 0) || bs.all (· == 0xFF)

/-- A slot's value and RESTORED mark, if the slot is valid (R109). -/
def slotRead (index : Nat) (bs : List Byte) : Option (Nat × Bool) :=
  if blankBytes bs then none
  else if rotateXor (BitVec.ofNat 8 index) (bs.take 5) = byteAt bs 5 then
    some (beNat (bs.take 4), bit (byteAt bs 4) 0)
  else none

/-- The address of a slot (R113). -/
def slotAddress (index : Nat) : Nat := 0x40 + 8 * index

/-! ## Service records (R145, R195) -/

/-- The first seven bytes of a service record. -/
def recordBody (r : ServiceRecord) : List Byte :=
  beBytes 3 r.dueKm
    ++ (match r.dueDay with
        | some d => beBytes 2 d
        | none => [0xFF, 0xFF])
    ++ beBytes 2 r.penalty

/-- The check of a service record, seeded with 10h + the item (R145). -/
def recordCheck (item : ServiceItem) (body : List Byte) : Byte :=
  rotateXor (BitVec.ofNat 8 (0x10 + item.ix.val)) body

/-- The eight bytes of a service record. -/
def recordBytes (item : ServiceItem) (r : ServiceRecord) : List Byte :=
  recordBody r ++ [recordCheck item (recordBody r)]

/-- A service record, if it is valid (R145). -/
def recordRead (item : ServiceItem) (bs : List Byte) : Option ServiceRecord :=
  if blankBytes bs then none
  else if recordCheck item (bs.take 7) = byteAt bs 7 then
    let day := beNat (slice bs 3 2)
    some
      { dueKm := beNat (bs.take 3), dueDay := if day = 0xFFFF then none else some day,
        penalty := beNat (slice bs 5 2) }
  else none

/-- The address of a service record (R113). -/
def recordAddress (item : ServiceItem) : Nat := 0xC0 + 8 * item.ix.val

/-! ## The configuration block (R179, R195) -/

/-- A signed byte. -/
def signedByte (b : Byte) : Int := b.toInt

/-- The sum of bytes modulo 256. -/
def byteSum (bs : List Byte) : Byte := bs.foldl (· + ·) 0

/-- A two-byte field. -/
def word16 (bs : List Byte) (i : Nat) : Nat := beNat (slice bs i 2)

/-- A field with its range: the value, or the default and a count of one (R179). -/
def ranged (v lo hi dflt : Nat) : Nat × Nat :=
  if lo ≤ v ∧ v ≤ hi then (v, 0) else (dflt, 1)

/-- The clock trim with its range −120 to +120 (R165). -/
def rangedTrim (v : Int) : Int × Nat :=
  if -120 ≤ v ∧ v ≤ 120 then (v, 0) else (0, 1)

/-- The readings of the sender table are strictly monotonic in table order (R52). -/
def senderMonotonic (t : List (Nat × Nat)) : Bool :=
  let r := t.map (·.1)
  (r.zip r.tail).all (fun p => decide (p.1 < p.2)) || (r.zip r.tail).all (fun p => decide (p.2 < p.1))

/-- The eight points of the sender table as they stand in the block (R195). -/
def senderField (bs : List Byte) : List (Nat × Nat) :=
  (List.range 8).map (fun i => ((byteAt bs (8 + 2 * i)).toNat, (byteAt bs (9 + 2 * i)).toNat))

/-- The sender table in use: the block's, or the default one as a whole (R52). -/
def rangedSender (t : List (Nat × Nat)) : List (Nat × Nat) × Nat :=
  if senderMonotonic t then (t, 0) else (defaultSender, 1)

/-- The two-bit code `i` of a byte. -/
def code2 (b : Byte) (i : Nat) : Nat := b.toNat / 4 ^ i % 4

/-- A step period in ms from its code (R195). -/
def periodMs (code : Nat) : Nat := 2 ^ code

/-- An ignition filter length in samples from its code (R195). -/
def ignitionSamples (code : Nat) : Nat := 8 * 4 ^ code

/-- A gauge span with its range and default (R64). -/
def spanField (bs : List Byte) (i : Fin 6) : Nat × Nat :=
  ranged (word16 bs (32 + 2 * i.val)) 200 1080 Settings.default.spans[i]

/-- A day interval with its range and default (R146). -/
def dayField (bs : List Byte) (i : Fin 4) : Nat × Nat :=
  ranged (word16 bs (52 + 2 * i.val)) 0 1095 Settings.default.dayIntervals[i]

/-- The configuration that 62 bytes give, with the result of the checks (R179): all defaults when the
bytes do not sum to 0, otherwise each field in its range or at its default, and how many defaulted. -/
def readConfiguration (bs : List Byte) : Settings × ConfigResult :=
  if byteSum bs ≠ 0 then (Settings.default, .allDefaulted)
  else
    let d := Settings.default
    let byte (i : Nat) : Nat := (byteAt bs i).toNat
    let address := ranged (byte 0) 1 14 d.address
    let srcEngine := ranged (byte 1) 1 14 d.srcEngine
    let srcTrans := ranged (byte 2) 1 14 d.srcTrans
    let srcBody := ranged (byte 3) 1 14 d.srcBody
    let ppk := ranged (word16 bs 4) 1000 16000 d.ppk
    let capacity := ranged (word16 bs 6) 200 1500 d.capacity
    let sender := rangedSender (senderField bs)
    let refuel := ranged (byte 24) 10 250 d.refuel
    let reserve := ranged (byte 25) 20 250 d.reserve
    let d10 := ranged (word16 bs 26) 40 400 d.d10
    let gap := ranged (word16 bs 28) 10 600 d.journeyGap
    let commit := ranged (byte 30) 1 10 d.commitKm
    let courtesy := ranged (byte 31) 10 120 d.courtesyS
    let spans := Vector.ofFn (spanField bs)
    let trim := rangedTrim (signedByte (byteAt bs 47))
    let days := Vector.ofFn (dayField bs)
    let penalty := ranged (byte 60) 0 100 d.penaltyKm
    let options := byteAt bs 46
    let count := address.2 + srcEngine.2 + srcTrans.2 + srcBody.2 + ppk.2 + capacity.2 + sender.2
      + refuel.2 + reserve.2 + d10.2 + gap.2 + commit.2 + courtesy.2 + (spans.map (·.2)).sum
      + trim.2 + (days.map (·.2)).sum + penalty.2
    ({ address := address.1, srcEngine := srcEngine.1, srcTrans := srcTrans.1, srcBody := srcBody.1,
       ppk := ppk.1, capacity := capacity.1, sender := sender.1, refuel := refuel.1,
       reserve := reserve.1, d10 := d10.1, journeyGap := gap.1, commitKm := commit.1,
       courtesyS := courtesy.1, spans := spans.map (·.1),
       periods := Vector.ofFn (fun i : Fin 6 =>
         periodMs (if i.val < 4 then code2 (byteAt bs 44) i.val else code2 (byteAt bs 45) (i.val - 4))),
       deadband := code2 options 0, sweepEnable := bit options 2,
       ignLength := ignitionSamples (options.toNat / 8 % 4), imperial := bit options 5,
       clockTrim := trim.1,
       distIntervals := Vector.ofFn (fun i : Fin 4 => byte (48 + i.val)),
       dayIntervals := days.map (·.1), penaltyKm := penalty.1 },
     .defaulted count)

end Sys2Proof.Machine
end

