-- ==== Sys2Proof/Machine/Ops.lean ====
section
/-! DEFINITION. The shared operations over the state: saturating counts, the serial memory, the sense
record's last error, stamps, the total odometer, free choices, and the transmit queue that five blocks
offer frames to (R14, R15, R17). -/

namespace Sys2Proof.Machine

open Sys2Proof

/-- One more, stopping at a limit (R21 "saturates"). -/
def satInc (limit n : Nat) : Nat := min (n + 1) limit

/-- A sum that stops at a limit. -/
def satAdd (limit n k : Nat) : Nat := min (n + k) limit

/-- 4,294,967,295. -/
def max32 : Nat := 4294967295

/-- A distance as a 32-bit value holds it: exact where it fits, a free value where it does not. -/
def fit32 (n : Nat) : Nat := if n ≤ max32 then n else (Config.overflow32 n).toNat

/-! ## Serial memory (R113)

A byte changes by the part's own units alone, and reads as it stands (DESIGN CHOICE, log entry 65). -/

/-- What a byte of the serial memory that nothing has written reads as: FFh, blank memory (R109).
DESIGN CHOICE, log entry 2. -/
def blankByte : Byte := 0xFF

/-- Read one byte. -/
def Memory.read (m : Memory) (a : Nat) : Byte :=
  match m with
  | [] => blankByte
  | (k, b) :: rest => if k = a then b else Memory.read rest a

/-- Insert or replace a byte that differs from blank, keeping addresses rising. -/
def Memory.insert (m : Memory) (a : Nat) (b : Byte) : Memory :=
  match m with
  | [] => [(a, b)]
  | (k, c) :: rest =>
    if a < k then (a, b) :: (k, c) :: rest
    else if a = k then (a, b) :: rest
    else (k, c) :: Memory.insert rest a b

/-- Remove the entry of an address. -/
def Memory.erase (m : Memory) (a : Nat) : Memory :=
  match m with
  | [] => []
  | (k, c) :: rest => if k = a then rest else (k, c) :: Memory.erase rest a

/-- Write one byte, keeping the canonical form. -/
def Memory.write (m : Memory) (a : Nat) (b : Byte) : Memory :=
  if b = blankByte then m.erase a else m.insert a b

/-- Write bytes from an address up. -/
def Memory.writeBytes (m : Memory) (a : Nat) : List Byte → Memory
  | [] => m
  | b :: bs => Memory.writeBytes (m.write a b) (a + 1) bs

/-- Read `n` bytes from an address up. -/
def Memory.readBytes (m : Memory) (a n : Nat) : List Byte := (List.range n).map (fun i => m.read (a + i))

/-- The canonical form: addresses strictly rising, and no entry that reads as blank. -/
def Memory.wf (m : Memory) : Bool :=
  match m with
  | [] => true
  | (k, b) :: rest =>
    decide (b ≠ blankByte) && rest.all (fun c => decide (k < c.1)) && Memory.wf rest

/-! ## What the pattern memory holds (R177)

With no cell gone bad it holds the tables of the reference; with bad cells, what the parts of it hold is free, by its
bytes, and is used as held (log entry 63). -/

/-- The definition of a warning as the pattern memory holds it, its class one of 0 to 3 (R121, R177). -/
def PowerUnit.definition (p : PowerUnit) (n : Warning) : WarningDefinition :=
  if p.patternSpoiled then
    let d := Config.heldDefinition p.patternMemory n
    { d with cls := min d.cls 3 }
  else n.definition

/-- The definition of a warning as the pattern memory holds it (R121, R177). -/
def State.definition (s : State) (n : Warning) : WarningDefinition := s.power.definition n

/-- The class of a warning by its definition as held (R121, R177). -/
def State.classOf (s : State) (n : Warning) : Nat := (s.definition n).cls

/-- The four curve points of a gauge as the pattern memory holds them (R65, R177). -/
def State.curve (s : State) (g : GaugeId) : List (Int × Nat) :=
  if s.power.patternSpoiled then (Config.heldCurve s.power.patternMemory g).toList else g.curve

/-- A peer text as the pattern memory holds it (R141, R177). -/
def State.peerChars (s : State) (text : Nat) : List Char :=
  if s.power.patternSpoiled then Config.heldPeerText s.power.patternMemory text else peerTextChars text

/-- NO WARNINGS as the pattern memory holds it (R167, R177). -/
def State.noWarningsText (s : State) : List Char :=
  if s.power.patternSpoiled then Config.heldNoWarnings s.power.patternMemory else noWarningsChars

/-- SET CLOCK as the pattern memory holds it (R167, R177). -/
def State.setClockText (s : State) : List Char :=
  if s.power.patternSpoiled then Config.heldSetClock s.power.patternMemory else setClockChars

/-! ## Moments and free choices -/

/-- The present moment, for a time of entry; later moments have larger numbers. -/
def State.moment (s : State) : Nat := s.seq

/-- Pass to the next moment. -/
def State.nextMoment (s : State) : State := s.setSeq (s.seq + 1)

/-- Count one draw of a free value. -/
def State.nextDraw (s : State) : State := s.setDraw (s.draw + 1)

/-- Insert at a position, at the end if the position is past it. -/
def insertAt {α : Type} : Nat → α → List α → List α
  | _, x, [] => [x]
  | 0, x, y :: ys => x :: y :: ys
  | n + 1, x, y :: ys => y :: insertAt n x ys

/-- A list in the order that a number picks among all its orders; a list of one is left alone. -/
def arrange {α : Type} : Nat → List α → List α
  | _, [] => []
  | k, x :: xs => insertAt (k % (xs.length + 1)) x (arrange (k / (xs.length + 1)) xs)

/-! ## Power state tests -/

/-- RUN or COURTESY, the end phases of COURTESY included. -/
def State.awake (s : State) : Bool := s.power.state == .run || s.power.state == .courtesy

/-- STARTING, RUN or COURTESY. -/
def State.powered (s : State) : Bool := s.power.state == .starting || s.awake

/-- Sending is allowed in RUN and COURTESY (R8, R23). -/
def State.sendingAllowed (s : State) : Bool := s.awake

/-! ## Sense record (R22) -/

/-- Record an error code: it becomes the last error code (R22). -/
def recordCode (c : Byte) (s : State) : State := s.setRqs { s.rqs with lastError := c }

/-! ## Clock and odometer readings -/

/-- The second of day (R156). -/
def Clock.secondOfDay (c : Clock) : Nat := 3600 * c.hour + 60 * c.minute + c.second

/-- A stamp, absent while the clock is not valid (R164). -/
def Clock.stamp (c : Clock) : Option Stamp :=
  if c.valid then some { day := c.day, second := c.secondOfDay } else none

/-- The total odometer, an exact sum (R105). The figures worked from it go on past 4,294,967,295 m; the 32-bit
values that hold it are its `fit32` there (log entry 15). -/
def Odometer.total (o : Odometer) : Nat := o.committed + o.pending

/-- The value of an odometer job: the total, and where it does not fit 32 bits a free value that is no less than
committed_m, which never decreases (R107, log entry 15). -/
def Odometer.jobValue (o : Odometer) : Nat := max o.committed (fit32 o.total)

/-- Displayed km (R106). -/
def displayedKm (total : Nat) : Nat := min (total / 1000) 999999

/-- Displayed miles (R106). -/
def displayedMiles (total : Nat) : Nat := min (total * 125 / 201168) 999999

/-- The displayed km as SRU and WNU hold it: absent until the resolution ends (R106). -/
def Odometer.handedKm (o : Odometer) : Option Nat :=
  if o.resolved then some (displayedKm o.total) else none

/-- The commit threshold in metres (R107). -/
def State.commitMetres (s : State) : Nat := s.settings.commitKm * 1000

/-! ## The transmit queue (R14 to R17) -/

/-- Two frames of one message id and target (R14). -/
def Frame.sameKey (f g : Frame) : Bool := f.id == g.id && f.target == g.target

/-- A new entry joins behind every entry of its own or a smaller class number (R14). -/
def txInsert (e : TxEntry) : List TxEntry → List TxEntry
  | [] => [e]
  | x :: xs => if x.frame.cls ≤ e.frame.cls then x :: txInsert e xs else e :: x :: xs

/-- A matching entry takes the new contents, or holds them while it is under attempt (R14, R17). -/
def txReplace (f : Frame) (q : List TxEntry) : List TxEntry :=
  q.map (fun e =>
    if e.frame.sameKey f then
      (if e.underAttempt then { e with held := some f } else { e with frame := f })
    else e)

/-- The largest class number among the entries not under attempt (R15). -/
def txLowestClass (q : List TxEntry) : Option Nat :=
  ((q.filter (fun e => !e.underAttempt)).map (·.frame.cls)).max?

/-- The latest time of entry among the entries of a class not under attempt (R15). -/
def txYoungest (cls : Nat) (q : List TxEntry) : Nat :=
  (((q.filter (fun e => !e.underAttempt && e.frame.cls == cls)).map (·.entered)).max?).getD 0

/-- Remove the youngest entry of a class not under attempt (R15). -/
def txRemoveYoungest (cls : Nat) (q : List TxEntry) : List TxEntry :=
  q.eraseP (fun e => !e.underAttempt && e.frame.cls == cls && e.entered == txYoungest cls q)

/-- A fresh entry (R14). -/
def freshEntry (f : Frame) (moment : Nat) : TxEntry :=
  { frame := f, entered := moment, failed := 0, held := none, underAttempt := false }

/-- What a queue does with an offered frame: the queue after, and whether TX_DISPLACED counts
(R14, R15, R17). -/
def txOffer (f : Frame) (moment : Nat) (q : List TxEntry) : List TxEntry × Bool :=
  if q.any (fun e => e.frame.sameKey f) then (txReplace f q, false)
  else if q.length < 8 then (txInsert (freshEntry f moment) q, false)
  else
    match txLowestClass q with
    | none => (q, true)
    | some low =>
      if f.cls < low then (txInsert (freshEntry f moment) (txRemoveYoungest low q), true)
      else (q, true)

/-- Offer a frame to the transmit queue; an IDLE transmitter allowed to send starts to count idle
(R8, R14). -/
def offer (f : Frame) (s : State) : State :=
  let r := txOffer f s.moment s.link.txQueue
  let l := s.link
  (s.setLink
    { l with
      txQueue := r.1
      counters :=
        if r.2 then { l.counters with txDisplaced := satInc 255 l.counters.txDisplaced }
        else l.counters
      tx := if l.tx = .idle ∧ s.sendingAllowed ∧ r.1 ≠ [] then .waitingIdle else l.tx }).nextMoment

/-- A frame from a station address (R3, R40). -/
def Frame.sentFrom (address : Nat) (f : Frame) : Frame := { f with source := address }

/-- An entry whose frame and held contents are from a station address: a frame that joined before step 3 of a start is
sent from the address read there (R25, R40). -/
def TxEntry.sentFrom (address : Nat) (e : TxEntry) : TxEntry :=
  { e with frame := e.frame.sentFrom address, held := e.held.map (·.sentFrom address) }

/-- A frame of the cluster's own, from its station address (R40); one made in STARTING before step 3 takes the address
read there as step 3 ends (R25). -/
def State.ownFrame (s : State) (cls : Nat) (kind : FrameKind) (target : Option Nat) (id : Byte)
    (data : List Byte) : Frame :=
  { cls := cls, kind := kind, source := s.settings.address, target := target, id := id, data := data }

/-- Offer a broadcast of the cluster's own (R40). -/
def offerBroadcast (cls : Nat) (id : Byte) (data : List Byte) (s : State) : State :=
  offer (s.ownFrame cls .broadcast none id data) s

/-- Answer a request: a RESPONSE of class 3 with its id, to its source (R45). -/
def respond (id : Byte) (requester : Nat) (data : List Byte) (s : State) : State :=
  offer (s.ownFrame 3 .response (some requester) id data) s

/-- Offer CLUSTER_TIME (R42). -/
def offerTime (s : State) : State :=
  let c := s.clock
  offerBroadcast 2 0x61
    ([BitVec.ofNat 8 c.hour, BitVec.ofNat 8 c.minute] ++ beBytes 2 c.day
      ++ [if c.valid then (1 : Byte) else 0]) s

/-- A signal record. -/
def State.signal (s : State) (g : Signal) : SignalRecord := s.signals[g.ix]

/-- Replace a signal record. -/
def State.setSignal (s : State) (g : Signal) (r : SignalRecord) : State :=
  s.setSignals (s.signals.set g.ix r)

/-- The filtered level of a switch line (R57). -/
def State.lineLevel (s : State) (l : SwitchLine) : Level := (s.input.filters[l.ix]).level

/-- Offer CLUSTER_DISTANCE (R41). -/
def offerDistance (s : State) : State :=
  let speed :=
    match (s.signal .vehSpeed).state, (s.signal .vehSpeed).value with
    | .fresh, some v => beBytes 2 v.toNat
    | _, _ => [0xFF, 0xFF]
  offerBroadcast 2 0x60 (beBytes 4 (fit32 s.odo.total) ++ speed) s

end Sys2Proof.Machine
end

