-- ==== Sys2Proof/Machine/Flags.lean ====
section
/-! DEFINITION. Flags and conditions: the flag bits of signal values (R194), the warning conditions
(R121 to R123), as the pattern memory holds them (R177), and what each warning's status record makes of its condition (R124, R126). -/

namespace Sys2Proof.Machine

open Sys2Proof

/-- A test of a signal's value: made while the record is FRESH or STALE, false otherwise (R122). On a STALE record
whose value is absent it is false (the model's choice, log entry 46). -/
def SignalRecord.test (r : SignalRecord) (p : Int → Bool) : Bool :=
  match r.state, r.value with
  | .fresh, some v => p v
  | .stale, some v => p v
  | _, _ => false

/-- Flag bit `i` of a flag signal's value. -/
def flag (i : Nat) (v : Int) : Bool := v.toNat.testBit i

/-- Any flag of a flag signal's value. -/
def anyFlag (v : Int) : Bool := v != 0

/-- The engine is running: ENG_FLAGS FRESH or STALE with its running flag set (R122). -/
def State.engineRunning (s : State) : Bool := (s.signal .engFlags).test (flag 0)

/-- Some gauge is FAULTED (R79). -/
def State.gaugeFault (s : State) : Bool := s.gdu.gauges.toList.any (fun g => g.state == .faulted)

/-- A warning's status record. -/
def WarningUnit.record (w : WarningUnit) (n : Warning) : WarningRecord := w.records[n.ix]

/-- Replace a warning's status record. -/
def WarningUnit.setRecord (w : WarningUnit) (n : Warning) (r : WarningRecord) : WarningUnit :=
  { w with records := w.records.set n.ix r }

/-- A condition that holds over a band: the upper test in INACTIVE, the lower test otherwise (R122). -/
def State.banded (s : State) (w : Warning) (upper lower : Bool) : Bool :=
  if (s.wnu.record w).state == .inactive then upper else lower

/-- The vehicle moves at 5.0 km/h or more (R121). -/
def State.moving (s : State) : Bool := (s.signal .vehSpeed).test (fun v => decide (50 ≤ v))

/-- A warning's condition as R121 defines it (R121, R122, R123). SERVICE_DUE and SERVICE_SOON are raised by R130. -/
def tableCondition (w : Warning) (s : State) : Bool :=
  match w with
  | .oilPressure =>
    (s.signal .oilP).test (fun v => decide (v < 30)) && s.engineRunning && s.wnu.runningLong
  | .coolantHot =>
    s.banded .coolantHot ((s.signal .coolantT).test (fun v => decide (118 ≤ v)))
      ((s.signal .coolantT).test (fun v => decide (112 < v)))
  | .brakeFluid => (s.signal .brakeFluid).test anyFlag
  | .parkBrakeMoving => (s.signal .parkBrake).test anyFlag && s.moving
  | .charge =>
    (s.signal .sysVolt).test (fun v => decide (v < 118) || decide (155 < v)) && s.engineRunning
  | .engineCheck => (s.signal .engFlags).test (flag 2)
  | .fuelReserve =>
    s.banded .fuelReserve
      ((s.signal .fuelLevel).test (fun v => decide (v ≤ s.settings.reserve)))
      ((s.signal .fuelLevel).test (fun v => decide (v ≤ s.settings.reserve + 20)))
  | .doorOpenMoving => (s.signal .doors).test anyFlag && s.moving
  | .transHot =>
    s.banded .transHot ((s.signal .transT).test (fun v => decide (130 ≤ v)))
      ((s.signal .transT).test (fun v => decide (120 < v)))
  | .gaugeFault => s.gaugeFault
  | .senderFault => (s.signal .fuelLevel).state == .invalid
  | .engineLinkLost =>
    s.power.state == .run && s.wnu.linkWindow.isNone
      && ((s.signal .engRpm).state == .lost || (s.signal .coolantT).state == .lost
        || (s.signal .oilP).state == .lost || (s.signal .engFlags).state == .lost)
  | .bodyLinkLost =>
    s.power.state == .run && (s.link.roster[(2 : Fin 14)]).presence == .silent
  | .washerLow => (s.signal .washer).test anyFlag
  | .bulbOut => (s.signal .bulbs).test anyFlag
  | .belt =>
    s.power.state == .run && s.wnu.beltWindow.isSome && (s.signal .belt).test anyFlag
  | .lightsOn =>
    s.power.state == .courtesy && (s.signal .lamps).test anyFlag
      && s.lineLevel .driverDoor == .active
  | .keyIn =>
    s.lineLevel .ignition == .inactive && (s.signal .keyIn).test anyFlag
      && s.lineLevel .driverDoor == .active
  | .odoRestored => s.wnu.odoRestored
  | .configDefaults => s.wnu.configDefaults
  | .storeFault => s.stc.fault
  | .clockUnset => s.power.state == .run && !s.clock.valid
  | .serviceDue => false
  | .serviceSoon => false

/-- The warnings whose conditions read a signal (R121). -/
def warningsOf : Signal → List Warning
  | .engRpm => [.engineLinkLost]
  | .coolantT => [.coolantHot, .engineLinkLost]
  | .oilP => [.oilPressure, .engineLinkLost]
  | .engFlags => [.oilPressure, .charge, .engineCheck, .engineLinkLost]
  | .gear => []
  | .transT => [.transHot]
  | .doors => [.doorOpenMoving]
  | .lamps => [.lightsOn]
  | .keyIn => [.keyIn]
  | .belt => [.belt]
  | .parkBrake => [.parkBrakeMoving]
  | .washer => [.washerLow]
  | .bulbs => [.bulbOut]
  | .vehSpeed => [.parkBrakeMoving, .doorOpenMoving]
  | .fuelLevel => [.fuelReserve, .senderFault]
  | .sysVolt => [.charge]
  | .brakeFluid => [.brakeFluid]
  | .headlampSw => []

/-! ### Conditions as a pattern memory with bad cells holds them (R177, log entry 63) -/

/-- The number of a signal's state, in the order of R26. -/
def SigState.number : SigState → Nat
  | .never => 0 | .fresh => 1 | .stale => 2 | .lost => 3 | .invalid => 4

/-- The number of a power state, in the order of R175. -/
def Power.number : Power → Nat
  | .off => 0 | .starting => 1 | .run => 2 | .courtesy => 3 | .sleep => 4

/-- The number of a roster entry's state (R20). -/
def Presence.number : Presence → Nat
  | .never => 0 | .present => 1 | .silent => 2

/-- A signal record as a condition reads it. -/
def State.reading (s : State) (g : Signal) : SignalReading :=
  { signal := g, state := (s.signal g).state.number, value := (s.signal g).value }

/-- The signals that a warning's condition reads as the bad memory holds it. OIL_PRESSURE and CHARGE read the engine's
running state besides, and SERVICE_DUE and SERVICE_SOON no signal (R122, R123). -/
def State.heldSignals (s : State) (w : Warning) : List Signal :=
  match w with
  | .serviceDue | .serviceSoon => []
  | .oilPressure | .charge => .engFlags :: Config.heldSignals s.power.patternMemory w
  | _ => Config.heldSignals s.power.patternMemory w

/-- What a warning's condition takes from the blocks and windows, by the table of R123: numbers of states, and 1 for
what holds. The service statuses reach SERVICE_DUE and SERVICE_SOON at their evaluation (R130). -/
def State.handed (s : State) (w : Warning) : List Nat :=
  let yes (b : Bool) : Nat := if b then 1 else 0
  match w with
  | .oilPressure => [yes s.wnu.runningLong]
  | .gaugeFault => [yes s.gaugeFault]
  | .engineLinkLost => [s.power.state.number, yes s.wnu.linkWindow.isSome]
  | .bodyLinkLost => [s.power.state.number, (s.link.roster[(2 : Fin 14)]).presence.number]
  | .belt => [s.power.state.number, yes s.wnu.beltWindow.isSome]
  | .lightsOn => [s.power.state.number, yes (s.lineLevel .driverDoor == .active)]
  | .keyIn => [yes (s.lineLevel .ignition == .active), yes (s.lineLevel .driverDoor == .active)]
  | .odoRestored => [yes s.wnu.odoRestored]
  | .configDefaults => [yes s.wnu.configDefaults]
  | .storeFault => [yes s.stc.fault]
  | .clockUnset => [s.power.state.number, yes s.clock.valid]
  | _ => []

/-- The three warnings whose conditions hold true over a band (R122). -/
def holdsOverBand : Warning → Bool
  | .coolantHot | .fuelReserve | .transHot => true
  | _ => false

/-- The condition of a warning as the bad memory holds it, for a status record that was in a state, with what R123
hands it. -/
def State.heldCondition (s : State) (w : Warning) (was : WarnState) (handed : List Nat) : Bool :=
  Config.heldCondition s.power.patternMemory w (holdsOverBand w && was == .inactive) s.settings.reserve
    ((s.heldSignals w).map s.reading) handed

/-- A warning's condition, as the pattern memory holds it (R121, R122, R177). -/
def condition (w : Warning) (s : State) : Bool :=
  if s.power.patternSpoiled then s.heldCondition w (s.wnu.record w).state (s.handed w)
  else tableCondition w s

/-- The warnings whose conditions read some of the signals, as the pattern memory holds them, in the order of their
numbers (R121, R177). -/
def State.warningsReading (s : State) (sigs : List Signal) : List Warning :=
  if s.power.patternSpoiled then Warning.all.filter (fun w => sigs.any (s.heldSignals w).contains)
  else Warning.all.filter (fun w => sigs.any (fun g => (warningsOf g).contains w))

/-- What a warning's status record does at a working out of its condition (R124, R126). -/
inductive WarnMove where
  | stay
  /-- INACTIVE to PENDING, with a qualify time to run. -/
  | qualify
  /-- PENDING back to INACTIVE. -/
  | drop
  /-- Through PENDING to ACTIVE, the qualify time being 0. -/
  | announce
  /-- To CLEARING, with a release time to run. -/
  | clear
  /-- Through CLEARING to INACTIVE, the release time being 0. -/
  | leave
  /-- CLEARING back to the held state. -/
  | restore
deriving DecidableEq, Repr

/-- The move a condition asks of a warning of some definition in a state (R124, R126). -/
def warnMove (d : WarningDefinition) (st : WarnState) (cond : Bool) : WarnMove :=
  match st, cond with
  | .inactive, true => if d.qualifyMs = 0 then .announce else .qualify
  | .inactive, false => .stay
  | .pending, true => .stay
  | .pending, false => .drop
  | .active, true => .stay
  | .active, false => if d.releaseMs = 0 then .leave else .clear
  | .acknowledged, true => .stay
  | .acknowledged, false => if d.releaseMs = 0 then .leave else .clear
  | .clearing, true => .restore
  | .clearing, false => .stay

/-- A warning is unacknowledged: ACTIVE, or CLEARING with ACTIVE as its held state (R124). -/
def WarningRecord.unacknowledged (r : WarningRecord) : Bool :=
  r.state == .active || (r.state == .clearing && !r.heldAck)

/-- The head unacknowledged warning (R131). -/
def WarningUnit.headUnacknowledged (w : WarningUnit) : Option Warning :=
  w.list.find? (fun n => (w.record n).unacknowledged)

/-- A lamp is on while any warning mapped to it, by the definitions as held, is not INACTIVE (R132). -/
def State.lampOn (s : State) (l : Lamp) : Bool :=
  Warning.all.any (fun n => (s.definition n).lamp == some l && (s.wnu.record n).state != .inactive)

end Sys2Proof.Machine
end

