-- ==== Sys2Proof/Machine/WarnOps.lean ====
section
/-! DEFINITION. The Warning Unit's shared operations: the chime queue and the tone (7.5, 7.6), the
announcement, the acknowledgement and the leaving of a warning (7.2), and the working out of
conditions (R122). -/

namespace Sys2Proof.Machine

open Sys2Proof

/-! ## The chime queue (R135, R136) -/

/-- Insert a request by class and, within a class, by time of entry (R135). -/
def chimeInsert (r : ChimeRequest) : List ChimeRequest → List ChimeRequest
  | [] => [r]
  | x :: xs =>
    if x.cls < r.cls ∨ (x.cls = r.cls ∧ x.entered ≤ r.entered) then x :: chimeInsert r xs
    else r :: x :: xs

/-- The largest class number among waiting requests (R136). -/
def chimeLowestClass (q : List ChimeRequest) : Option Nat := (q.map (·.cls)).max?

/-- Remove the youngest request of a class (R136). -/
def chimeRemoveYoungest (cls : Nat) (q : List ChimeRequest) : List ChimeRequest :=
  let latest := (((q.filter (fun r => r.cls == cls)).map (·.entered)).max?).getD 0
  q.eraseP (fun r => r.cls == cls && r.entered == latest)

/-- The request of a source that waits, if one does. -/
def chimeOf (src : ChimeSource) (q : List ChimeRequest) : Option ChimeRequest :=
  q.find? (fun r => r.source == src)

/-- Remove the request of a source. -/
def chimeRemove (src : ChimeSource) (q : List ChimeRequest) : List ChimeRequest :=
  q.filter (fun r => r.source != src)

/-- Give a request to the queue: the queue after, and whether the request is in it (R135, R136). -/
def chimeJoin (r : ChimeRequest) (q : List ChimeRequest) : List ChimeRequest × Bool :=
  match chimeOf r.source q with
  | some old => (chimeInsert { r with entered := old.entered } (chimeRemove r.source q), true)
  | none =>
    if q.length < 8 then (chimeInsert r q, true)
    else
      match chimeLowestClass q with
      | none => (q, false)
      | some low =>
        if r.cls < low then (chimeInsert r (chimeRemoveYoungest low q), true) else (q, false)

/-! ## The tone output (R138, R139, R140) -/

/-- The head request starts, or the tone becomes IDLE (R138). -/
def WarningUnit.startHead (w : WarningUnit) : WarningUnit :=
  match w.chimes with
  | [] => { w with tone := .idle }
  | r :: rest => { w with tone := .sounding r, chimes := rest }

/-- What the tone output sounds, `ms` after the sounding pattern started (R137, R138). -/
def WarningUnit.soundOutput (w : WarningUnit) (ms : Nat) : Sound :=
  match w.tone with
  | .sounding r => r.pattern.soundAt ms
  | _ => .silence

/-- Sounding becomes allowed (R138). -/
def WarningUnit.allowTone (w : WarningUnit) : WarningUnit :=
  if w.tone = .silent then w.startHead else w

/-- A request preempts the sounding pattern: a continuous one returns to the queue with its old time
of entry, then the request leaves the queue and starts (R139). -/
def WarningUnit.preempt (w : WarningUnit) (sounding : ChimeRequest) (src : ChimeSource) : WarningUnit :=
  let q := if sounding.pattern.continuous then (chimeJoin sounding w.chimes).1 else w.chimes
  match chimeOf src q with
  | none => w
  | some r => { w with tone := .sounding r, chimes := chimeRemove src q }

/-- Give a request to the chime queue and let it act on the tone; the second part tells whether it
joined or replaced a request (R135, R138, R139, R140). -/
def WarningUnit.giveChime (w : WarningUnit) (r : ChimeRequest) : WarningUnit × Bool :=
  let j := chimeJoin r w.chimes
  let w1 := { w with chimes := j.1 }
  match w.tone with
  | .sounding cur =>
    if cur.source = r.source then ({ w1 with tone := .spacing }, j.2)
    else if j.2 ∧ r.cls < cur.cls then (w1.preempt cur r.source, j.2)
    else (w1, j.2)
  | .idle => (w1.startHead, j.2)
  | .silent => (w1, j.2)
  | .spacing => (w1, j.2)

/-- A pattern ends for any cause but preemption (R138). -/
def WarningUnit.endPattern (w : WarningUnit) : WarningUnit := { w with tone := .spacing }

/-- End the sounding pattern of a source, if its pattern is one that stops. -/
def WarningUnit.stopSounding (w : WarningUnit) (src : ChimeSource) (stops : Pattern → Bool) :
    WarningUnit :=
  match w.tone with
  | .sounding r => if r.source = src ∧ stops r.pattern then w.endPattern else w
  | _ => w

/-- The cancel at an acknowledgement: the waiting request goes, a continuous pattern stops (R140). -/
def WarningUnit.cancelAcknowledged (w : WarningUnit) (n : Warning) : WarningUnit :=
  { w with chimes := chimeRemove (.warning n) w.chimes }.stopSounding (.warning n) (·.continuous)

/-- The cancel at leaving the active list: the waiting request goes, any pattern stops (R140). -/
def WarningUnit.cancelLeft (w : WarningUnit) (n : Warning) : WarningUnit :=
  { w with chimes := chimeRemove (.warning n) w.chimes }.stopSounding (.warning n) (fun _ => true)

/-! ## The active list (R131) -/

/-- A warning joins behind every warning of its own or a smaller class number (R131). -/
def listInsert (cls : Warning → Nat) (n : Warning) : List Warning → List Warning
  | [] => [n]
  | x :: xs =>
    if (x :: xs).any (fun m => decide (cls m ≤ cls n)) then x :: listInsert cls n xs else n :: x :: xs

/-- The flags of CLUSTER_WARNINGS for warnings 8k + 1 to 8k + 8 (R43, R193). -/
def bitmapByte (list : List Warning) (k : Nat) : Byte :=
  BitVec.ofNat 8
    ((list.map (fun n => if n.ix.val / 8 = k then 2 ^ (n.ix.val % 8) else 0)).sum)

/-- Offer CLUSTER_WARNINGS (R43). -/
def offerWarnings (s : State) : State :=
  let list := s.wnu.list
  let highest : Byte :=
    match (list.map s.classOf).min? with
    | some c => BitVec.ofNat 8 c
    | none => 0xFF
  offerBroadcast 1 0x62
    [bitmapByte list 0, bitmapByte list 1, bitmapByte list 2, highest] s

/-- Start the 4 s of an ADVISORY warning that first becomes the head unacknowledged warning (R128). -/
def WarningUnit.noteHead (cls : Warning → Nat) (w : WarningUnit) : WarningUnit :=
  match w.headUnacknowledged with
  | none => w
  | some n =>
    let r := w.record n
    if cls n = 2 ∧ !r.headed then w.setRecord n { r with headed := true, autoAck := some 4000 } else w

/-- Note the head after a change of the Warning Unit (R128). -/
def noteHead (s : State) : State := s.setWnu (s.wnu.noteHead s.classOf)

/-! ## Announcement (R125), acknowledgement (R127), leaving (R126) -/

/-- A warning's chime request is queued, but discarded from the end of COURTESY on (R143). -/
def State.warningChimesTaken (s : State) : Bool := s.powered && s.power.endPhase == .none

/-- Give a warning's chime request, if it has a pattern (R125). -/
def chimeForWarning (n : Warning) (s : State) : State :=
  match (s.definition n).pattern with
  | none => s
  | some p =>
    if s.warningChimesTaken then
      (s.setWnu
        (s.wnu.giveChime
          { source := .warning n, pattern := p, cls := s.classOf n, entered := s.moment }).1).nextMoment
    else s

/-- Append a log entry for a warning of class 0 to 2, or count LOG_OVERFLOW (R133). -/
def logAppend (n : Warning) (s : State) : State :=
  if s.classOf n ≤ 2 then
    if s.wnu.log.length < 16 then
      s.setWnu
        { s.wnu with
          log := s.wnu.log ++ [{ warning := n, stamp := s.clock.stamp, km := s.odo.handedKm }] }
    else s.setWnu { s.wnu with overflow := satInc 255 s.wnu.overflow }
  else s

/-- Count an occurrence (R134). -/
def countOccurrence (n : Warning) (s : State) : State :=
  s.setWnu { s.wnu with counts := s.wnu.counts.set n.ix (satInc 255 s.wnu.counts[n.ix]) }

/-- The record of a warning at its announcement; SERVICE_DUE and SERVICE_SOON start their 8 s display
timer (R125, R130). -/
def announcedRecord (n : Warning) (moment : Nat) : WarningRecord :=
  { state := .active, heldAck := false, timer := none, activation := moment, headed := false,
    autoAck := none, reannounce := none,
    display := if n = .serviceDue ∨ n = .serviceSoon then some 8000 else none }

/-- The announcement of a warning (R125). -/
def announce (n : Warning) (s : State) : State :=
  let s1 :=
    (s.setWnu
      { s.wnu.setRecord n (announcedRecord n s.moment) with
        list := listInsert s.classOf n s.wnu.list }).nextMoment
  noteHead (chimeForWarning n (countOccurrence n (logAppend n (offerWarnings s1))))

/-- A status record in INACTIVE. R144 gives its state and its timers; that it holds activation time 0 and no held
state is the model's (DESIGN CHOICE, log entry 4). -/
def inactiveRecord : WarningRecord :=
  { state := .inactive, heldAck := false, timer := none, activation := 0, headed := false,
    autoAck := none, reannounce := none, display := none }

/-- A warning becomes INACTIVE and leaves the active list: CLUSTER_WARNINGS is offered and its chime
is cancelled (R126). -/
def leaveList (n : Warning) (s : State) : State :=
  let w := { s.wnu.setRecord n inactiveRecord with list := s.wnu.list.filter (· != n) }
  noteHead (offerWarnings (s.setWnu (w.cancelLeft n)))

/-- The acknowledged record of a warning: ACTIVE becomes ACKNOWLEDGED, and a CRITICAL warning starts
its 60 s; a warning in CLEARING holds ACKNOWLEDGED (R127, R129). The other timers stop (R128, R130). -/
def acknowledgedRecord (cls : Nat) (r : WarningRecord) : WarningRecord :=
  if r.state = .active then
    { r with
      state := .acknowledged, autoAck := none, display := none
      reannounce := if cls = 0 then some 60000 else none }
  else { r with heldAck := true, autoAck := none, display := none }

/-- Acknowledge an unacknowledged warning and cancel its chime (R127). -/
def acknowledge (n : Warning) (s : State) : State :=
  let r := s.wnu.record n
  if r.unacknowledged then
    noteHead (s.setWnu ((s.wnu.setRecord n (acknowledgedRecord (s.classOf n) r)).cancelAcknowledged n))
  else s

/-- An acknowledgement from the Message Centre: to the head unacknowledged warning (R127). -/
def acknowledgeHead (s : State) : State :=
  match s.wnu.headUnacknowledged with
  | some n => acknowledge n s
  | none => s

/-! ## Working out conditions (R122, R124, R126) -/

/-- The move that a warning's condition asks of it now. -/
def State.moveOf (s : State) (n : Warning) : WarnMove :=
  if n = .serviceDue ∨ n = .serviceSoon then .stay
  else warnMove (s.definition n) (s.wnu.record n).state (condition n s)

/-- The record of a warning that enters CLEARING (R126, R129). -/
def clearingRecord (releaseMs : Nat) (r : WarningRecord) : WarningRecord :=
  { r with
    state := .clearing, heldAck := r.state == .acknowledged, timer := some releaseMs
    reannounce := none }

/-- The record of a warning that returns from CLEARING to its held state (R126, R129). -/
def restoredRecord (cls : Nat) (r : WarningRecord) : WarningRecord :=
  { r with
    state := if r.heldAck then .acknowledged else .active
    timer := none
    reannounce := if r.heldAck ∧ cls = 0 then some 60000 else none }

/-- Let a warning make its move (R124, R126). -/
def applyMove (n : Warning) (s : State) : State :=
  let r := s.wnu.record n
  let put (r' : WarningRecord) : State := noteHead (s.setWnu (s.wnu.setRecord n r'))
  match s.moveOf n with
  | .stay => s
  | .qualify => put { r with state := .pending, timer := some (s.definition n).qualifyMs }
  | .drop => put { r with state := .inactive, timer := none }
  | .announce => announce n s
  | .clear => put (clearingRecord (s.definition n).releaseMs r)
  | .leave => leaveList n s
  | .restore => put (restoredRecord (s.classOf n) r)

/-- A move that announces a warning or takes it off the list at once. -/
def WarnMove.listChange : WarnMove → Bool
  | .announce | .leave => true
  | _ => false

/-- Take one of several warnings that change together: a service warning that R130 raises is
announced, any other makes its move. -/
def applyLoud (raised : List Warning) (n : Warning) (s : State) : State :=
  if raised.contains n then announce n s else applyMove n s

/-- Take warnings that change the list one after the other; where several fall together the order is
free (R131). -/
def applyTogether (raised loud : List Warning) (s : State) : State :=
  match loud with
  | [] => s
  | [n] => applyLoud raised n s
  | n :: m :: rest =>
    (arrange (Config.order s.draw) (n :: m :: rest)).foldl (fun t k => applyLoud raised k t) s.nextDraw

/-- Announce the service warnings that R130 raises and work out the conditions of some warnings afresh,
in STARTING, RUN and COURTESY (R122, R143). The moves that leave the list alone do not meet one
another. -/
def evalTogether (raised ws : List Warning) (s : State) : State :=
  if s.powered then
    let quiet := ws.filter (fun n => !(s.moveOf n).listChange)
    applyTogether raised (ws.filter (fun n => (s.moveOf n).listChange) ++ raised)
      (quiet.foldl (fun t n => applyMove n t) s)
  else s

/-- Work out the conditions of some warnings afresh (R122). -/
def evalWarnings (ws : List Warning) (s : State) : State := evalTogether [] ws s

/-- Work out the conditions of some warnings afresh in a part whose pattern memory has bad cells: at a change of what
they read by which no condition of R121 can change (R122, R177). -/
def evalSpoiled (ws : List Warning) (s : State) : State :=
  if s.power.patternSpoiled then evalWarnings ws s else s

/-- Follow the engine's running state: the 5 s timer starts each time it becomes running (R122). -/
def followEngine (s : State) : State :=
  let w := s.wnu
  if s.engineRunning then
    if w.engineRunning then s
    else s.setWnu { w with engineRunning := true, runningTimer := some 5000, runningLong := false }
  else s.setWnu { w with engineRunning := false, runningTimer := none, runningLong := false }

/-- The warnings whose conditions read the power state (R123). -/
def powerWarnings : List Warning :=
  [.engineLinkLost, .bodyLinkLost, .belt, .lightsOn, .keyIn, .clockUnset]

end Sys2Proof.Machine
end

