-- ==== Sys2Proof/Machine/StoreOps.lean ====
section
/-! DEFINITION. The Store Controller's job set and the commit (6.2, 6.4): which job begins next, how a
service job and an odometer job are handed over, and the serial memory's start reads (R110, R113). -/

namespace Sys2Proof.Machine

open Sys2Proof

/-! ## Units (R112) -/

/-- The units of a job, each an address and the bytes sent to it (R112, R113). -/
def Job.units : Job → List (Nat × List Byte)
  | .odometer value mark slot => [(slotAddress slot, slotBytes slot value mark)]
  | .service entries => entries.map (fun e => (recordAddress e.item, recordBytes e.item e.record))
  | .configuration image =>
    [(0x00, slice image 0 16), (0x10, slice image 16 16), (0x20, slice image 32 16),
     (0x30, slice image 48 14)]

/-- The unit being written. -/
def ActiveJob.current (a : ActiveJob) : Option (Nat × List Byte) := a.job.units[a.unit]?

/-! ## Jobs (R111) -/

/-- No job is in progress and none waits, with the port free (R117, R183). -/
def StoreController.idle (c : StoreController) : Bool :=
  c.portOpen && c.active.isNone && c.waitOdometer.isNone && c.waitService.isEmpty
    && !c.waitConfiguration

/-- Put a job in progress at its first unit. -/
def StoreController.start (c : StoreController) (j : Job) : StoreController :=
  { c with active := some { job := j, unit := 0, repeated := false } }

/-- With the port free, begin the next waiting job: odometer, then service, then configuration; the
odometer job takes the slot at the write position, the configuration job the staging image (R111,
R110, R191). The commit becomes WRITING as its write begins (R107). -/
def stcBegin (s : State) : State :=
  let c := s.stc
  if c.portOpen && c.active.isNone then
    match c.waitOdometer with
    | some j =>
      (s.setStc
        ({ c with waitOdometer := none }.start (.odometer j.value j.mark c.writePos))).setOdo
          { s.odo with commit := .writing }
    | none =>
      match c.waitService with
      | e :: es => s.setStc ({ c with waitService := [] }.start (.service (e :: es)))
      | [] =>
        if c.waitConfiguration then
          s.setStc ({ c with waitConfiguration := false }.start (.configuration s.rqs.staging))
        else s
  else s

/-- Start a commit: hand over an odometer job that holds the total and the RESTORED mark, and become
WAITING (R107, R110). -/
def commitStart (s : State) : State :=
  stcBegin
    ((s.setStc
      { s.stc with waitOdometer := some { value := s.odo.jobValue, mark := s.odo.restored } }).setOdo
        { s.odo with commit := .waiting })

/-- The waiting service job after a hand-over: each dirty item with its working copy, beside what
waits already. An item named by `reset` carries the contents of a RESET SERVICE (R111, R150, R154). -/
def serviceJob (reset : Option ServiceItem) (s : State) : List ServiceEntry :=
  ServiceItem.all.filterMap (fun i =>
    let old := s.stc.waitService.find? (fun e => e.item == i)
    let st := s.sru.items[i.ix]
    if st.dirty then
      some
        { item := i, record := st.record
          carriesReset := reset == some i || (old.map (·.carriesReset)).getD false }
    else old)

/-- Hand over every dirty record (R154). -/
def handService (reset : Option ServiceItem) (s : State) : State :=
  stcBegin (s.setStc { s.stc with waitService := serviceJob reset s })

/-- Hand over every dirty record if there is one. -/
def handDirty (s : State) : State :=
  if s.sru.items.toList.any (·.dirty) then handService none s else s

/-- Hand over a configuration job; one that waits already is kept (R111). -/
def handConfiguration (s : State) : State :=
  stcBegin (s.setStc { s.stc with waitConfiguration := true })

/-- The save of the odometer at the end of COURTESY, by the commit state (R117). -/
def saveOdometer (s : State) : State :=
  match s.odo.commit with
  | .clear => if s.odo.resolved ∧ 0 < s.odo.pending then commitStart s else s
  | .waiting => s
  | .writing => s.setOdo { s.odo with saveMark := true }
  | .deferred => commitStart s

/-! ## The reports to the Odometer Unit (R108) -/

/-- The odometer after a VERIFIED report of a value (R108, R117). -/
def Odometer.verify (o : Odometer) (w : Nat) : Odometer :=
  { o with
    committed := w, pending := o.pending - (w - o.committed), verified := some w, commit := .clear
    saveMark := false }

/-- Take a VERIFIED report: a new commit starts if a save is outstanding with metres pending, or if
the threshold is reached again (R108). -/
def odometerVerified (w : Nat) (s : State) : State :=
  let save := s.odo.saveMark
  let s1 := s.setOdo (s.odo.verify w)
  if (save ∧ 0 < s1.odo.pending) ∨ s1.commitMetres ≤ s1.odo.pending then commitStart s1 else s1

/-- Take a FAILED report: DEFERRED until the retry point (R108). -/
def odometerFailed (w : Nat) (s : State) : State :=
  s.setOdo
    { s.odo with commit := .deferred, retryPoint := w + s.commitMetres, saveMark := false }

/-! ## The start reads (R110, R113) -/

/-- What the ring's slot holds, if it is valid. -/
def ringSlot (m : Memory) (i : Nat) : Option (Nat × Bool) :=
  slotRead i (m.readBytes (slotAddress i) 6)

/-- The newest slot of the slots below `n`: the greatest value, the higher index among equals, with its
index (R110). -/
def newestSlot (m : Memory) : Nat → Option (Nat × Nat × Bool)
  | 0 => none
  | n + 1 =>
    match newestSlot m n, ringSlot m n with
    | best, none => best
    | none, some (v, mark) => some (n, v, mark)
    | some (i, w, mark'), some (v, mark) => if w ≤ v then some (n, v, mark) else some (i, w, mark')

/-- The write position after the ring read (R110). -/
def ringWritePosition (newest : Option (Nat × Nat × Bool)) : Nat :=
  match newest with
  | some (i, _, _) => (i + 1) % 16
  | none => 0

/-- A service record as the serial memory holds it, if it is valid (R145). -/
def storedRecord (m : Memory) (i : ServiceItem) : Option ServiceRecord :=
  recordRead i (m.readBytes (recordAddress i) 8)

/-! ## A unit cut off (R119) -/

/-- A byte of a unit that was cut off: each bit old or new, which is free (R119). -/
def tornByte (draw a : Nat) (old new : Byte) : Byte :=
  (old &&& ~~~Config.tornMask draw a) ||| (new &&& Config.tornMask draw a)

/-- Leave a unit torn in the serial memory. -/
def tearBytes (draw : Nat) (m : Memory) (a : Nat) : List Byte → Memory
  | [] => m
  | b :: bs => tearBytes draw (m.write a (tornByte draw a (m.read a) b)) (a + 1) bs

/-- Cut the unit in progress, as a WARM start or a loss of supply does (R119). -/
def cutUnit (s : State) : State :=
  match s.stc.active with
  | none => s
  | some a =>
    match a.current with
    | none => s
    | some (address, bytes) => (s.setStore (tearBytes s.draw s.store address bytes)).nextDraw

end Sys2Proof.Machine
end

