-- ==== Sys2Proof/Machine/TripOps.lean ====
section
/-! DEFINITION. The Trip Computer (chapter 5) and the odometer's metre (R105, R107): resets, metres, fuel
and seconds, the figures, the range window and the range to empty. -/

namespace Sys2Proof.Machine

open Sys2Proof

/-! ## Trip records (R84, R85) -/

/-- A trip record of the computer. -/
def TripComputer.trip (c : TripComputer) : Trip → TripRecord
  | .a => c.tripA
  | .b => c.tripB
  | .journey => c.journey

/-- Replace a trip record. -/
def TripComputer.setTrip (c : TripComputer) (t : Trip) (r : TripRecord) : TripComputer :=
  match t with
  | .a => { c with tripA := r }
  | .b => { c with tripB := r }
  | .journey => { c with journey := r }

/-- Change all three trip records alike. -/
def TripComputer.mapTrips (c : TripComputer) (f : TripRecord → TripRecord) : TripComputer :=
  { c with tripA := f c.tripA, tripB := f c.tripB, journey := f c.journey }

/-- The limit of a trip's distance in metres (R84). -/
def maxDistance : Nat := 9999999

/-- The limit of a trip's running time in seconds (R84). -/
def maxRun : Nat := 359999

/-- A record just reset at a total and a stamp (R85). -/
def TripRecord.fresh (total : Nat) (stamp : Option Stamp) : TripRecord :=
  { distance := 0, fuel := 0, run := 0, startOdometer := total, startStamp := stamp, fuelGap := false,
    awaiting := false }

/-- One metre more, unless the record awaits its reset (R84, R88). -/
def TripRecord.addMetre (r : TripRecord) : TripRecord :=
  if r.awaiting then r else { r with distance := satInc maxDistance r.distance }

/-- Fuel more, unless the record awaits its reset (R84, R91). -/
def TripRecord.addFuel (q : Nat) (r : TripRecord) : TripRecord :=
  if r.awaiting then r else { r with fuel := satAdd max32 r.fuel q }

/-- One second more, unless the record awaits its reset (R84, R89). -/
def TripRecord.addSecond (r : TripRecord) : TripRecord :=
  if r.awaiting then r else { r with run := satInc maxRun r.run }

/-- The drive after JOURNEY is reset from a distance: what JOURNEY held is carried and the baseline is 0
(R152). -/
def Drive.carry (d : Drive) (journey : Nat) : Drive :=
  { d with carried := min maxDistance (d.carried + (journey - d.baseline)), baseline := 0 }

/-- Reset a trip record under R85; a reset of JOURNEY hands SRU the distance it held (R152). -/
def resetTrip (t : Trip) (s : State) : State :=
  let s1 :=
    s.setTrc (s.trc.setTrip t (TripRecord.fresh (fit32 s.odo.total) s.clock.stamp))
  if t = .journey then
    s1.setSru { s1.sru with drive := s1.sru.drive.map (fun d => d.carry s.trc.journey.distance) }
  else s1

/-- Reset the trips that a test picks, in order. -/
def resetTrips (p : TripRecord → Bool) (s : State) : State :=
  [Trip.a, .b, .journey].foldl (fun u t => if p (u.trc.trip t) then resetTrip t u else u) s

/-- The check of a kept record against the resolved total fails (R104). -/
def TripRecord.spoiled (total : Nat) (r : TripRecord) : Bool :=
  decide (total < r.startOdometer) || decide (total - r.startOdometer < r.distance)

/-- Reset at the end of the resolution: at a COLD start the records that still await it, at a WARM or
WAKE start those that fail the check (R103, R104). -/
def tripsResolved (s : State) : State :=
  match s.power.kind with
  | .cold => resetTrips (·.awaiting) s
  | .warm => resetTrips (TripRecord.spoiled s.odo.total) s
  | .wake => resetTrips (TripRecord.spoiled s.odo.total) s

/-- Elapsed seconds from a stamp to the clock (R87). -/
def elapsed (c : Clock) (st : Stamp) : Int :=
  ((c.day : Int) - st.day) * 86400 + ((c.secondOfDay : Int) - st.second)

/-- Whether the journey rule resets JOURNEY: the clock as it stands now, against the last-off stamp of the COURTESY
before the SLEEP (R87). A COURTESY that ends between the WAKE start and the RUN entry replaces the Clock Unit's stamp
(R164) and not this one (log entry 45). -/
def journeyRuleResets (s : State) : Bool :=
  if s.clock.valid then
    match s.trc.journeyStamp with
    | none => false
    | some st =>
      let e := elapsed s.clock st
      decide (e < 0) || decide ((60 * s.settings.journeyGap : Nat) ≤ e)
  else true

/-- Apply the journey rule at the first RUN entry of a WAKE start (R87). -/
def journeyRule (s : State) : State :=
  if s.trc.journeyRuleDue then
    let s1 := s.setTrc { s.trc with journeyRuleDue := false, journeyStamp := none }
    if journeyRuleResets s then resetTrip .journey s1 else s1
  else s

/-! ## Range (R96 to R99) -/

/-- The fuel of the closed segments (R96). -/
def TripComputer.windowFuel (c : TripComputer) : Nat := c.window.sum

/-- The distance of the closed segments (R96). -/
def TripComputer.windowMetres (c : TripComputer) : Nat := 2000 * c.window.length

/-- The range to empty at a level (R97). -/
def TripComputer.rangeAt (c : TripComputer) (d10 level : Nat) : HeldRange :=
  if 4 ≤ c.window.length ∧ 200 ≤ c.windowFuel then
    { metres := level * 1000 * c.windowMetres / c.windowFuel, basis := .window, level := level }
  else { metres := 100 * (level * 1000) / d10, basis := .default, level := level }

/-- A trigger of R98: compute the range while FUEL_LEVEL is FRESH. -/
def recomputeRange (s : State) : State :=
  let r := s.signal .fuelLevel
  match r.state, r.value with
  | .fresh, some v =>
    s.setTrc { s.trc with range := some (s.trc.rangeAt s.settings.d10 v.toNat) }
  | _, _ => s

/-- Whether a FRESH write of FUEL_LEVEL is a trigger, by the record before it (R98). -/
def rangeTriggeredBy (before : SignalRecord) (held : Option HeldRange) (v : Nat) : Bool :=
  before.state == .never || before.state == .invalid
    || (match held with
        | none => true
        | some h => decide (h.level + 5 ≤ v) || decide (v + 5 ≤ h.level))

/-- Add a metre to the open segment, closing it at 2,000 m; the second part tells whether it closed
(R96). -/
def TripComputer.addSegmentMetre (c : TripComputer) : TripComputer × Bool :=
  if 2000 ≤ c.openMetres + 1 then
    let w := c.window ++ [c.openFuel]
    ({ c with
       window := if 16 < w.length then w.tail else w
       openMetres := 0, openFuel := 0 }, true)
  else ({ c with openMetres := c.openMetres + 1 }, false)

/-- The trip computer's metre: the trips, the instant bin and the open segment (R88). -/
def tripMetre (s : State) : State :=
  let c := s.trc.mapTrips TripRecord.addMetre
  let r := { c with binMetres := c.binMetres + 1 }.addSegmentMetre
  if r.2 then recomputeRange (s.setTrc r.1) else s.setTrc r.1

/-! ## The odometer's metre (R105, R107) -/

/-- A metre more in the waiting odometer job, which holds the present total (R107). -/
def raiseWaiting (s : State) : State :=
  match s.stc.waitOdometer with
  | some j => s.setStc { s.stc with waitOdometer := some { j with value := s.odo.jobValue } }
  | none => s

/-- The odometer's metre: pending rises, and the commit state decides what follows (R105, R107, R108). -/
def odometerMetre (s : State) : State :=
  let s1 := s.setOdo { s.odo with pending := satInc max32 s.odo.pending }
  match s1.odo.commit with
  | .clear =>
    if s1.odo.resolved ∧ s1.commitMetres ≤ s1.odo.pending then commitStart s1 else s1
  | .waiting => raiseWaiting s1
  | .writing => s1
  | .deferred => if s1.odo.retryPoint ≤ s1.odo.total then commitStart s1 else s1

/-- A metre event, taken by ODU and TRC (R47, R88, R105). -/
def metreEvent (s : State) : State := tripMetre (odometerMetre s)

/-! ## Fuel (R90, R91) -/

/-- Fuel added in RUN: to the trips, the open segment and the instant bin (R91). -/
def TripComputer.addFuel (c : TripComputer) (q : Nat) : TripComputer :=
  let c1 := c.mapTrips (TripRecord.addFuel q)
  { c1 with openFuel := satAdd max32 c1.openFuel q, binFuel := c1.binFuel + q }

/-- A resync: fuel_gap is set on all three trips (R91). -/
def TripComputer.gap (c : TripComputer) : TripComputer :=
  c.mapTrips (fun r => { r with fuelGap := true })

/-- Take a fuel count handed on by the Signal Table (R90, R91). -/
def fuelHandOn (count : Nat) (s : State) : State :=
  let c := s.trc
  match c.fuelRef with
  | none => s.setTrc { c with fuelRef := some count }
  | some ref =>
    let delta := (count + 65536 - ref) % 65536
    let kept := { c with fuelRef := some count }
    if 500 < delta then s.setTrc kept.gap
    else if s.power.state = .run then s.setTrc (kept.addFuel delta)
    else s.setTrc kept

/-! ## Figures (R92, R93, R95, R99) -/

/-- Average consumption in 0.1 L/100 km (R92). -/
def averageConsumption (d f : Nat) : Option Nat :=
  if 1000 ≤ d then some (min 999 ((200 * f + d) / (2 * d))) else none

/-- Average economy in 0.1 mpg (R92). -/
def averageEconomy (d f : Nat) : Option Nat :=
  if 1000 ≤ f then some (min 999 ((4704 * d + 10 * f) / (20 * f))) else none

/-- Average speed in 0.1 km/h (R92). -/
def averageKmh (d t : Nat) : Option Nat :=
  if 60 ≤ t then some (min 2550 ((72 * d + t) / (2 * t))) else none

/-- Average speed in 0.1 mph (R92). -/
def averageMph (d t : Nat) : Option Nat :=
  if 60 ≤ t then some (min 2550 ((44739 * d + 1000 * t) / (2000 * t))) else none

/-- The trip figure of the DISTANCE, AVERAGE, SPEED or FUEL item, in tenths; absent for a record that
awaits its reset (R92, R93). -/
def TripRecord.figure (r : TripRecord) (imperial : Bool) (i : Item) : Option Nat :=
  if r.awaiting then none
  else
    match i with
    | .distance => some (if imperial then r.distance * 625 / 100584 else r.distance / 100)
    | .average =>
      if imperial then averageEconomy r.distance r.fuel else averageConsumption r.distance r.fuel
    | .speed => if imperial then averageMph r.distance r.run else averageKmh r.distance r.run
    | .fuel => some (if imperial then r.fuel / 3785 else r.fuel / 1000)
    | .time => none
    | .range => none
    | .instant => none
    | .clock => none

/-- The instant figure of a bin of m metres and q quanta (R95). -/
def instantOf (imperial : Bool) (m q : Nat) : InstantFigure :=
  if imperial then
    if 3 ≤ m then .consumption (if q = 0 then 999 else min 999 ((4704 * m + 10 * q) / (20 * q)))
    else .flow (min 999 ((7200 * q + 3785) / 7570))
  else
    if 3 ≤ m then .consumption (min 999 ((200 * q + m) / (2 * m)))
    else .flow (min 999 ((36 * q + 5) / 10))

/-- A second counted by the Clock Unit: run time in RUN, the instant figure in RUN and COURTESY, and the
bin emptied in every state (R89, R94). -/
def tripSecond (s : State) : State :=
  let c := if s.power.state = .run then s.trc.mapTrips TripRecord.addSecond else s.trc
  s.setTrc
    { c with
      instant := if s.awake then some (instantOf s.settings.imperial c.binMetres c.binFuel) else c.instant
      binMetres := 0, binFuel := 0 }

/-- The held range while it is shown: FUEL_LEVEL is not INVALID (R99). -/
def State.shownRange (s : State) : Option HeldRange :=
  if (s.signal .fuelLevel).state = .invalid then none else s.trc.range

/-- The range shown, in km or miles (R99). -/
def rangeFigure (imperial : Bool) (h : HeldRange) : Nat :=
  min 1999 (if imperial then h.metres * 625 / 1005840 else h.metres / 1000)

/-- The bytes of REAR_SUMMARY (R44, R193). -/
def rearSummaryData (s : State) : List Byte :=
  let j := s.trc.journey
  let range :=
    match s.shownRange with
    | some h => beBytes 2 (rangeFigure false h)
    | none => [0xFF, 0xFF]
  let byDefault : Bool :=
    match s.trc.range with
    | some h => h.basis == .default
    | none => false
  let critical := s.wnu.list.any (fun n => s.classOf n == 0)
  beBytes 2 (min 65535 (j.distance / 100)) ++ beBytes 2 (j.run / 60) ++ range
    ++ [BitVec.ofNat 8
          ((if j.fuelGap then 1 else 0) + (if byDefault then 2 else 0) + (if critical then 4 else 0))]

end Sys2Proof.Machine
end

