-- ==== Sys2Proof/Machine/ServiceOps.lean ====
section
/-! DEFINITION. The Service Reminder Unit (chapter 8): intervals, status, resets, fills, the repairs at
start, the drive and the short-trip penalty. -/

namespace Sys2Proof.Machine

open Sys2Proof

/-- Replace an item's working copy and marks. -/
def State.setItem (s : State) (i : ServiceItem) (v : ServiceState) : State :=
  s.setSru { s.sru with items := s.sru.items.set i.ix v }

/-- An item's working copy and marks. -/
def State.item (s : State) (i : ServiceItem) : ServiceState := s.sru.items[i.ix]

/-! ## Intervals (R146) -/

/-- The interval of an item in km; 0 when distance is not used (R146). -/
def intervalKm (c : Settings) (i : ServiceItem) : Nat := 100 * c.distIntervals[i.ix]

/-- The interval of an item in days; 0 when days are not used (R146). -/
def intervalDays (c : Settings) (i : ServiceItem) : Nat := c.dayIntervals[i.ix]

/-! ## Status (R148) -/

/-- The four results, worse ones later (R148). -/
inductive ServiceStatus where
  | ok | dueSoon | due | overdue
deriving DecidableEq, Repr

/-- The code of a status; a larger one is worse (R148, R194). -/
def ServiceStatus.code : ServiceStatus → Nat
  | .ok => 0 | .dueSoon => 1 | .due => 2 | .overdue => 3

/-- The worse of two results (R148). -/
def ServiceStatus.worse (a b : ServiceStatus) : ServiceStatus := if a.code ≤ b.code then b else a

/-- The result of a measure against its three limits; OK when it is absent (R148). -/
def measureStatus (late soon : Int) : Option Int → ServiceStatus
  | none => .ok
  | some v => if v ≤ -late then .overdue else if v ≤ 0 then .due else if v ≤ soon then .dueSoon else .ok

/-- The record a reset makes at a displayed km (R150). -/
def resetRecord (s : State) (i : ServiceItem) (km : Nat) : ServiceRecord :=
  { dueKm := km + intervalKm s.settings i
    dueDay :=
      if s.clock.valid ∧ 0 < intervalDays s.settings i then
        some (s.clock.day + intervalDays s.settings i)
      else none
    penalty := 0 }

/-- The record a status is worked from: an item awaiting its reset counts as reset (R148). -/
def statusRecord (s : State) (i : ServiceItem) : ServiceRecord :=
  if (s.item i).awaiting then resetRecord s i ((s.odo.handedKm).getD 0) else (s.item i).record

/-- Remaining km, absent where R148 makes it absent. -/
def remainingKm (s : State) (i : ServiceItem) : Option Int :=
  match s.odo.handedKm with
  | none => none
  | some km =>
    if intervalKm s.settings i = 0 then none
    else some (min (intervalKm s.settings i : Int) ((statusRecord s i).dueKm - km))

/-- Remaining days, absent where R148 makes them absent. -/
def remainingDays (s : State) (i : ServiceItem) : Option Int :=
  match (statusRecord s i).dueDay with
  | none => none
  | some d =>
    if intervalDays s.settings i = 0 ∨ s.clock.valid = false then none
    else some ((d : Int) - s.clock.day)

/-- An item's status (R148). -/
def itemStatus (s : State) (i : ServiceItem) : ServiceStatus :=
  (measureStatus 1000 1000 (remainingKm s i)).worse (measureStatus 30 30 (remainingDays s i))

/-- Some item is DUE or OVERDUE (R149). -/
def anyDue (s : State) : Bool := ServiceItem.all.any (fun i => decide (2 ≤ (itemStatus s i).code))

/-- Some item is DUE_SOON (R149). -/
def anySoon (s : State) : Bool := ServiceItem.all.any (fun i => itemStatus s i == .dueSoon)

/-- The condition of SERVICE_DUE or SERVICE_SOON, as the pattern memory holds it, by the statuses of the four items;
`table` is what R121 makes of them (R121, R130, R177). -/
def serviceCondition (n : Warning) (table : Bool) (s : State) : Bool :=
  if s.power.patternSpoiled then
    s.heldCondition n .inactive (ServiceItem.all.map (fun i => (itemStatus s i).code))
  else table

/-- The service warnings that an evaluation raises: those in INACTIVE with such an item (R130). -/
def raisedService (s : State) : List Warning :=
  (if serviceCondition .serviceDue (anyDue s) s ∧ (s.wnu.record .serviceDue).state = .inactive then
    [.serviceDue] else [])
    ++ (if serviceCondition .serviceSoon (anySoon s) s ∧ (s.wnu.record .serviceSoon).state = .inactive then
      [.serviceSoon] else [])

/-! ## Resets and fills (R150, R151) -/

/-- Reset an item's working copy and mark it dirty (R150). -/
def resetItem (i : ServiceItem) (km : Nat) (s : State) : State :=
  s.setItem i { record := resetRecord s i km, awaiting := false, dirty := true }

/-- A RESET SERVICE of ENGINE OIL in an open drive sets the mark that keeps the drive from penalising the
fresh oil (R145, R150). The repair of R147 is no RESET SERVICE and leaves the mark (log entry 54). -/
def markOilReset (i : ServiceItem) (s : State) : State :=
  if i = .engineOil ∧ s.sru.drive.isSome then s.setSru { s.sru with oilReset := true } else s

/-- A RESET SERVICE that holds the displayed km: reset the item and hand it over (R150, R154). -/
def serviceReset (i : ServiceItem) (km : Nat) (s : State) : State :=
  handService (some i) (markOilReset i (resetItem i km s))

/-- An item needs its due day filled (R151). -/
def needsFill (s : State) (i : ServiceItem) : Bool :=
  !(s.item i).awaiting && decide (0 < intervalDays s.settings i) && (s.item i).record.dueDay.isNone

/-- Fill one item's absent due day (R151). -/
def fillItem (s : State) (i : ServiceItem) : State :=
  if needsFill s i then
    let st := s.item i
    s.setItem i
      { st with
        record := { st.record with dueDay := some (s.clock.day + intervalDays s.settings i) }
        dirty := true }
  else s

/-- Fill every absent due day with the clock valid, and hand over the records (R151, R154). -/
def fillDueDays (s : State) : State :=
  if s.clock.valid ∧ ServiceItem.all.any (needsFill s) then
    handService none (ServiceItem.all.foldl fillItem s)
  else s

/-! ## Records at start (R147) -/

/-- Take one record as read at step 4; a failing one records 13h (R147). -/
def takeRecord (s : State) (i : ServiceItem) : State :=
  match storedRecord s.store i with
  | some r => s.setItem i { record := r, awaiting := false, dirty := false }
  | none =>
    recordCode 0x13
      (s.setItem i
        { record := { dueKm := 0, dueDay := none, penalty := 0 }, awaiting := true, dirty := false })

/-- Take the four records, then fill the due days if the clock is valid (R147). -/
def takeRecords (s : State) : State := fillDueDays (ServiceItem.all.foldl takeRecord s)

/-- The penalty's bound: half the interval (R147, R153). -/
def penaltyCap (c : Settings) (i : ServiceItem) : Nat := intervalKm c i / 2

/-- The record of an item not reset, after the second and third repairs of R147. -/
def repairedRecord (c : Settings) (i : ServiceItem) (km : Nat) (r : ServiceRecord) : ServiceRecord :=
  let due :=
    if 0 < intervalKm c i ∧ km + intervalKm c i < r.dueKm then km + intervalKm c i else r.dueKm
  { r with dueKm := due, penalty := min r.penalty (penaltyCap c i) }

/-- Repair one item at the hand-over of the displayed km (R147). -/
def repairItem (km : Nat) (s : State) (i : ServiceItem) : State :=
  let st := s.item i
  if st.awaiting then resetItem i km s
  else
    let r := repairedRecord s.settings i km st.record
    s.setItem i { st with record := r, dirty := st.dirty || r != st.record }

/-- SRU's part of the hand-over of the displayed km: the repairs, what they made dirty handed over, and
then a held RESET SERVICE (R147, R150). That order is the model's choice (log entry 59). -/
def serviceHandOver (km : Nat) (s : State) : State :=
  let before := s.sru.items.map (·.record)
  let s1 := ServiceItem.all.foldl (repairItem km) s
  let s2 :=
    if s1.sru.items.map (·.record) = before ∧ !s.sru.items.toList.any (·.awaiting) then s1
    else handService none s1
  match s2.sru.heldReset with
  | none => s2
  | some i => serviceReset i km (s2.setSru { s2.sru with heldReset := none })

/-! ## The drive and the penalty (R152, R153) -/

/-- COOLANT_T is FRESH or STALE at 70 °C or more (R152). -/
def State.coolantWarm (s : State) : Bool := (s.signal .coolantT).test (fun v => decide (70 ≤ v))

/-- Open a drive if none is open (R152). -/
def openDrive (s : State) : State :=
  match s.sru.drive with
  | some _ => s
  | none =>
    s.setSru
      { s.sru with
        drive :=
          some { baseline := s.trc.journey.distance, carried := 0, warm := s.coolantWarm } }

/-- COOLANT_T has been written or has changed state: a warm coolant in RUN marks the drive (R152). -/
def noteCoolant (s : State) : State :=
  if s.power.state = .run ∧ s.coolantWarm then
    s.setSru { s.sru with drive := s.sru.drive.map (fun d => { d with warm := true }) }
  else s

/-- The growth of a drive in metres (R152). -/
def Drive.growth (d : Drive) (journey : Nat) : Nat := d.carried + (journey - d.baseline)

/-- A short-trip penalty is due (R153). -/
def penaltyDue (s : State) : Bool :=
  match s.sru.drive with
  | none => false
  | some d =>
    let j := s.trc.journey.distance
    decide (d.growth j < 8000) && decide (j < maxDistance) && !d.warm && !s.sru.oilReset
      && !(s.item .engineOil).awaiting && decide (0 < intervalKm s.settings .engineOil)

/-- The amount of a penalty that is due: the configured one or the room left (R153). -/
def penaltyAmount (s : State) : Nat :=
  min s.settings.penaltyKm
    (penaltyCap s.settings .engineOil - (s.item .engineOil).record.penalty)

/-- due_km less a penalty; where the penalty is the larger, a free value that is no larger than due_km was, as no
change but a reset raises it (R145, R153, log entry 17). -/
def lessPenalty (dueKm amount : Nat) : Nat :=
  if amount ≤ dueKm then dueKm - amount else min dueKm (Config.dueKmUnderflow dueKm amount).toNat

/-- Apply the short-trip penalty that is due (R153). -/
def applyPenalty (s : State) : State :=
  if penaltyDue s ∧ 0 < penaltyAmount s then
    let st := s.item .engineOil
    let a := penaltyAmount s
    s.setItem .engineOil
      { st with
        record :=
          { st.record with
            dueKm := lessPenalty st.record.dueKm a, penalty := st.record.penalty + a }
        dirty := true }
  else s

/-- Close the drive (R152). -/
def closeDrive (s : State) : State :=
  s.setSru { s.sru with drive := none, oilReset := false }

/-- The save of the service records at the end of COURTESY: the penalty, the hand-over and the close of
the drive (R152, R153, R154). -/
def saveService (s : State) : State := closeDrive (handDirty (applyPenalty s))

/-! ## Reports (R154) -/

/-- The items of a job whose records were verified are clean if their working copies are still what was
written (R154). -/
def cleanItem (s : State) (e : ServiceEntry) : State :=
  let st := s.item e.item
  if st.record = e.record then s.setItem e.item { st with dirty := false } else s

/-- Take the report of a service job with the entries that were verified (R154). -/
def serviceReport (verified : List ServiceEntry) (s : State) : State := verified.foldl cleanItem s

end Sys2Proof.Machine
end

