-- ==== Sys2Proof/Machine/GaugeOps.lean ====
section
/-! DEFINITION. The Gauge Drive (chapter 4): transfer curves and targets, the motion rules, homing, the
sweep, the step-loss check, parking and the gauge test. -/

namespace Sys2Proof.Machine

open Sys2Proof

/-- A gauge record. -/
def State.gauge (s : State) (g : GaugeId) : Gauge := s.gdu.gauges[g.ix]

/-- Replace a gauge record. -/
def State.setGauge (s : State) (g : GaugeId) (r : Gauge) : State :=
  s.setGdu { s.gdu with gauges := s.gdu.gauges.set g.ix r }

/-- A gauge's span in steps (R64). -/
def State.span (s : State) (g : GaugeId) : Nat := s.settings.spans[g.ix]

/-- A gauge's coils are driven in HOMING, SWEEP, TRACKING and PARKING, and off in the other states, in
which the motor's detent alone holds the pointer (the table of R69). -/
def GaugeState.coilsDriven : GaugeState → Bool
  | .homing | .sweep | .tracking | .parking => true
  | .unhomed | .faulted | .parked => false

/-- The coil output of a gauge: driven, or off (R69). No coil is driven in OFF and SLEEP. -/
def State.coilOutput (s : State) (g : GaugeId) : Bool := s.powered && (s.gauge g).state.coilsDriven

/-! ## Targets (R65 to R68) -/

/-- The step position of a curve point (R65). -/
def curveStep (span fraction : Nat) : Nat := fraction * span / 256

/-- The curve target of a value (R65). -/
def curveTarget (span : Nat) (v : Int) : List (Int × Nat) → Nat
  | [] => 0
  | [(_, f)] => curveStep span f
  | (v0, f0) :: (v1, f1) :: rest =>
    if v ≤ v0 then curveStep span f0
    else if v < v1 then
      curveStep span f0
        + ((v - v0) * ((curveStep span f1 : Int) - curveStep span f0) / (v1 - v0)).toNat
    else curveTarget span v ((v1, f1) :: rest)

/-- The values of the points strictly ascend, and the fractions do not descend (R65). -/
def evenCurve : List (Int × Nat) → Bool
  | a :: b :: rest => decide (a.1 < b.1 ∧ a.2 ≤ b.2) && evenCurve (b :: rest)
  | _ => true

/-- The curve target of a value by a curve as held, before GDU's clamp: R65's, and free by a curve that R65 does not
give one for (R65, log entry 63). -/
def heldCurveTarget (span : Nat) (v : Int) (curve : List (Int × Nat)) : Nat :=
  if evenCurve curve then curveTarget span v curve else Config.unevenCurveTarget curve span v

/-- The value a gauge's curve takes: for FUEL the level as a share of the capacity (R66). -/
def gaugeValue (g : GaugeId) (capacity : Nat) (v : Int) : Int :=
  if g = .fuel then 256 * v / (capacity : Int) else v

/-- The target that a gauge's signal record gives now (R67, R68); 0 before the configuration step
(R64). -/
def State.targetOf (s : State) (g : GaugeId) : Nat :=
  if s.power.configured then
    let r := s.signal g.signal
    match r.state, r.value with
    | .fresh, some v =>
      min (s.span g) (heldCurveTarget (s.span g) (gaugeValue g s.settings.capacity v) (s.curve g))
    | .stale, _ => (s.gauge g).staleTarget
    | _, _ => 0
  else 0

/-- Decide a gauge's target, unless it is PARKING or PARKED (R67, R68, R81). -/
def decideTarget (s : State) (g : GaugeId) : State :=
  match (s.gauge g).state with
  | .parking => s
  | .parked => s
  | _ => s.setGauge g { s.gauge g with target := s.targetOf g }

/-- The gauges that read a signal (R64). -/
def gaugesOf (sig : Signal) : List GaugeId := GaugeId.all.filter (fun g => g.signal = sig)

/-- A signal record has been written or has changed state: decide the targets of its gauges (R67). -/
def decideTargets (sig : Signal) (s : State) : State := (gaugesOf sig).foldl decideTarget s

/-- A record becomes STALE: its gauges hold the target they have (R67). -/
def holdTargets (sig : Signal) (s : State) : State :=
  (gaugesOf sig).foldl
    (fun t g => t.setGauge g { t.gauge g with staleTarget := (t.gauge g).target }) s

/-! ## Motion (R73 to R76) -/

/-- The goal of a gauge's motion: its target, in a sweep the span and then 0, in a park 0. -/
def Gauge.goal (g : Gauge) (span : Nat) : Nat :=
  match g.state, g.phase with
  | .sweep, .toSpan => span
  | .sweep, .atSpan => span
  | .sweep, .toZero => 0
  | .parking, _ => 0
  | _, _ => g.target

/-- At rest, with ramp count 0. -/
def Gauge.stop (g : Gauge) : Gauge := { g with motion := .atRest, ramp := 0 }

/-- Leave rest toward a goal, driving the first step (R74). -/
def Gauge.depart (g : Gauge) (goal : Nat) : Gauge :=
  { g with motion := if g.position < goal then .movingUp else .movingDown, ramp := 0 }

/-- The distance of a gauge from a goal. -/
def Gauge.gap (g : Gauge) (goal : Nat) : Nat := (g.position - goal) + (goal - g.position)

/-- The examination of a target at rest (R74). -/
def Gauge.examine (g : Gauge) (deadband : Nat) : Gauge :=
  if g.gap g.target ≤ deadband then g else g.depart g.target

/-- PARKED: at rest at 0 with the coils off (R81). -/
def Gauge.park (g : Gauge) : Gauge := { g.stop with state := .parked, target := 0 }

/-- What a gauge at rest does about its goal: a tracking gauge examines its target, a parking one drives
to 0 or is PARKED, a sweeping one drives on or rests at the span (R73, R74, R76, R81). -/
def Gauge.atGoal (g : Gauge) (span deadband : Nat) : Gauge :=
  match g.state with
  | .tracking => g.examine deadband
  | .parking => if g.position = 0 then g.park else g.depart 0
  | .sweep =>
    if g.position = g.goal span then { g.stop with phase := .atSpan } else g.depart (g.goal span)
  | _ => g

/-- The position after a step in the direction of motion, within 0 and the span (R68, R75). -/
def Gauge.stepped (g : Gauge) (span : Nat) : Gauge :=
  { g with
    position := if g.motion = .movingUp then min span (g.position + 1) else g.position - 1
    ramp := min 8 (g.ramp + 1) }

/-- After a step: at the goal the gauge rests, further on it drives the next step, on the other side it
makes the reversal rest (R75, R76). -/
def Gauge.follow (g : Gauge) (goal : Nat) : Gauge :=
  if g.position = goal then g.stop
  else if (g.motion = .movingUp ∧ g.position < goal) ∨ (g.motion = .movingDown ∧ goal < g.position) then g
  else { g with motion := .reversalRest, rest := 0 }

/-! ## Homing (R70 to R72) -/

/-- Enter HOMING: attempt 1, position at the span (R70). The motion AT_REST and the ramp and rest counts 0 at the
entry are the model's choice: R72 sets motion and ramp at the closure (log entry 44). -/
def Gauge.enterHoming (g : Gauge) (span : Nat) (sweepMark testMark : Bool) : Gauge :=
  { g.stop with
    state := .homing, position := span, rest := 0, attempt := 1, steps := 0, lift := none
    sweepMark := sweepMark, testMark := testMark }

/-- Begin a sweep from rest at 0 (R73). -/
def Gauge.beginSweep (g : Gauge) (span : Nat) : Gauge :=
  { g with state := .sweep, phase := .toSpan }.atGoal span 0

/-- A closed contact ends the homing: PARKED while a park is in force, a sweep by the marks and the
ignition, otherwise TRACKING (R72). -/
def Gauge.close (g : Gauge) (span deadband : Nat) (parkInForce ignition : Bool) : Gauge :=
  let h := { g.stop with position := 0, lift := none, testMark := false }
  if parkInForce then h.park
  else if (g.sweepMark ∧ ignition) ∨ g.testMark then h.beginSweep span
  else { h with state := .tracking }.examine deadband

/-- Sample the contact at the beginning of an attempt (R71). -/
def Gauge.attemptBegins (g : Gauge) (span deadband : Nat) (parkInForce ignition closed : Bool) : Gauge :=
  if closed then g.close span deadband parkInForce ignition else g

/-- The filtered ignition level is ACTIVE. -/
def State.ignitionOn (s : State) : Bool := s.lineLevel .ignition == .active

/-- A gauge closes its contact, in the present state (R72). -/
def closeGauge (g : GaugeId) (r : Gauge) (s : State) : State :=
  s.setGauge g (r.close (s.span g) s.settings.deadband s.gdu.parkInForce s.ignitionOn)

/-- A gauge enters HOMING and samples its contact (R70, R71). -/
def homeGauge (sweepMark testMark : Bool) (contacts : BitVec 6) (s : State) (g : GaugeId) : State :=
  s.setGauge g
    (((s.gauge g).enterHoming (s.span g) sweepMark testMark).attemptBegins (s.span g)
      s.settings.deadband s.gdu.parkInForce s.ignitionOn (contacts.getLsbD g.ix.val))

/-- Every gauge enters HOMING as STARTING ends, the sweep mark set from the sweep enable (R70). -/
def homeAll (contacts : BitVec 6) (s : State) : State :=
  GaugeId.all.foldl (homeGauge s.settings.sweepEnable false contacts) s

/-- The error code of a gauge whose homing fails: 21h to 26h (R64, R72). -/
def homingCode (g : GaugeId) : Byte := BitVec.ofNat 8 (0x21 + g.ix.val)

/-- A failed attempt: the lift to the next one, or FAULTED after the third, with its code and the
gauge-fault condition (R71, R72, R79). -/
def failAttempt (g : GaugeId) (r : Gauge) (s : State) : State :=
  if r.attempt < 3 then s.setGauge g { r with lift := some 0 }
  else
    evalWarnings [.gaugeFault]
      (recordCode (homingCode g) (s.setGauge g { r.stop with state := .faulted, lift := none }))

/-! ## The ends of steps (R73, R75, R77, R78) -/

/-- A step-loss check that finds the contact open: HOMING with the sweep mark clear (R78). -/
def Gauge.rehome (g : Gauge) (span : Nat) : Gauge := g.enterHoming span false false

/-- The end of a step in TRACKING, with the contact as sampled on an arrival at 0 (R75, R77, R78). -/
def Gauge.trackingStep (g : Gauge) (span : Nat) (closed : Bool) : Gauge :=
  let h := g.stepped span
  if h.position = 0 ∧ !closed then h.rehome span else h.follow h.target

/-- The end of a step in SWEEP (R73, R78). -/
def Gauge.sweepStep (g : Gauge) (span deadband : Nat) (closed : Bool) : Gauge :=
  let h := g.stepped span
  if h.phase = .toZero ∧ h.position = 0 then
    if closed then { h.stop with state := .tracking }.examine deadband else h.rehome span
  else if h.phase = .toSpan ∧ h.position = span then { h.stop with phase := .atSpan }
  else h.follow (h.goal span)

/-- The end of a step in PARKING: PARKED at 0 (R81). -/
def Gauge.parkingStep (g : Gauge) (span : Nat) : Gauge :=
  let h := g.stepped span
  if h.position = 0 then h.park else h.follow 0

/-- A gauge is driving a step (R75). -/
def Gauge.moving (g : Gauge) : Bool := g.motion == .movingUp || g.motion == .movingDown

/-- The end of a motion step by the gauge's state. -/
def Gauge.stepEnd (g : Gauge) (span deadband : Nat) (closed : Bool) : Gauge :=
  if g.moving then
    match g.state with
    | .tracking => g.trackingStep span closed
    | .sweep => g.sweepStep span deadband closed
    | .parking => g.parkingStep span
    | _ => g
  else g

/-- A period boundary of a reversal rest: at 4 the gauge is at rest and takes its goal at once (R76). -/
def Gauge.reversalBoundary (g : Gauge) (span deadband : Nat) : Gauge :=
  if g.motion = .reversalRest then
    let h := { g with rest := min 4 (g.rest + 1) }
    if h.rest = 4 then h.stop.atGoal span deadband else h
  else g

/-- The 4-period rest at the span ends (R73). -/
def Gauge.sweepRestEnd (g : Gauge) (span : Nat) : Gauge :=
  if g.state = .sweep ∧ g.phase = .atSpan then
    { g with phase := .toZero }.depart (Gauge.goal { g with phase := .toZero } span)
  else g

/-- A period boundary at rest: TRACKING examines its target; a gauge at rest in PARKING drives to 0
(R74, R81). -/
def Gauge.restBoundary (g : Gauge) (span deadband : Nat) : Gauge :=
  if g.motion = .atRest ∧ (g.state = .tracking ∨ g.state = .parking) then g.atGoal span deadband else g

/-! ## Park and test (R80 to R82) -/

/-- The effect of the park order on a gauge (R81). -/
def Gauge.orderPark (g : Gauge) : Gauge :=
  let enter : Gauge :=
    let h := { g with state := .parking, target := 0 }
    if g.motion = .atRest then (if g.position = 0 then h.park else h.depart 0) else h
  match g.state with
  | .tracking => enter
  | .sweep => enter
  | _ => g

/-- Order the park (R81). -/
def orderPark (s : State) : State :=
  s.setGdu { gauges := s.gdu.gauges.map Gauge.orderPark, parkInForce := true }

/-- The park is complete: every gauge is PARKED or FAULTED (R81). -/
def GaugeDrive.allParked (d : GaugeDrive) : Bool :=
  d.gauges.toList.all (fun g => g.state == .parked || g.state == .faulted)

/-- A gauge resumes when the park is withdrawn (R82). -/
def resumeGauge (s : State) (g : GaugeId) : State :=
  let r := s.gauge g
  match r.state with
  | .parking => s.setGauge g { r with state := .tracking, target := s.targetOf g }
  | .parked =>
    s.setGauge g
      ({ r.stop with state := .tracking, target := s.targetOf g }.examine s.settings.deadband)
  | _ => s

/-- Withdraw the park (R82). -/
def withdrawPark (s : State) : State :=
  if s.gdu.parkInForce then
    GaugeId.all.foldl resumeGauge (s.setGdu { s.gdu with parkInForce := false })
  else s

/-- The effect of a GAUGE TEST on a gauge (R80): a tracking gauge sweeps from where it is, a homing one
is marked, a FAULTED one homes again. -/
def testGauge (contacts : BitVec 6) (s : State) (g : GaugeId) : State :=
  let r := s.gauge g
  match r.state with
  | .tracking =>
    let h := { r with state := .sweep, phase := .toSpan }
    s.setGauge g (if r.motion = .atRest then h.atGoal (s.span g) s.settings.deadband else h)
  | .homing => s.setGauge g { r with testMark := true }
  | .faulted => homeGauge s.settings.sweepEnable true contacts s g
  | _ => s

/-- A GAUGE TEST reaches all six gauges at once (R80). -/
def testGauges (contacts : BitVec 6) (s : State) : State :=
  evalWarnings [.gaugeFault] (GaugeId.all.foldl (testGauge contacts) s)

end Sys2Proof.Machine
end

