-- ==== Sys2Proof/Machine/SignalOps.lean ====
section
/-! DEFINITION. The Signal Table (chapter 2): arrivals and local writes, what every reader does when a
record is written or changes state, and the dispatcher (R19). -/

namespace Sys2Proof.Machine

open Sys2Proof

/-! ## Records (R28, R32) -/

/-- A record after an arrival or a local write: a value makes it FRESH, an invalid marker or a sensor
fault INVALID with its value held; the arrival count rises (R28, R32). -/
def SignalRecord.written (r : SignalRecord) (v : Option Int) (timer : Timer) : SignalRecord :=
  { r with
    value := if v.isSome then v else r.value
    state := if v.isSome then .fresh else .invalid
    timer := timer, count := satInc 255 r.count }

/-- Some records have been written or have changed state: the gauges decide their targets, SRU looks at
the coolant, and WNU works out its conditions (R67, R122, R152). -/
def signalsChanged (sigs : List Signal) (s : State) : State :=
  let s1 := sigs.foldl (fun t g => decideTargets g t) s
  let s2 := if sigs.contains .coolantT then noteCoolant s1 else s1
  let s3 := if sigs.contains .engFlags then followEngine s2 else s2
  evalWarnings (s3.warningsReading sigs) s3

/-- One field of a frame reaches its record (R28). -/
def arrive (s : State) (a : Signal × Option Int) : State :=
  s.setSignal a.1 ((s.signal a.1).written a.2 (some a.1.refreshMs))

/-- All the fields of a frame reach their records together (2.2). -/
def arriveAll (arrivals : List (Signal × Option Int)) (s : State) : State :=
  signalsChanged (arrivals.map (·.1)) (arrivals.foldl arrive s)

/-- A local signal is written (R32). -/
def writeLocal (sig : Signal) (v : Option Int) (s : State) : State :=
  signalsChanged [sig] (s.setSignal sig ((s.signal sig).written v none))

/-- FUEL_LEVEL is written FRESH, and the range is computed if the write is a trigger (R50, R98). -/
def writeFuelLevel (level : Nat) (s : State) : State :=
  let before := s.signal .fuelLevel
  let s1 := writeLocal .fuelLevel (some level) s
  if rangeTriggeredBy before s.trc.range level then recomputeRange s1 else s1

/-- A body-change event or a driver-door edge restarts the courtesy timer, in COURTESY before its end
(R182). -/
def restartCourtesy (s : State) : State :=
  if s.power.state = .courtesy ∧ s.power.endPhase = .none then
    s.setPower { s.power with courtesyTimer := some (1000 * s.settings.courtesyS) }
  else s

/-! ## The dispatcher (R19) -/

/-- Hand the oldest frame of the ring to its block, if it has one of some message ids; the frame leaves
the ring (R19). -/
def dispatch (id : Byte) (k : Frame → State → State) (s : State) : State :=
  match s.link.ring with
  | f :: rest => if s.link.listening ∧ f.id = id then k f (s.setLink { s.link with ring := rest }) else s
  | [] => s

/-- Count a foreign frame (R30). -/
def countForeign (s : State) : State :=
  s.setLink
    { s.link with
      counters := { s.link.counters with foreign := satInc 255 s.link.counters.foreign } }

/-- Take a status frame: foreign, of wrong length, or from the expected source with its effect
(R30, R31). -/
def statusFrame (expected len : Nat) (effect : State → State) (f : Frame) (s : State) : State :=
  if f.source ≠ expected then countForeign s
  else if f.data.length ≠ len then s
  else effect s

/-! ## Frame fields (R34, R35, R36, R193) -/

/-- A byte field with the invalid marker FFh. -/
def marked (b : Byte) (f : Int → Int) : Option Int := if b = 0xFF then none else some (f b.toNat)

/-- The records that an ENGINE_STATUS updates (R34). -/
def engineArrivals (d : List Byte) : List (Signal × Option Int) :=
  [(.engRpm, some ((byteAt d 0).toNat * 32)),
   (.coolantT, marked (byteAt d 1) (fun x => x - 40)),
   (.oilP, marked (byteAt d 2) (fun x => x * 4)),
   (.engFlags, some ((byteAt d 5).toNat % 8 : Nat))]

/-- The fuel count of an ENGINE_STATUS (R34). -/
def engineFuelCount (d : List Byte) : Nat := beNat (slice d 3 2)

/-- The records that a TRANS_STATUS updates (R35). -/
def transArrivals (d : List Byte) : List (Signal × Option Int) :=
  [(.gear, if (byteAt d 0).toNat < 6 then some ((byteAt d 0).toNat : Int) else none),
   (.transT, marked (byteAt d 1) (fun x => x - 40))]

/-- The records that a BODY_STATUS updates (R36). -/
def bodyArrivals (d : List Byte) : List (Signal × Option Int) :=
  let b := byteAt d 1
  [(.doors, some ((byteAt d 0).toNat % 64 : Nat)),
   (.lamps, some (b.toNat % 4 : Nat)),
   (.keyIn, some (bitNat b 2)),
   (.belt, some (bitNat b 3)),
   (.parkBrake, some (bitNat b 4)),
   (.washer, some (bitNat b 5)),
   (.bulbs, some ((byteAt d 2).toNat))]

/-- The arriving flags differ from a value that a record holds (R36). -/
def bodyChanged (s : State) (arrivals : List (Signal × Option Int)) : Bool :=
  arrivals.any (fun a => (s.signal a.1).value.isSome && (s.signal a.1).value != a.2)

end Sys2Proof.Machine
end

