-- ==== Sys2Proof/Machine/ClockOps.lean ====
section
/-! DEFINITION. The Clock Unit (chapter 9): the second, the settings and the validity report. -/

namespace Sys2Proof.Machine

open Sys2Proof

/-- The last day number, 31 December 2079 (R156). -/
def maxDay : Nat := 36524

/-- The clock one second later (R156). -/
def Clock.tick (c : Clock) : Clock :=
  if c.second < 59 then { c with second := c.second + 1 }
  else if c.minute < 59 then { c with second := 0, minute := c.minute + 1 }
  else if c.hour < 23 then { c with second := 0, minute := 0, hour := c.hour + 1 }
  else { c with second := 0, minute := 0, hour := 0, day := min maxDay (c.day + 1) }

/-- A second passes: the time of day advances, the trip computer takes the second, and a minute change
in RUN or COURTESY offers CLUSTER_TIME (R156, R157, R42). -/
def passSecond (s : State) : State :=
  let minute := decide (59 ≤ s.clock.second)
  let s1 := tripSecond (s.setClock s.clock.tick)
  if minute ∧ s.awake then offerTime s1 else s1

/-- Set the clock and make it valid: a change of the flag is reported to WNU and SRU, and CLUSTER_TIME is
offered (R160, R161, R162). -/
def setTime (hour minute second day : Nat) (s : State) : State :=
  let s1 :=
    s.setClock
      { s.clock with
        hour := hour, minute := minute, second := second, day := day, prescaler := 0, valid := true }
  offerTime (if s.clock.valid then s1 else fillDueDays (evalWarnings [.clockUnset] s1))

/-- The clock an hour on, the day number holding at its last (R163). -/
def Clock.advanceHour (c : Clock) : Clock :=
  if c.hour < 23 then { c with hour := c.hour + 1 }
  else { c with hour := 0, day := min maxDay (c.day + 1) }

/-- The clock an hour back, unless the hour is 0 (R163). -/
def Clock.retardHour (c : Clock) : Option Clock :=
  if c.hour = 0 then none else some { c with hour := c.hour - 1 }

/-- What the oscillator cycle that ends part k of the window adds to the prescaler: 2 for an inserted
count, 0 for a masked one, 1 otherwise (R158). -/
def partCounts (trim : Int) (k : Nat) : Nat :=
  if k ≤ trim.natAbs then (if 0 < trim then 2 else 0) else 1

end Sys2Proof.Machine
end

