-- ==== Sys2Proof/Machine/DisplayOps.lean ====
section
/-! DEFINITION. The Message Centre (chapter 10): what the line shows, the display record and its send,
the lamps, and the taking of a button event. -/

namespace Sys2Proof.Machine

open Sys2Proof

/-! ## Characters (R167, R168) -/

/-- A digit 0 to 9. -/
def digitChar (d : Nat) : Char := Char.ofNat (48 + d % 10)

/-- The decimal digits of a number, in at most `fuel` digits. -/
def decimalDigits : Nat → Nat → List Char
  | 0, _ => []
  | fuel + 1, n =>
    if n < 10 then [digitChar n] else decimalDigits fuel (n / 10) ++ [digitChar n]

/-- A number in decimal. -/
def decimal (n : Nat) : List Char := decimalDigits 20 n

/-- Two decimal digits. -/
def twoDigits (n : Nat) : List Char := [digitChar (n / 10), digitChar n]

/-- A time of day as hh:mm. -/
def hhmm (h m : Nat) : List Char := twoDigits h ++ [':'] ++ twoDigits m

/-- Left-aligned in a width, filled with spaces. -/
def padRight (w : Nat) (cs : List Char) : List Char := (cs ++ List.replicate w ' ').take w

/-- Right-aligned in a width. -/
def padLeft (w : Nat) (cs : List Char) : List Char := List.replicate (w - cs.length) ' ' ++ cs

/-- A figure in tenths, at most 9999.9 (R168). -/
def tenths (n : Nat) : List Char :=
  let m := min 99999 n
  decimal (m / 10) ++ ['.', digitChar m]

/-- A figure that is not valid or absent (R168). -/
def dashes : List Char := ['-', '-', '-']

/-- A figure in tenths, or dashes. -/
def tenthsOrDashes : Option Nat → List Char
  | some n => tenths n
  | none => dashes

/-! ## The item display (R168) -/

/-- The trip letter. -/
def Trip.letter : Trip → Char
  | .a => 'A' | .b => 'B' | .journey => 'J'

/-- The five items that belong to a trip (R86). -/
def Item.isTrip : Item → Bool
  | .distance | .average | .speed | .time | .fuel => true
  | .range | .instant | .clock => false

/-- The figure field before its alignment. -/
def itemFigure (s : State) : List Char :=
  let r := s.trc.trip s.msc.trip
  let imperial := s.settings.imperial
  match s.msc.item with
  | .distance => tenthsOrDashes (r.figure imperial .distance)
  | .average => tenthsOrDashes (r.figure imperial .average)
  | .speed => tenthsOrDashes (r.figure imperial .speed)
  | .fuel => tenthsOrDashes (r.figure imperial .fuel)
  | .time =>
    if r.awaiting then dashes else decimal (r.run / 3600) ++ [':'] ++ twoDigits (r.run % 3600 / 60)
  | .range =>
    match s.shownRange with
    | some h => decimal (rangeFigure imperial h)
    | none => dashes
  | .instant =>
    match s.trc.instant with
    | some (.consumption n) => tenths n
    | some (.flow n) => tenths n
    | none => dashes
  | .clock =>
    if s.clock.valid then hhmm s.clock.hour s.clock.minute else ['-', '-', ':', '-', '-']

/-- The INSTANT item shows a flow; free while the figure is absent (R168). -/
def State.instantIsFlow (s : State) : Bool :=
  match s.trc.instant with
  | some (.consumption _) => false
  | some (.flow _) => true
  | none => Config.absentInstantIsFlow

/-- The unit code (R168). -/
def itemUnit (s : State) : List Char :=
  let imperial := s.settings.imperial
  match s.msc.item with
  | .distance => if imperial then ['M', 'I'] else ['K', 'M']
  | .average => if imperial then ['M', 'G'] else ['L', 'P']
  | .speed => if imperial then ['M', 'H'] else ['K', 'H']
  | .time => ['H', ' ']
  | .fuel => if imperial then ['G', 'L'] else ['L', ' ']
  | .range => if imperial then ['M', 'I'] else ['K', 'M']
  | .instant =>
    if s.instantIsFlow then (if imperial then ['G', 'H'] else ['L', 'H'])
    else (if imperial then ['M', 'G'] else ['L', 'P'])
  | .clock => [' ', ' ']

/-- The gap mark (R168). -/
def gapMark (s : State) : Char :=
  if (s.msc.item = .average ∨ s.msc.item = .fuel) ∧ (s.trc.trip s.msc.trip).fuelGap then '*' else ' '

/-- The odometer field: km or miles by the display units, dashes while unresolved (R106, R168). -/
def odometerField (s : State) : List Char :=
  if s.odo.resolved then
    padLeft 6
      (decimal
        (if s.settings.imperial then displayedMiles s.odo.total else displayedKm s.odo.total))
  else List.replicate 6 '-'

/-- The last field: for TIME the time of day of the trip's start, its five characters right-aligned in the six (the
model's choice, log entry 50) (R168). -/
def lastField (s : State) : List Char :=
  if s.msc.item = .time then
    match (s.trc.trip s.msc.trip).startStamp with
    | some st => padLeft 6 (hhmm (st.second / 3600) (st.second % 3600 / 60))
    | none => padLeft 6 ['-', '-', ':', '-', '-']
  else odometerField s

/-- The sixteen characters of the item display (R168). -/
def itemDisplay (s : State) : List Char :=
  [if s.msc.item.isTrip then s.msc.trip.letter else ' ', gapMark s]
    ++ padLeft 6 (itemFigure s) ++ itemUnit s ++ lastField s

/-! ## What the line shows (R166, R167) -/

/-- The ranks of R167. -/
inductive Shown where
  | warning (w : Warning)
  | peer (t : PeerText)
  | review (list : List Warning)
  | clockSet (hour minute : Nat)
  | item
deriving DecidableEq, Repr

/-- What the line shows outside the blank times (R167). -/
def State.shown (s : State) : Shown :=
  match s.wnu.headUnacknowledged, s.msc.peerText, s.msc.review, s.msc.clockSet with
  | some w, _, _, _ => .warning w
  | none, some t, _, _ => .peer t
  | none, none, some l, _ => .review l
  | none, none, none, some (h, m) => .clockSet h m
  | none, none, none, none => .item

/-- The text of a thing shown, as the pattern memory holds it (R167, R177). -/
def shownText (s : State) : Shown → List Char
  | .warning w => padRight 16 (s.definition w).text
  | .peer t => padRight 16 (s.peerChars t.text)
  | .review (w :: _) => padRight 16 (s.definition w).text
  | .review [] => padRight 16 s.noWarningsText
  | .clockSet h m => padRight 16 (s.setClockText ++ [' '] ++ hhmm h m)
  | .item => itemDisplay s

/-- The display is blank: until the configuration step has ended, and from the end of COURTESY on
(R166). -/
def State.blankTime (s : State) : Bool :=
  (s.power.state == .starting && !s.power.configured) || s.power.endPhase != .none

/-- The brightness is LOW (R166). -/
def State.dim (s : State) : Bool :=
  (s.signal .headlampSw).state == .fresh && (s.signal .headlampSw).value == some 1

/-- The display record as it stands (R166). -/
def compose (s : State) : DisplayRecord :=
  if s.blankTime then { text := List.replicate 16 ' ', blink := false, low := s.dim }
  else
    { text := shownText s s.shown
      blink :=
        match s.shown with
        | .warning w => s.classOf w == 0
        | _ => false
      low := s.dim }

/-- Compose the record anew and send it, if no send is in progress and it differs from the record last
sent (R166). -/
def refresh (s : State) : State :=
  if s.powered then
    let d := compose s
    let m : MessageCentre := { s.msc with composed := d }
    if m.sending ∨ m.lastSent = some d then s.setMsc m
    else s.setMsc { m with lastSent := some d, sending := true }
  else s

/-- A lamp output: the lamp test, then the end of COURTESY and SLEEP, then WNU's lamp state (R173). -/
def State.lampOutput (s : State) (l : Lamp) : Bool :=
  if !s.powered ∨ s.power.endPhase ≠ .none then false
  else if s.msc.lampTest = .running then true
  else s.lampOn l

/-- The bytes of the display record on its port (R195). -/
def displayBytes (d : DisplayRecord) : List Byte :=
  d.text.map (fun c => BitVec.ofNat 8 c.toNat)
    ++ [BitVec.ofNat 8 ((if d.blink then 1 else 0) + (if d.low then 2 else 0))]

/-- The lamp test of a start begins, if none has run in it (R173). -/
def beginLampTest (s : State) : State :=
  if s.msc.lampTest = .notRun then
    s.setMsc { s.msc with lampTest := .running, lampTimer := some 3000 }
  else s

/-! ## Button events (R62, R171, R172) -/

/-- The overrun notice: the flag clears, clock-set mode is abandoned, the mark cleared, the down-set emptied
(R62, R172). -/
def giveNotice (s : State) : State :=
  (s.setInput { s.input with overrun := .clear }).setMsc
    { s.msc with clockSet := none, mark := false, downSet := [] }

/-- The OVERRUN flag at a taking: set before the moment of the taking it gives the notice; set in that moment and
after the reading it stays for the next taking (R62). A set flag is cleared here, with the hand-over, so an event
dropped after its reading gives no second notice (DESIGN CHOICE, log entry 60). -/
def overrunNotice (s : State) : State :=
  match s.input.overrun with
  | .clear => s
  | .clearRead => s.setInput { s.input with overrun := .clear }
  | .raised => giveNotice s
  | .raisedAfterRead => s.setInput { s.input with overrun := .raised }

/-- The down-set after an event (R171). -/
def ButtonEvent.downSet (e : ButtonEvent) (d : List Button) : List Button :=
  match e with
  | .press b => if d.contains b then d else d ++ [b]
  | .release b => d.filter (· != b)
  | .releaseAfterHold b => d.filter (· != b)
  | .hold _ => d
  | .long => d

/-- The trip-step mark is cleared by this event (R171). -/
def ButtonEvent.clearsMark : ButtonEvent → Bool
  | .release .set | .hold .set | .releaseAfterHold .set => true
  | _ => false

/-- The Message Centre takes the oldest event: it leaves the queue, with the overrun notice first; in RUN
and COURTESY the down-set follows it (R62, R171, R172). -/
def takeEvent (e : ButtonEvent) (rest : List ButtonEvent) (s : State) : State :=
  let s1 := overrunNotice (s.setInput { s.input with events := rest })
  if s1.awake then s1.setMsc { s1.msc with downSet := e.downSet s1.msc.downSet } else s1

/-- The trip-step mark follows an event, once the event has acted (R171). In COURTESY an event can clear the mark,
and a SET PRESS, whose action is RUN's, does not set it (the model's choice, log entry 51). -/
def markEvent (e : ButtonEvent) (s : State) : State :=
  if s.awake ∧ e.clearsMark then s.setMsc { s.msc with mark := false } else s

/-- Take the oldest event if it is a given one, let it act, and bring the mark and the display up to
date. -/
def onButton (e : ButtonEvent) (act : State → State) (s : State) : State :=
  match s.input.events with
  | x :: rest =>
    if x = e ∧ s.powered then refresh (markEvent e (act (takeEvent e rest s))) else s
  | [] => s

/-- End the review (R169). -/
def endReview (s : State) : State :=
  s.setMsc { s.msc with review := none, reviewTimer := none }

/-- Start a review from a copy of the active list (R169). -/
def startReview (s : State) : State :=
  s.setMsc { s.msc with review := some s.wnu.list, reviewTimer := some 2000 }

/-- The next item (R171). -/
def Item.next : Item → Item
  | .distance => .average | .average => .speed | .speed => .time | .time => .fuel | .fuel => .range
  | .range => .instant | .instant => .clock | .clock => .distance

/-- The next trip (R171). -/
def Trip.next : Trip → Trip
  | .a => .b | .b => .journey | .journey => .a

/-- The event acts in the present state (R171, R172). -/
def ButtonEvent.acts (e : ButtonEvent) (s : State) : Bool :=
  if s.power.state = .run then
    match e, s.shown with
    | .press .mode, .warning _ => false
    | .press .mode, .peer _ => false
    | .press .mode, _ => true
    | .press .set, .warning _ => false
    | .press .set, .peer _ => false
    | .press .set, _ => true
    | .release .set, .item => s.msc.mark
    | .hold .set, .item => s.msc.mark
    | .press .reset, .clockSet _ _ => true
    | .press .reset, .review _ => true
    | .hold .reset, .item => s.msc.item.isTrip && !s.msc.downSet.contains .check
    | .press .check, _ => true
    | .hold .check, .clockSet _ _ => false
    | .hold .check, _ => !s.msc.downSet.contains .reset
    | .long, _ => true
    | _, _ => false
  else if s.power.state = .courtesy then
    match e with
    | .press .check => true
    | .long => true
    | _ => false
  else false

end Sys2Proof.Machine
end

