-- ==== Sys2Proof/Machine/PowerOps.lean ====
section
/-! DEFINITION. The Power Unit's transitions (chapter 11) and the odometer resolution (R116): the entries
to RUN and COURTESY, the end of COURTESY, SLEEP, the starts and their steps. The order in which the
blocks take one event is the model's (log entry 8). -/

namespace Sys2Proof.Machine

open Sys2Proof

/-! ## Starts (R176, R25, R63, R83, R102, R120, R144, R155, R165, R174) -/

/-- The state at the beginning of STARTING of a WARM or WAKE start: working state set afresh as at a
COLD start, keep-alive state kept (R176). At a WAKE start the ignition and driver-door filters run on
with their length (R58), and the journey rule is due (R87). A send of the display record in progress at a panel
restart goes on (the model's choice, log entry 55). -/
def startAfresh (kind : StartKind) (step : StartStep) (hold : Timer) (s : State) : State :=
  let c := State.cold s.store s.power.patternMemory s.power.patternSpoiled s.seq s.draw s.pending
  { c with
    power :=
      { c.power with
        kind := kind, step := step, restartHold := hold, signature := s.power.signature }
    link := { c.link with counters := s.link.counters }
    input :=
      { c.input with
        residue := s.input.residue
        fuel := { c.input.fuel with f64 := s.input.fuel.f64 }
        filters :=
          if kind = .wake then
            (c.input.filters.set 0 s.input.filters[(0 : Fin 5)]).set 1 s.input.filters[(1 : Fin 5)]
          else c.input.filters
        ignLength := if kind = .wake then s.input.ignLength else c.input.ignLength }
    trc :=
      { c.trc with
        tripA := s.trc.tripA, tripB := s.trc.tripB, journey := s.trc.journey
        window := s.trc.window, openMetres := s.trc.openMetres, openFuel := s.trc.openFuel
        range := s.trc.range, journeyRuleDue := kind == .wake
        journeyStamp := if kind = .wake then s.clock.lastOff else none }
    odo := { c.odo with pending := s.odo.pending, verified := s.odo.verified }
    wnu :=
      { c.wnu with log := s.wnu.log, overflow := s.wnu.overflow, counts := s.wnu.counts }
    clock := s.clock
    msc :=
      { c.msc with
        trip := s.msc.trip, item := s.msc.item, lastSent := s.msc.lastSent
        sending := s.msc.sending }
    rqs := { c.rqs with lastError := s.rqs.lastError } }

/-- Step 1 begins, with the lamp test if the filtered ignition is ACTIVE (R173, R177). -/
def beginSteps (s : State) : State :=
  let s1 := s.setPower { s.power with step := .step1, restartHold := none }
  if s1.ignitionOn then beginLampTest s1 else s1

/-- A WAKE start (R184). -/
def wakeStart (s : State) : State := refresh (beginSteps (startAfresh .wake .step1 none s))

/-- A wake event: in SLEEP, a WAKE start (R184). -/
def wakeEvent (s : State) : State := if s.power.state = .sleep then wakeStart s else s

/-- The panel restart: the port stops in its unit and a WARM start begins with the restart hold
(R119, R185). -/
def panelRestart (s : State) : State := refresh (startAfresh .warm .hold (some 50) (cutUnit s))

/-- The state in OFF: nothing is held but the serial memory and the pattern memory (R175). -/
def State.off (store : Memory) (pattern : List Byte) (spoiled : Bool) (seq draw : Nat) (pending : List Instr) :
    State :=
  let c := State.cold store pattern spoiled seq draw pending
  { c with
    power := { c.power with state := .off, step := .none }
    msc := { c.msc with lastSent := none, sending := false } }

/-! ## The start steps (R177 to R180) -/

/-- The pattern memory with the cells that have gone bad (R177). -/
def withCells (cells : List (Nat × Byte)) (m : List Byte) : List Byte :=
  cells.foldl (fun m c => m.set c.1 c.2) m

/-- The pattern memory check of step 1: the bytes as they stand are added modulo 256, and a sum that is not 0 records
31h. The start goes on with the memory as it stands: with a cell gone bad, what it defines is used as held, whatever
the sum (R177). -/
def patternCheck (cells : List (Nat × Byte)) (s : State) : State :=
  let m := withCells cells s.power.patternMemory
  let s1 := s.setPower 
      { s.power with
        step := .step2, patternMemory := m, patternSpoiled := s.power.patternSpoiled || !cells.isEmpty
        patternFail := byteSum m != 0 }
  if byteSum m ≠ 0 then recordCode 0x31 s1 else s1

/-- The walking patterns, 01h to 80h (R178). -/
def walkingPattern (i : Fin 8) : Byte := (1 : Byte) <<< i.val

/-- A location of keep-alive RAM has failed: of the eight patterns written to it, it reads some one back wrongly
(R178). -/
def locationFails (reads : Vector Byte 8) : Bool :=
  (List.finRange 8).any (fun i => reads[i] != walkingPattern i)

/-- The RAM test: the number of locations that have failed. Each is restored, so the test changes nothing (R178). -/
def ramTest (ram : List (Vector Byte 8)) : Nat := ram.countP locationFails

/-- Every block takes the COLD values of its keep-alive state, as a WARM or WAKE start becomes COLD
(R176); the ignition and driver-door filters of a WAKE start, kept from SLEEP, begin anew (R58). Those of a WARM start,
which began anew at the beginning of this STARTING, run on: R176 lists the two filters among the COLD values, and R58
begins filters anew at the end of step 2 for WAKE alone (DESIGN CHOICE, log entry 66). -/
def coldKeepAlive (s : State) : State :=
  let c := State.cold s.store s.power.patternMemory s.power.patternSpoiled s.seq s.draw s.pending
  { s with
    power := { s.power with kind := .cold }
    link := { s.link with counters := c.link.counters }
    input :=
      { s.input with
        residue := 0
        fuel := { s.input.fuel with f64 := none }
        filters :=
          if s.power.kind = .wake then
            (s.input.filters.set 0 c.input.filters[(0 : Fin 5)]).set 1 c.input.filters[(1 : Fin 5)]
          else s.input.filters
        ignLength := 512 }
    trc :=
      { s.trc with
        tripA := c.trc.tripA, tripB := c.trc.tripB, journey := c.trc.journey, window := []
        openMetres := 0, openFuel := 0, range := none, journeyRuleDue := false, journeyStamp := none }
    odo := { s.odo with pending := 0, verified := none }
    wnu := { s.wnu with log := [], overflow := 0, counts := c.wnu.counts }
    clock := c.clock
    msc := { s.msc with trip := .a, item := .distance }
    rqs := { s.rqs with lastError := 0 } }

/-- The keep-alive check of step 2 with its result: a signature other than the part's is bad, as it is at a COLD
start whatever it reads; a COLD start always records 32h, and a WARM or WAKE start becomes COLD on a bad signature or
a failed location. The reinitialisation writes the signature (R176, R178). It changes the clock's flag and, at a WAKE
start, the filtered levels, which conditions held by bad cells may be true by (R122, R177). -/
def keepAliveCheck (found : Option (BitVec 16)) (ram : List (Vector Byte 8)) (s : State) : State :=
  let signature := found.getD s.power.signature
  let failed := ramTest ram
  let bad := s.power.kind == .cold || signature != Config.keepAliveSignature
  let cold := bad || decide (0 < failed)
  let s1 :=
    if cold ∧ s.power.kind ≠ .cold then evalSpoiled [.lightsOn, .keyIn, .clockUnset] (coldKeepAlive s)
    else s
  let s2 := if cold then recordCode 0x32 s1 else s1
  s2.setPower
    { s2.power with
      step := .step3, signature := if cold then Config.keepAliveSignature else signature
      signatureBad := bad, failedLocations := min failed 255 }

/-- The expected source of a signal (R26). -/
def expectedSource (c : Settings) : Signal → Nat
  | .engRpm | .coolantT | .oilP | .engFlags => c.srcEngine
  | .gear | .transT => c.srcTrans
  | .doors | .lamps | .keyIn | .belt | .parkBrake | .washer | .bulbs => c.srcBody
  | .vehSpeed | .fuelLevel | .sysVolt | .brakeFluid | .headlampSw => 0

/-- Record the code of the configuration checks, if a field defaulted (R179). -/
def recordConfigResult (r : ConfigResult) (s : State) : State :=
  match r with
  | .allDefaulted => recordCode 0x33 s
  | .defaulted 0 => s
  | .defaulted (_ + 1) => recordCode 0x34 s

/-- Some field took its default (R123). -/
def ConfigResult.anyDefault : ConfigResult → Bool
  | .allDefaulted => true
  | .defaulted n => decide (0 < n)

/-- Every block takes its configuration as step 3 ends (R23, R26, R47, R54, R55, R58, R83, R165, R179). The frames that
wait in the transmit queue are from now on from the address read, which the cluster always uses (R25, R40). -/
def takeConfiguration (bytes : List Byte) (c : Settings) (r : ConfigResult) (s : State) : State :=
  { s with
    power := { s.power with step := .step4, configured := true, configResult := r }
    settings := c
    rqs := { s.rqs with staging := bytes }
    link :=
      { s.link with
        listening := true, receiver := .waiting, idleCount := 0
        txQueue := s.link.txQueue.map (·.sentFrom c.address) }
    signals :=
      Signal.all.foldl
        (fun v g => v.set g.ix { v[g.ix] with expected := expectedSource c g }) s.signals
    input :=
      { s.input with
        residue := if c.ppk ≤ s.input.residue then 0 else s.input.residue
        ignLength := c.ignLength
        fuel := { s.input.fuel with averaging := true, good := 0, sum := 0 } }
    gdu :=
      { s.gdu with
        gauges := Vector.ofFn (fun i : Fin 6 => { s.gdu.gauges[i] with position := c.spans[i] }) }
    clock :=
      if s.power.kind = .cold then { s.clock with pendingTrim := some c.clockTrim } else s.clock
    wnu := { s.wnu with configDefaults := r.anyDefault || s.wnu.configDefaults } }

/-- Step 3: the configuration read, its checks, and what follows from them (R179). -/
def readConfigurationStep (s : State) : State :=
  let bytes := s.store.readBytes 0 62
  let (c, r) := readConfiguration bytes
  evalWarnings [.configDefaults] (recordConfigResult r (takeConfiguration bytes c r s))

/-- The reconciliation of the kept values with the newest slot (R114): base, pending and whether the
resolution commits. -/
def reconcile (newest verified : Option Nat) (pending : Nat) : Option Nat × Nat × Bool :=
  match newest, verified with
  | some s, some v =>
    if v < s then (some s, pending - (s - v), false)
    else if s < v then (some v, pending, true)
    else (some s, pending, false)
  | some s, none => (some s, pending, false)
  | none, some v => (some v, pending, true)
  | none, none => (none, pending, false)

/-- Step 4 for ODU and STC: the newest slot, the write position, the RESTORED mark, the base, and 12h
when the ring has no valid slot (R105, R110, R113, R114). -/
def takeRing (s : State) : State :=
  let newest := newestSlot s.store 16
  let r := reconcile (newest.map (·.2.1)) s.odo.verified s.odo.pending
  let s1 :=
    (s.setStc { s.stc with writePos := ringWritePosition newest }).setOdo
      { s.odo with
        committed := r.1.getD 0, pending := r.2.1, base := r.1, baseCommit := r.2.2
        restored := (newest.map (·.2.2)).getD false }
  if newest.isNone then recordCode 0x12 s1 else s1

/-- The port is free once both reads have ended, and a waiting job begins (R111, R113). -/
def openPort (s : State) : State := stcBegin (s.setStc { s.stc with portOpen := true })

/-! ## RUN, COURTESY and the end of COURTESY (R180 to R183) -/

/-- What begins as STARTING ends in RUN or COURTESY: sending, homing, the echo wait, the speed gate and
the tone (R180), which leaves SILENT before the warnings of the entry are worked out (DESIGN CHOICE, log entry 61). -/
def leaveStarting (contacts : BitVec 6) (s : State) : State :=
  let l := s.link
  let s1 :=
    s.setLink { l with tx := if l.tx = .idle ∧ l.txQueue ≠ [] then .waitingIdle else l.tx }
  let s2 := homeAll contacts s1
  let s3 := s2.setOdo { s2.odo with echoWait := some 2000 }
  let s4 :=
    s3.setInput
      { s3.input with
        gate :=
          { isOpen := true, edges := 0, firstUs := 0, lastUs := 0, sinceEdge := none
            computed := none } }
  s4.setWnu s4.wnu.allowTone

/-- The service warnings raised at a RUN entry: none while the displayed km is absent (R130). -/
def State.serviceRaises (s : State) : List Warning :=
  if s.odo.resolved then raisedService s else []

/-- The work of every block at an entry to RUN (R41, R43, R44, R82, R87, R98, R123, R130, R138, R152,
R181). The tone leaves SILENT before the warnings of the entry are worked out, so that the chime of the first one
announced starts at once (DESIGN CHOICE, log entry 61). -/
def enterRun (s : State) : State :=
  let s1 :=
    s.setPower
      { s.power with
        state := .run, courtesyTimer := none, courtesyCap := none, endPhase := .none
        saveWait := none, pendingWake := false }
  let s2 := withdrawPark s1
  let s3 := s2.setOdo { s2.odo with distTimer := some 500 }
  let s4 := recomputeRange (s3.setTrc { s3.trc with rearTimer := some 2000 })
  let s5 := openDrive (journeyRule s4)
  let s6 :=
    s5.setWnu
      { s5.wnu.allowTone with
        linkWindow := some 3000, beltWindow := some 60000, broadcastTimer := some 2000 }
  evalTogether s6.serviceRaises powerWarnings s6

/-- The work of every block at an entry to COURTESY (R41, R43, R44, R169, R170, R182). -/
def enterCourtesy (s : State) : State :=
  let s1 :=
    s.setPower
      { s.power with
        state := .courtesy, courtesyTimer := some (1000 * s.settings.courtesyS)
        courtesyCap := some 300000, endPhase := .none }
  let s2 := s1.setOdo { s1.odo with distTimer := none, courtesyOffered := s1.odo.resolved }
  let s3 := s2.setTrc { s2.trc with rearTimer := none }
  let s4 := s3.setWnu { s3.wnu with broadcastTimer := none }
  let s5 :=
    s4.setMsc { s4.msc with review := none, reviewTimer := none, clockSet := none }
  let s6 := if s5.odo.resolved then offerDistance s5 else s5
  evalWarnings powerWarnings s6

/-- STARTING ends in RUN or COURTESY by the filtered ignition level (R180). -/
def endStarting (contacts : BitVec 6) (s : State) : State :=
  let next : Power := if s.ignitionOn then .run else .courtesy
  let s1 := s.setPower { s.power with state := next, step := .none }
  let s2 := leaveStarting contacts s1
  if s.ignitionOn then enterRun s2 else enterCourtesy s2

/-- STARTING ends once step 4 has ended and the ignition filter has completed (R180). -/
def maybeEndStarting (contacts : BitVec 6) (s : State) : State :=
  if s.power.state = .starting ∧ s.power.step = .done ∧ s.input.filters[(0 : Fin 5)].completed then
    endStarting contacts s
  else s

/-- The four warnings that end with COURTESY leave the active list (R143). -/
def endWarnings (s : State) : State :=
  [Warning.odoRestored, .configDefaults, .serviceDue, .serviceSoon].foldl
    (fun t n => if t.wnu.list.contains n then leaveList n t else t) s

/-- WNU at the end of COURTESY: the tone silent, the queue emptied, and the four warnings off the list (R143). The
causes of ODO_RESTORED and CONFIG_DEFAULTS end here, and conditions held by bad cells are worked out afresh at that
(R122, R123, R177). -/
def silenceWarnings (s : State) : State :=
  evalSpoiled [.odoRestored, .configDefaults]
    (endWarnings
      (s.setWnu
        { s.wnu with
          tone := .silent, chimes := [], odoRestored := false, configDefaults := false }))

/-- Reached when SAVING ends: the park is ordered (R183). -/
def beginPark (s : State) : State :=
  orderPark (s.setPower { s.power with endPhase := .parking, saveWait := none })

/-! ## SLEEP entry (R24, R63, R101, R118, R143, R152, R174, R184) -/

/-- The service entries of a job whose units before `n` were verified. -/
def Job.verifiedEntries (j : Job) (n : Nat) : List ServiceEntry :=
  match j with
  | .service entries => entries.take n
  | .odometer _ _ _ => []
  | .configuration _ => []

/-- The blocks take the outcome of a job at SLEEP entry: `done` when its last unit was verified, `n` its
verified units, `failed` when a unit failed; an odometer job that ends either way moves the write position
(R110, R118). -/
def sleepReport (j : Job) (n : Nat) (done failed : Bool) (s : State) : State :=
  match j with
  | .odometer w _ slot =>
    let s1 :=
      if done || failed then s.setStc { s.stc with writePos := (slot + 1) % 16 } else s
    if done then s1.setOdo (s1.odo.verify w) else s1
  | .service _ => serviceReport (j.verifiedEntries n) s
  | .configuration _ =>
    if done then s.setRqs { s.rqs with writeStatus := .written }
    else if failed then s.setRqs { s.rqs with writeStatus := .failed }
    else s

/-- Bytes of a unit that mismatched on its repeat, as free values. -/
def mismatchBytes (draw a : Nat) : Nat → List Byte
  | 0 => []
  | n + 1 => Config.sleepMismatchByte draw a :: mismatchBytes draw (a + 1) n

/-- STC at SLEEP entry carries the unit in progress to its end, whose outcome is free (R118). STORE_FAULT is set
by it, and WNU works nothing out: its SLEEP entry comes at the same moment (the model's choice, log
entry 47). -/
def finishUnit (s : State) : State :=
  match s.stc.active with
  | none => s
  | some a =>
    match a.current with
    | none => s
    | some (address, bytes) =>
      if Config.sleepUnitVerifies s.draw then
        let s1 := (s.setStore (s.store.writeBytes address bytes)).nextDraw
        let s2 := s1.setStc { s1.stc with fault := false }
        sleepReport a.job (a.unit + 1) (decide (a.job.units.length ≤ a.unit + 1)) false s2
      else
        let s1 :=
          (s.setStore
            (s.store.writeBytes address (mismatchBytes s.draw address bytes.length))).nextDraw
        let s2 := recordCode 0x11 (s1.setStc { s1.stc with fault := true })
        sleepReport a.job a.unit false true s2

/-- STC empties its job set and stops the port; the commit becomes CLEAR (R118). So does a DEFERRED one, which has no
job to be reported FAILED (DESIGN CHOICE, log entry 62). -/
def closePort (s : State) : State :=
  let s1 := finishUnit s
  (s1.setStc
    { s1.stc with
      portOpen := false, active := none, waitOdometer := none, waitService := []
      waitConfiguration := false }).setOdo
    { s1.odo with
      commit := .clear, saveMark := false, echoWait := none, distTimer := none }

/-- An attempt on the line at SLEEP entry whose failure abandons its entry: one in BREAKING has failed,
one in SENDING may fail, which is free (R12, R24). -/
def sleepAbandons (s : State) : Bool :=
  match s.link.txQueue.find? (·.underAttempt) with
  | none => false
  | some e =>
    e.failed == 3
      && (s.link.tx == .breaking || (s.link.tx == .sending && Config.sleepAttemptFails s.draw))

/-- LST closes down (R24). -/
def closeLink (s : State) : State :=
  let s1 :=
    if sleepAbandons s then
      recordCode 0x01
        (s.setLink
          { s.link with
            counters :=
              { s.link.counters with txAbandoned := satInc 255 s.link.counters.txAbandoned } })
    else s
  (s1.setLink
    { s1.link with
      listening := false, receiver := .waiting, tx := .idle, txTimer := none, abandonRun := 0
      txQueue := [], ring := []
      roster := s1.link.roster.map (fun e => { e with timer := none }) }).nextDraw

/-- INU and SGT at SLEEP entry (R27, R48, R63). -/
def closeInputs (s : State) : State :=
  let i := s.input
  (s.setInput
    { i with
      gate := { i.gate with isOpen := false, edges := 0 }
      fuel := { i.fuel with averaging := false }
      buttons := i.buttons.map (fun b => { b with hold := none })
      longTimer := none, events := [], overrun := .clear }).setSignals
    (s.signals.map (fun r => { r with timer := none }))

/-- WNU at SLEEP entry (R143). -/
def WarningUnit.sleep (w : WarningUnit) : WarningUnit :=
  { w with
    records := Vector.replicate 24 inactiveRecord
    list := [], chimes := [], tone := .silent, engineRunning := false, runningTimer := none
    runningLong := false, linkWindow := none, beltWindow := none, odoRestored := false
    configDefaults := false, broadcastTimer := none }

/-- MSC at SLEEP entry: the blank record last sent (R166, R174). -/
def MessageCentre.sleep (m : MessageCentre) (low : Bool) : MessageCentre :=
  let blank : DisplayRecord := { text := List.replicate 16 ' ', blink := false, low := low }
  { m with
    composed := blank, lastSent := some blank, sending := false, peerText := none, peerTimer := none
    review := none, reviewTimer := none, clockSet := none, mark := false, downSet := []
    lampTest := .ended, lampTimer := none }

/-- SLEEP is entered; with the pending-wake mark set, a WAKE start follows at once (R184). STC closes before LST,
so that 01h stands as the last error code where a unit fails and an attempt is abandoned at one entry (the model's
choice, log entry 56). -/
def enterSleep (s : State) : State :=
  let s1 := closeInputs (closeLink (closePort s))
  let s2 :=
    s1.setTrc { s1.trc with binMetres := 0, binFuel := 0, instant := none, rearTimer := none }
  let s3 := (closeDrive s2).setWnu s2.wnu.sleep
  let s4 := s3.setSru { s3.sru with heldReset := none }
  let s5 := (s4.setRqs { s4.rqs with inService := none }).setMsc (s4.msc.sleep s4.dim)
  let s6 :=
    s5.setPower
      { s5.power with
        state := .sleep, endPhase := .none, saveWait := none, courtesyTimer := none
        courtesyCap := none }
  if s6.power.pendingWake then wakeStart s6 else s6

/-- SLEEP follows once the park is complete (R81, R183). -/
def finishPark (s : State) : State :=
  if s.power.state = .courtesy ∧ s.power.endPhase = .parking ∧ s.gdu.allParked then enterSleep s else s

/-- SAVING ends at the save's completion: the job set empty with the port free (R183). -/
def finishSave (s : State) : State :=
  if s.power.state = .courtesy ∧ s.power.endPhase = .saving ∧ s.stc.idle then finishPark (beginPark s)
  else s

/-- The end of COURTESY (R183): the blocks take the end, the save is ordered, SAVING begins. -/
def endCourtesy (s : State) : State :=
  let s1 :=
    s.setPower
      { s.power with
        courtesyTimer := none, courtesyCap := none, endPhase := .saving, saveWait := some 500 }
  let s2 :=
    s1.setMsc
      { s1.msc with
        peerText := none, peerTimer := none, lampTimer := none
        lampTest := if s1.msc.lampTest = .running then .ended else s1.msc.lampTest }
  let s3 := silenceWarnings s2
  let s4 := saveService (saveOdometer s3)
  finishSave (s4.setClock { s4.clock with lastOff := s4.clock.stamp })

/-! ## The odometer resolution (R116) -/

/-- The echo is adopted: it stands above the base by more than the tolerance (R116). -/
def adopts (commitKm base echo : Nat) : Bool := decide (base + commitKm * 1000 + 1000 < echo)

/-- The resolved value with whether it was restored, by R116's lines. -/
def resolved (commitKm : Nat) (base echo : Option Nat) : Nat × Bool :=
  match base, echo with
  | none, some e => (e, true)
  | none, none => (0, true)
  | some b, some e => if adopts commitKm b e then (e, true) else (b, false)
  | some b, none => (b, false)

/-- ODU raises ODO_RESTORED (R116, R123). -/
def raiseRestored (s : State) : State :=
  evalWarnings [.odoRestored] (s.setWnu { s.wnu with odoRestored := true })

/-- The hand-over of the displayed km: SRU's repairs, and the service evaluation that a RUN entry left
waiting (R116, R130, R147). A RESET SERVICE held for the displayed km is made before the evaluation (the model's
choice, log entry 48). -/
def handOverKm (s : State) : State :=
  let s1 := s.setOdo { s.odo with resolved := true }
  let s2 := serviceHandOver (displayedKm s1.odo.total) s1
  if s2.power.state = .run then evalTogether (raisedService s2) [] s2 else s2

/-- The hand-over with the raise of ODO_RESTORED on either side of it, which is free (R133). A service warning of
the hand-over is announced on its side of the raise (the model's choice, log entry 49). -/
def handOverAndRaise (restored : Bool) (s : State) : State :=
  if restored then
    if Config.raiseBeforeHandOver s.draw then handOverKm (raiseRestored s.nextDraw)
    else raiseRestored (handOverKm s.nextDraw)
  else handOverKm s

/-- CLUSTER_DISTANCE at the end of a resolution in a COURTESY that has not had its offer (R41). -/
def offerCourtesyDistance (s : State) : State :=
  if s.power.state = .courtesy ∧ !s.odo.courtesyOffered then
    offerDistance (s.setOdo { s.odo with courtesyOffered := true })
  else s

/-- The end of the start resolution, with an echo or without one (R116). -/
def resolveOdometer (echo : Option Nat) (s : State) : State :=
  let r := resolved s.settings.commitKm s.odo.base echo
  let s1 :=
    s.setOdo
      { s.odo with
        committed := r.1, verified := some r.1, echoWait := none
        restored := s.odo.restored || r.2 }
  let s2 := offerCourtesyDistance (handOverAndRaise r.2 (tripsResolved s1))
  if r.2 ∨ s.odo.baseCommit ∨ s2.commitMetres ≤ s2.odo.pending then commitStart s2 else s2

/-! ## Answers -/

/-- What a command answers. -/
abbrev Answer := Host.Outcome State Fault Refusal

/-- A command is done: the display record is composed anew (R166), and the next state answered. -/
def done (s : State) : Answer := .next (refresh s)

end Sys2Proof.Machine
end

