-- ==== Sys2Proof/Machine/Link.lean ====
section
/-! DEFINITION. The commands of the Link Station (chapter 1): bytes and breaks on the line, attempts, and
the timers of the transmitter and the roster. -/

namespace Sys2Proof.Machine

open Sys2Proof

/-! ## Receiving (R5, R6, R7, R18, R20) -/

/-- One more CHECK_ERRORS (R21). -/
def LinkCounters.checkError (c : LinkCounters) : LinkCounters :=
  { c with checkErrors := satInc 255 c.checkErrors }

/-- The frame in progress is malformed: CHECK_ERRORS, and the rest is skipped (R5). -/
def Link.malformed (l : Link) : Link :=
  { l with receiver := .skipping, counters := l.counters.checkError }

/-- Refresh the roster entry of a source 1 to 14 (R7, R20). -/
def refreshRoster (source : Nat) (s : State) : State :=
  if 1 ≤ source ∧ source ≤ 14 then
    let s1 :=
      s.setLink
        { s.link with
          roster :=
            s.link.roster.setIfInBounds (source - 1) { presence := .present, timer := some 2000 } }
    if source = 3 then evalWarnings [.bodyLinkLost] s1 else s1
  else s

/-- The transmitter is MUTED for 1 s (R13). -/
def Link.mute (l : Link) : Link := { l with tx := .muted, txTimer := some 1000 }

/-- The clash check: a frame from the cluster's own address mutes the transmitter and records 02h
(R7, R13). -/
def checkClash (source : Nat) (s : State) : State :=
  if source = s.settings.address then recordCode 0x02 (s.setLink s.link.mute) else s

/-- The acceptance set (R7). -/
def accepted (address : Nat) (f : Frame) : Bool :=
  let id := f.id.toNat
  match f.kind with
  | .broadcast => id == 0x10 || id == 0x12 || id == 0x20 || id == 0x22
  | .directed =>
    f.target == some address && (id == 0x30 || id == 0x31 || (decide (0x70 ≤ id) && decide (id ≤ 0x7C)))
  | .response => false

/-- Offer a frame to the receive ring; a full ring drops it, with RING_OVERFLOW and 03h (R7, R18). -/
def offerRing (f : Frame) (s : State) : State :=
  if accepted s.settings.address f then
    if s.link.ring.length < 12 then s.setLink { s.link with ring := s.link.ring ++ [f] }
    else
      recordCode 0x03
        (s.setLink
          { s.link with
            counters :=
              { s.link.counters with ringOverflow := satInc 255 s.link.counters.ringOverflow } })
  else s

/-- The three steps of acceptance (R7). -/
def acceptFrame (f : Frame) (s : State) : State :=
  offerRing f (checkClash f.source (refreshRoster f.source s))

/-- The check byte arrives: the receiver returns to WAITING, a wrong check counts, and a check-valid
frame that is not the cluster's own goes to acceptance (R6). -/
def takeCheck (bytes : List Byte) (b : Byte) (s : State) : State :=
  let s1 := s.setLink { s.link with receiver := .waiting }
  if b ≠ frameCheck bytes then s1.setLink { s1.link with counters := s1.link.counters.checkError }
  else if s.link.tx = .sending then s1
  else
    match frameOfBytes bytes with
    | some f => acceptFrame f s1
    | none => s1

/-- A byte arrives, with a framing error or without (R5); the idle count is that since its last dominant
bit (R8). While the cluster drives its own break no byte can arrive (R2). -/
def takeByte (framing : Bool) (b : Byte) (s : State) : State :=
  if s.link.listening ∧ s.link.tx ≠ .breaking then
    let l := { s.link with idleCount := idleAfterByte b framing }
    let s1 := s.setLink l
    match l.receiver with
    | .skipping => s1
    | .waiting =>
      if framing ∨ headerBad b then s1.setLink l.malformed
      else s1.setLink { l with receiver := .inFrame [b] }
    | .inFrame bytes =>
      if framing then s1.setLink l.malformed
      else
        match nextField bytes with
        | .body => s1.setLink { l with receiver := .inFrame (bytes ++ [b]) }
        | .length =>
          if 8 < b.toNat then s1.setLink l.malformed
          else s1.setLink { l with receiver := .inFrame (bytes ++ [b]) }
        | .check => takeCheck bytes b s1
  else s

/-- The command that a reading of the line tells, by the frame in progress: a byte's at its stop bit, or where that
is dominant at the end of its run; a glitch tells none (R1, R2, R5). -/
def Character.command (r : Receiver) : Character → Option Instr
  | .glitch => none
  | .breakRun => some .breakReceived
  | .framingError b => some (.receiveErrorByte b true)
  | .byte b =>
    match r with
    | .skipping => some (.byteReceived b)
    | .waiting => some (if headerBad b then .receiveErrorByte b false else .byteReceived b)
    | .inFrame bytes =>
      match nextField bytes with
      | .body => some (.byteReceived b)
      | .length => some (if 8 < b.toNat then .receiveErrorByte b false else .byteReceived b)
      | .check => some (.frameReceived b)

/-- FRAME_RECEIVED (R6). -/
def execFrameReceived (check : Byte) (s : State) : Answer := done (takeByte false check s)

/-- RECEIVE_ERROR_BYTE (R5). -/
def execReceiveErrorByte (b : Byte) (framing : Bool) (s : State) : Answer := done (takeByte framing b s)

/-- BYTE_RECEIVED (R5). -/
def execByteReceived (b : Byte) (s : State) : Answer := done (takeByte false b s)

/-- BYTE_GAP_TIMEOUT: a gap of 21 bt ends the frame as truncated (R5). -/
def execByteGapTimeout (s : State) : Answer :=
  match s.link.receiver with
  | .inFrame _ =>
    .next
      (s.setLink
        { s.link with
          receiver := .waiting
          counters := { s.link.counters with truncated := satInc 255 s.link.counters.truncated } })
  | .waiting => .next s
  | .skipping => .next s

/-- SKIPPING_IDLE_END: 14 bt of recessive line end the skipping (R5). -/
def execSkippingIdleEnd (s : State) : Answer :=
  if s.link.receiver = .skipping then .next (s.setLink { s.link with receiver := .waiting }) else .next s

/-- BREAK_RECEIVED: the partial frame is discarded without a count (R2, R5). -/
def execBreakReceived (s : State) : Answer :=
  if s.link.listening then .next (s.setLink { s.link with receiver := .waiting, idleCount := 0 })
  else .next s

/-! ## Sending (R8 to R13, R17) -/

/-- Where the transmitter rests between attempts: WAITING_IDLE with a frame and leave to send, IDLE
otherwise (R8). -/
def restingTx (q : List TxEntry) (s : State) : TxState :=
  if q ≠ [] ∧ s.sendingAllowed then .waitingIdle else .idle

/-- The head entry is under attempt (R9). -/
def markHead : List TxEntry → List TxEntry
  | [] => []
  | e :: q => { e with underAttempt := true } :: q

/-- An attempt may start with an idle count: the head's spacing is reached, the receiver is WAITING, and
sending is allowed (R9). -/
def attemptMayStart (count : Nat) (s : State) : Bool :=
  match s.link.txQueue with
  | [] => false
  | e :: _ =>
    s.link.tx == .waitingIdle && s.link.receiver == .waiting && s.sendingAllowed
      && decide (ifs e.frame.cls ≤ count)

/-- The line is not driven by the cluster. -/
def Link.quiet (l : Link) : Bool := l.tx != .sending && l.tx != .breaking

/-- ATTEMPT_START: at a bit boundary the attempt starts, or the idle count goes on (R8, R9). -/
def execAttemptStart (idle : Nat) (s : State) : Answer :=
  let count := s.link.idleCount + idle
  if attemptMayStart count s then
    .next
      (s.setLink
        { s.link with
          tx := .sending, idleCount := 0, txQueue := markHead s.link.txQueue })
  else if s.link.listening ∧ s.link.quiet then .next (s.setLink { s.link with idleCount := count })
  else .next s

/-- The held contents become the entry's contents, and the attempt is over (R17). -/
def TxEntry.settle (e : TxEntry) (failed : Nat) : TxEntry :=
  { e with frame := e.held.getD e.frame, held := none, failed := failed, underAttempt := false }

/-- The entry under attempt after a loss of arbitration (R10, R17). -/
def lostEntry (e : TxEntry) : TxEntry := if e.underAttempt then e.settle e.failed else e

/-- ARBITRATION_LOST: the bit that lost it reads dominant (R8, R10). -/
def execArbitrationLost (s : State) : Answer :=
  if s.link.tx = .sending then
    .next
      (s.setLink
        { s.link with
          tx := .waitingIdle, idleCount := 0, txQueue := s.link.txQueue.map lostEntry })
  else .next s

/-- BIT_ERROR: the cluster drives its break (R11). -/
def execBitError (s : State) : Answer :=
  if s.link.tx = .sending then .next (s.setLink { s.link with tx := .breaking }) else .next s

/-- The entry under attempt leaves, or stays with its held contents and no failed attempts (R16, R17). -/
def leaveEntry (e : TxEntry) : Option TxEntry :=
  if e.underAttempt then (if e.held.isSome then some (e.settle 0) else none) else some e

/-- The check byte of the frame under attempt (R4). -/
def attemptCheck (q : List TxEntry) : Byte :=
  match q.find? (·.underAttempt) with
  | some e => frameCheck (frameBody e.frame)
  | none => 0

/-- The levels the cluster drives: the frame under attempt from its start bit, its break, or none, the line
being released (R1, R2). -/
def State.lineOutput (s : State) : List LineLevel :=
  match s.link.tx with
  | .sending =>
    (match s.link.txQueue.find? (·.underAttempt) with
     | some e => frameLevels e.frame
     | none => [])
  | .breaking => breakLevels
  | _ => []

/-- ATTEMPT_SUCCESS: the attempt ends with the stop bit of its check byte (R8, R11). -/
def execAttemptSuccess (s : State) : Answer :=
  if s.link.tx = .sending then
    let q := s.link.txQueue.filterMap leaveEntry
    .next
      (s.setLink
        { s.link with
          receiver := .waiting, tx := restingTx q s, abandonRun := 0, txQueue := q
          idleCount := idleAfterByte (attemptCheck s.link.txQueue) false })
  else .next s

/-- The failed attempts of the entry under attempt, with this one (R12). -/
def failedAttempts (q : List TxEntry) : Nat :=
  match q.find? (·.underAttempt) with
  | some e => e.failed + 1
  | none => 0

/-- The entry under attempt after a failure that leaves it in the queue (R12, R17). -/
def failedEntry (e : TxEntry) : TxEntry := if e.underAttempt then e.settle (e.failed + 1) else e

/-- An entry is abandoned: it leaves or takes up its held contents, TX_ABANDONED counts, 01h is
recorded, and the fourth in a row mutes the transmitter (R12, R13, R17). -/
def abandonEntry (s : State) : State :=
  let q := s.link.txQueue.filterMap leaveEntry
  let l : Link :=
    { s.link with
      receiver := .waiting, idleCount := 0, txQueue := q
      counters := { s.link.counters with txAbandoned := satInc 255 s.link.counters.txAbandoned } }
  recordCode 0x01
    (s.setLink
      (if 4 ≤ l.abandonRun + 1 then { l.mute with abandonRun := 0 }
       else { l with abandonRun := l.abandonRun + 1, tx := restingTx q s }))

/-- BREAK_END: the failed attempt is counted, and the entry retries, pauses or is abandoned (R12). -/
def execBreakEnd (s : State) : Answer :=
  if s.link.tx = .breaking then
    let n := failedAttempts s.link.txQueue
    let q := s.link.txQueue.map failedEntry
    let l := { s.link with receiver := .waiting, idleCount := 0, txQueue := q }
    if 4 ≤ n then .next (abandonEntry s)
    else if n = 3 then .next (s.setLink { l with tx := .paused, txTimer := some 100 })
    else .next (s.setLink { l with tx := restingTx q s })
  else .next s

/-- PAUSE_EXPIRY (R8, R12). -/
def execPauseExpiry (s : State) : Answer :=
  if s.link.tx = .paused then
    .next (s.setLink { s.link with tx := restingTx s.link.txQueue s, txTimer := none })
  else .next s

/-- MUTE_EXPIRY (R8, R13). -/
def execMuteExpiry (s : State) : Answer :=
  if s.link.tx = .muted then
    .next (s.setLink { s.link with tx := restingTx s.link.txQueue s, txTimer := none })
  else .next s

/-! ## The roster (R20, R142) -/

/-- A station falls silent: its continuous pattern stops, its continuous request is removed (R142). -/
def WarningUnit.stationSilent (w : WarningUnit) (station : Nat) : WarningUnit :=
  { w with
    chimes :=
      w.chimes.filter (fun r => r.source != ChimeSource.station station || !r.pattern.continuous)
    }.stopSounding (ChimeSource.station station) (·.continuous)

/-- ROSTER_TIMER_EXPIRY: a PRESENT station becomes SILENT, and its continuous chime stops (R20, R142). Of station 3
the chime stops before BODY_LINK_LOST is worked out (the model's choice, log entry 58). -/
def execRosterTimerExpiry (station : Nat) (s : State) : Answer :=
  match s.link.roster[station - 1]? with
  | some e =>
    if 1 ≤ station ∧ s.link.listening ∧ e.presence = .present ∧ e.timer.isSome then
      let s1 :=
        s.setLink
          { s.link with
            roster :=
              s.link.roster.setIfInBounds (station - 1) { presence := .silent, timer := none } }
      let s2 := s1.setWnu (s1.wnu.stationSilent station)
      done (if station = 3 then evalWarnings [.bodyLinkLost] s2 else s2)
    else .next s
  | none => .next s

end Sys2Proof.Machine
end

