-- ==== Sys2Proof/Machine/Signals.lean ====
section
/-! DEFINITION. The commands that take a frame of the catalogue other than a workshop request, and the
expiry of a peer signal (chapter 2, R141, R142). -/

namespace Sys2Proof.Machine

open Sys2Proof

/-- ENGINE_STATUS: signals 0 to 3, then the fuel count to TRC (R34). -/
def execEngineStatus (s : State) : Answer :=
  done
    (dispatch 0x10
      (fun f t =>
        statusFrame t.settings.srcEngine 6
          (fun u => fuelHandOn (engineFuelCount f.data) (arriveAll (engineArrivals f.data) u)) f t) s)

/-- TRANS_STATUS: signals 4 and 5 (R35). -/
def execTransStatus (s : State) : Answer :=
  done
    (dispatch 0x12
      (fun f t => statusFrame t.settings.srcTrans 2 (arriveAll (transArrivals f.data)) f t) s)

/-- BODY_STATUS: a change restarts the courtesy timer, then signals 6 to 12 (R36, R182). -/
def execBodyStatus (s : State) : Answer :=
  done
    (dispatch 0x20
      (fun f t =>
        statusFrame t.settings.srcBody 3
          (fun u =>
            let a := bodyArrivals f.data
            let v := arriveAll a u
            if bodyChanged u a then restartCourtesy v else v) f t) s)

/-- ODO_ECHO: during the echo wait, from the source of BODY_STATUS, it ends the wait (R37, R115). The wait is tested
as the frame is taken from the ring, so an echo that joined the ring before the wait began and is taken in it is used
(DESIGN CHOICE, log entry 67). -/
def execOdoEcho (s : State) : Answer :=
  done
    (dispatch 0x22
      (fun f t =>
        if t.odo.echoWait.isSome ∧ f.source = t.settings.srcBody ∧ f.data.length = 4 then
          resolveOdometer (some (beNat f.data)) t
        else t) s)

/-- Station requests and cancels are taken: RUN, and COURTESY before its end (R141, R142). -/
def State.stationsTaken (s : State) : Bool := s.awake && s.power.endPhase == .none

/-- A chime request from a station, checked field by field (R38). -/
def stationRequest (f : Frame) (moment : Nat) : Option ChimeRequest :=
  match Pattern.ofNat? (byteAt f.data 0).toNat with
  | none => none
  | some p =>
    let cls := (byteAt f.data 1).toNat
    if f.data.length = 3 ∧ cls ≤ 3 then
      some { source := .station f.source, pattern := p, cls := max 1 cls, entered := moment }
    else none

/-- Show a peer text for 5 s (R169). -/
def showPeerText (text station : Nat) (s : State) : State :=
  s.setMsc { s.msc with peerText := some { text := text, station := station }, peerTimer := some 5000 }

/-- Give a station's request to the chime queue; if it is in the queue and its text id names a text,
the Message Centre shows the text (R141). -/
def giveStationChime (r : ChimeRequest) (text station : Nat) (s : State) : State :=
  let g := s.wnu.giveChime r
  let s1 := (s.setWnu g.1).nextMoment
  if g.2 ∧ 1 ≤ text ∧ text ≤ 5 then showPeerText text station s1 else s1

/-- CHIME_REQUEST (R38, R141). -/
def execChimeRequest (s : State) : Answer :=
  done
    (dispatch 0x30
      (fun f t =>
        match stationRequest f t.moment with
        | some r =>
          if t.stationsTaken then giveStationChime r (byteAt f.data 2).toNat f.source t else t
        | none => t) s)

/-- End a station's chime: its sounding pattern, its waiting request and its peer text (R142, R169). -/
def cancelStation (station : Nat) (s : State) : State :=
  let w := { s.wnu with chimes := chimeRemove (.station station) s.wnu.chimes }
  let s1 := s.setWnu (w.stopSounding (.station station) (fun _ => true))
  if s1.msc.peerText.any (fun t => t.station == station) then
    s1.setMsc { s1.msc with peerText := none, peerTimer := none }
  else s1

/-- CHIME_CANCEL (R38, R142). -/
def execChimeCancel (s : State) : Answer :=
  done
    (dispatch 0x31
      (fun f t => if f.data = [] ∧ t.stationsTaken then cancelStation f.source t else t) s)

/-- A record at the end of its expiry timer (R29). -/
def SignalRecord.expired (r : SignalRecord) (t : Nat) : SignalRecord :=
  match r.state with
  | .fresh => { r with state := .stale, timer := some (2 * t) }
  | .invalid => { r with state := .stale, timer := some (2 * t) }
  | .stale => { r with state := .lost, timer := none }
  | .never => r
  | .lost => r

/-- The engine-count-lost notice: the fuel reference becomes absent (R34, R90). -/
def countLost (s : State) : State := s.setTrc { s.trc with fuelRef := none }

/-- SIGNAL_EXPIRY (R29). -/
def execSignalExpiry (sig : Signal) (s : State) : Answer :=
  let r := s.signal sig
  if r.timer.isSome then
    let r' := r.expired sig.refreshMs
    let s1 := s.setSignal sig r'
    let s2 := if r'.state = .stale then holdTargets sig s1 else s1
    let s3 := if sig = .engFlags ∧ r'.state = .lost then countLost s2 else s2
    done (signalsChanged [sig] s3)
  else .next s

end Sys2Proof.Machine
end

