-- ==== Sys2Proof/Machine/Inputs.lean ====
section
/-! DEFINITION. The commands of the Input Unit (chapter 3): the speed pulse and its gate, the fuel sender,
the supply, the switch filters, the wake by the link, and the button debouncers. -/

namespace Sys2Proof.Machine

open Sys2Proof

/-! ## Speed (R46 to R49) -/

/-- An edge counts in the gate (R48). -/
def SpeedGate.edge (g : SpeedGate) (us : Nat) : SpeedGate :=
  if g.isOpen then
    { g with
      edges := g.edges + 1, firstUs := if g.edges = 0 then us else g.firstUs, lastUs := us }
  else g

/-- The pulse residue takes a pulse: 1000 more, and a metre event when PPK is reached (R47). -/
def takePulse (s : State) : State :=
  let r := s.input.residue + 1000
  if s.settings.ppk ≤ r then
    metreEvent (s.setInput { s.input with residue := r - s.settings.ppk })
  else s.setInput { s.input with residue := r }

/-- SPEED_PULSE: taken by the distance count and by the gate, in RUN and COURTESY (R46, R47, R48). -/
def execSpeedPulse (us : Nat) (s : State) : Answer :=
  if s.awake then
    let s1 := takePulse s
    done (s1.setInput { s1.input with gate := s1.input.gate.edge us })
  else .next s

/-- The speed of a gate from its intervals and their span (R48). -/
def gateSpeed (ppk intervals span : Nat) : Nat :=
  min 2550
    (if span = 0 then Config.speedOfZeroSpan intervals
     else (2 * intervals * 36000000000 + ppk * span) / (2 * ppk * span))

/-- The time from the last edge of the start to the end of the gate, absent if there was none (R49). -/
def SpeedGate.age (g : SpeedGate) : Option Nat :=
  if 1 ≤ g.edges then some (125000 - g.lastUs) else g.sinceEdge.map (· + 125000)

/-- The speed that a gate end writes (R48, R49). -/
def SpeedGate.result (g : SpeedGate) (ppk : Nat) : Nat :=
  if 2 ≤ g.edges then gateSpeed ppk (g.edges - 1) (g.lastUs - g.firstUs)
  else
    match g.age, g.computed with
    | some a, some v => if a < 1000000 then v else 0
    | _, _ => 0

/-- The gate that follows (R48). -/
def SpeedGate.next (g : SpeedGate) (ppk : Nat) : SpeedGate :=
  { g with
    edges := 0, firstUs := 0, lastUs := 0, sinceEdge := g.age
    computed := if 2 ≤ g.edges then some (g.result ppk) else g.computed }

/-- SPEED_GATE_END: VEH_SPEED is written FRESH (R48, R49). -/
def execSpeedGateEnd (s : State) : Answer :=
  if s.awake ∧ s.input.gate.isOpen then
    let g := s.input.gate
    done
      (writeLocal .vehSpeed (some (g.result s.settings.ppk))
        (s.setInput { s.input with gate := g.next s.settings.ppk }))
  else .next s

/-! ## Fuel (R50 to R55) -/

/-- The level of a share of the capacity, at most the capacity (R51). -/
def shareLevel (capacity share : Nat) : Nat := min capacity (capacity * share / 200)

/-- The level between two neighbouring points of readings a < b (R51). -/
def betweenLevel (capacity a pa b pb x : Nat) : Nat :=
  min capacity (capacity * (pa * (b - x) + pb * (x - a)) / (200 * (b - a)))

/-- A reading lies between two neighbouring points (R51). -/
def brackets (x : Nat) (p : (Nat × Nat) × (Nat × Nat)) : Bool :=
  (decide (p.1.1 < x) && decide (x < p.2.1)) || (decide (p.2.1 < x) && decide (x < p.1.1))

/-- The level of a good reading through the sender table (R51). -/
def senderLevel (table : List (Nat × Nat)) (capacity x : Nat) : Nat :=
  match table.find? (fun p => p.1 == x) with
  | some p => shareLevel capacity p.2
  | none =>
    match (table.zip table.tail).find? (brackets x) with
    | some (p, q) =>
      if p.1 < q.1 then betweenLevel capacity p.1 p.2 q.1 q.2 x
      else betweenLevel capacity q.1 q.2 p.1 p.2 x
    | none =>
      match table.head?, table.getLast? with
      | some first, some last =>
        shareLevel capacity
          (if (decide (x < first.1)) = (decide (first.1 < last.1)) then first.2 else last.2)
      | _, _ => 0

/-- The filter's step toward 64 × S at rate k (R53). -/
def filterStep (f64 level k : Nat) : Nat :=
  let d : Int := 64 * (level : Int) - f64
  let q := d.tdiv ((2 ^ k : Nat) : Int)
  let step := if d ≠ 0 ∧ q = 0 then d.sign else q
  ((f64 : Int) + step).toNat

/-- The filter's rate (R53). -/
def filterRate (s : State) : Nat :=
  let r := s.signal .vehSpeed
  if r.state = .fresh ∧ r.value.any (fun v => decide (0 < v)) then 9 else 5

/-- The level of a filter state (R53). -/
def f64Level (f : Nat) : Nat := (f + 32) / 64

/-- A bad reading: the fifth in a row writes FUEL_LEVEL INVALID (R50). -/
def badReading (s : State) : State :=
  let f := s.input.fuel
  let s1 := s.setInput { s.input with fuel := { f with bad := min 5 (f.bad + 1) } }
  if 4 ≤ f.bad then writeLocal .fuelLevel none s1 else s1

/-- The averaging finds the tank filled: WARM or WAKE, with a level held (R54, R55). -/
def refuelled (threshold average : Nat) (f64 : Option Nat) : Bool :=
  match f64 with
  | some f => decide (f64Level f + threshold ≤ average)
  | none => false

/-- The filter state that the averaging ends with (R54, R55). -/
def averagedF64 (threshold average : Nat) (f64 : Option Nat) : Nat :=
  match f64 with
  | some f => if f64Level f + threshold ≤ average then 64 * average else f
  | none => 64 * average

/-- A good reading in the averaging, its level added to the sum; the sixteenth ends it, with the refuel
event after the write (R54, R55, R100). A kept F64 is not brought down to a smaller capacity (the model's choice,
log entry 57). -/
def averageReading (level : Nat) (s : State) : State :=
  let f := s.input.fuel
  let sum := f.sum + level
  if f.good + 1 < 16 then
    s.setInput { s.input with fuel := { f with bad := 0, good := f.good + 1, sum := sum } }
  else
    let average := sum / 16
    let f' := averagedF64 s.settings.refuel average f.f64
    let s1 :=
      s.setInput
        { s.input with
          fuel := { bad := 0, f64 := some f', averaging := false, good := 16, sum := sum } }
    let s2 := writeFuelLevel (f64Level f') s1
    if refuelled s.settings.refuel average f.f64 then recomputeRange s2 else s2

/-- A good reading after the averaging: one step of the filter (R53). -/
def filterReading (level : Nat) (s : State) : State :=
  let f := s.input.fuel
  let f' := filterStep (f.f64.getD (64 * level)) level (filterRate s)
  writeFuelLevel (f64Level f')
    (s.setInput { s.input with fuel := { f with bad := 0, f64 := some f' } })

/-- FUEL_SAMPLE: from the configuration step on (R50). -/
def execFuelSample (reading : Byte) (s : State) : Answer :=
  if s.powered ∧ s.power.configured then
    let x := reading.toNat
    if x < 8 ∨ 247 < x then done (badReading s)
    else
      let level := senderLevel s.settings.sender s.settings.capacity x
      if s.input.fuel.averaging then done (averageReading level s) else done (filterReading level s)
  else .next s

/-- SUPPLY_READING (R56). -/
def execSupplyReading (millivolts : Nat) (s : State) : Answer :=
  if s.powered then done (writeLocal .sysVolt (some (min 200 (millivolts / 100) : Nat)) s)
  else .next s

/-! ## Switch filters (R57 to R59) -/

/-- The length of a line's filter (R58). -/
def filterLength (s : State) : SwitchLine → Nat
  | .ignition => s.input.ignLength
  | .driverDoor => 4
  | .headlamp | .brakeFluid | .spare => 8

/-- A line is sampled in the present power state (R58). -/
def lineSampled (s : State) : SwitchLine → Bool
  | .ignition | .driverDoor => s.power.state != .off
  | .headlamp | .brakeFluid | .spare => s.powered

/-- A filter after a sample, short of what its completion does: the run count rises at a sample equal to
the last, stopping at the length, and is 1 at one that differs or is the first (R57). -/
def SwitchFilter.counted (f : SwitchFilter) (n : Nat) (l : Level) : SwitchFilter :=
  { f with last := some l, run := if f.last = some l then min n (f.run + 1) else 1 }

/-- A sample completes the filter: the run count is at the length, at a level other than the filtered one
or for the first time since the filter started anew (R57). -/
def SwitchFilter.completes (f : SwitchFilter) (n : Nat) (l : Level) : Bool :=
  (f.counted n l).run == n && (!f.completed || f.level != l)

/-- A filter after a sample (R57). -/
def SwitchFilter.sampled (f : SwitchFilter) (n : Nat) (l : Level) : SwitchFilter :=
  if f.completes n l then { f.counted n l with level := l, completed := true } else f.counted n l

/-- The filters after a sample of a line (R57). -/
def countSample (line : SwitchLine) (l : Level) (s : State) : State :=
  s.setInput
    { s.input with
      filters :=
        s.input.filters.set line.ix ((s.input.filters[line.ix]).sampled (filterLength s line) l) }

/-- A level as a flag signal's value (R59). -/
def levelValue : Level → Int
  | .active => 1
  | .inactive => 0

/-- The filtered ignition level has changed to ACTIVE (R59, R173, R181, R184). -/
def ignitionActiveEdge (contacts : BitVec 6) (s : State) : State :=
  match s.power.state with
  | .off => s
  | .sleep => wakeEvent s
  | .starting =>
    maybeEndStarting contacts
      (evalWarnings [.keyIn] (if s.power.step = .hold then s else beginLampTest s))
  | .run => evalWarnings [.keyIn] s
  | .courtesy => enterRun (beginLampTest s)

/-- The filtered ignition level has changed to INACTIVE (R59, R181). -/
def ignitionInactiveEdge (contacts : BitVec 6) (s : State) : State :=
  match s.power.state with
  | .off => s
  | .sleep => s
  | .starting => maybeEndStarting contacts (evalWarnings [.keyIn] s)
  | .run => enterCourtesy s
  | .courtesy => evalWarnings [.keyIn] s

/-- A driver-door edge: a wake event in SLEEP, a restart of the courtesy timer in COURTESY, the
pending-wake mark in its end phases (R182, R184). -/
def doorEdge (s : State) : State :=
  let s1 :=
    if s.power.state = .courtesy ∧ s.power.endPhase ≠ .none then
      s.setPower { s.power with pendingWake := true }
    else restartCourtesy s
  wakeEvent (evalWarnings [.lightsOn, .keyIn] s1)

/-- The line's reader takes a completion, `edge` when the filtered level has changed (R59). -/
def readerTakes (line : SwitchLine) (level : Level) (edge : Bool) (contacts : BitVec 6) (s : State) :
    State :=
  match line with
  | .ignition =>
    if edge then
      (match level with
       | .active => ignitionActiveEdge contacts s
       | .inactive => ignitionInactiveEdge contacts s)
    else maybeEndStarting contacts s
  | .driverDoor => if edge then doorEdge s else s
  | .headlamp => writeLocal .headlampSw (some (levelValue level)) s
  | .brakeFluid => writeLocal .brakeFluid (some (levelValue level)) s
  | .spare => s

/-- A sample of a line is taken, and at a completion its reader takes it (R57, R58, R59). -/
def sampleLine (line : SwitchLine) (contacts : BitVec 6) (s : State) (l : Level) : State :=
  let f := s.input.filters[line.ix]
  if lineSampled s line then
    if f.completes (filterLength s line) l then
      refresh (readerTakes line l (f.level != l) contacts (countSample line l s))
    else countSample line l s
  else s

/-- SWITCH_FILTER_COMPLETION: the samples are taken one after the other (R57, R58, R59). -/
def execSwitchFilterCompletion (line : SwitchLine) (samples : List Level) (contacts : BitVec 6)
    (s : State) : Answer :=
  .next (samples.foldl (sampleLine line contacts) s)

/-- LINK_FALLING_EDGE_WAKE: a wake event in SLEEP (R184). -/
def execLinkFallingEdgeWake (s : State) : Answer := .next (wakeEvent s)

/-! ## Button debouncers (R60 to R62) -/

/-- The OVERRUN flag after a dropped event: one already set stays set (R62), also one that a taking in this moment has
found set: its one notice is for both drops (DESIGN CHOICE, log entry 60). -/
def OverrunFlag.raise : OverrunFlag → OverrunFlag
  | .clear => .raised
  | .clearRead => .raisedAfterRead
  | .raised => .raised
  | .raisedAfterRead => .raisedAfterRead

/-- A taking whose moment has come reads the OVERRUN flag before its event leaves the queue (R62). A flag that it
finds set is cleared as the event is handed over, not at the reading (DESIGN CHOICE, log entry 60). -/
def OverrunFlag.read : OverrunFlag → OverrunFlag
  | .clear => .clearRead
  | .clearRead => .clearRead
  | .raised => .raised
  | .raisedAfterRead => .raisedAfterRead

/-- Queue a button event, or drop it and set OVERRUN (R62). -/
def giveEvent (e : ButtonEvent) (s : State) : State :=
  if s.input.events.length < 7 then s.setInput { s.input with events := s.input.events ++ [e] }
  else s.setInput { s.input with overrun := s.input.overrun.raise }

/-- A button's debouncer. -/
def State.button (s : State) (b : Button) : Debouncer := s.input.buttons[b.ix]

/-- Replace a button's debouncer. -/
def State.setButton (s : State) (b : Button) (d : Debouncer) : State :=
  s.setInput { s.input with buttons := s.input.buttons.set b.ix d }

/-- A debouncer after a sample, short of a change of its position: the first sample of a start becomes the
position, with the lock flag set if it is DOWN; a later one counts in the run of equal samples (R60). -/
def Debouncer.sampled (d : Debouncer) (c : Contact) : Debouncer :=
  match d.last with
  | none => { d with position := c, last := some c, run := 1, locked := c == .down }
  | some x => { d with last := some c, run := if x = c then min 4 (d.run + 1) else 1 }

/-- A sample changes the debounced position: the fourth of equal samples that differ from it (R60). -/
def Debouncer.changes (d : Debouncer) (c : Contact) : Bool :=
  (d.sampled c).run == 4 && (d.sampled c).position != c

/-- CHECK and RESET are both DOWN and not locked (R61). -/
def bothDown (s : State) : Bool :=
  (s.button .check).position == .down && !(s.button .check).locked
    && (s.button .reset).position == .down && !(s.button .reset).locked

/-- One of the two buttons of LONG (R61). -/
def longPair : Button → Bool
  | .check | .reset => true
  | .mode | .set => false

/-- Give a button's event, unless its lock flag is set (R60). -/
def giveUnlocked (locked : Bool) (e : ButtonEvent) (s : State) : State :=
  if locked then s else giveEvent e s

/-- A button becomes DOWN: PRESS, the hold timer, and the 10 s if it is the second of the pair (R60,
R61). -/
def pressButton (b : Button) (s : State) : State :=
  let d := s.button b
  let s1 := s.setButton b { d with position := .down, hold := some 2000, holdGiven := false }
  let s2 :=
    if longPair b ∧ bothDown s1 then s1.setInput { s1.input with longTimer := some 10000 } else s1
  giveUnlocked d.locked (.press b) s2

/-- A button becomes UP: RELEASE or RELEASE_AFTER_HOLD; the hold timer stops and the lock flag clears
(R60, R61). -/
def releaseButton (b : Button) (s : State) : State :=
  let d := s.button b
  let s1 := s.setButton b { d with position := .up, hold := none, locked := false }
  let s2 := if longPair b then s1.setInput { s1.input with longTimer := none } else s1
  giveUnlocked d.locked (if d.holdGiven then .releaseAfterHold b else .release b) s2

/-- A sample of a button is taken (R60). -/
def sampleButton (b : Button) (s : State) (c : Contact) : State :=
  if s.powered then
    let s1 := s.setButton b ((s.button b).sampled c)
    if (s.button b).changes c then
      (match c with
       | .down => pressButton b s1
       | .up => releaseButton b s1)
    else s1
  else s

/-- BUTTON_POSITION_CHANGE: the samples are taken one after the other (R60). Without samples it brings the moment
of the next taking, which reads the OVERRUN flag (R62, log entry 43). -/
def execButtonPositionChange (b : Button) (samples : List Contact) (s : State) : Answer :=
  if samples = [] ∧ s.powered then
    .next (s.setInput { s.input with overrun := s.input.overrun.read })
  else .next (samples.foldl (sampleButton b) s)

/-- BUTTON_HOLD_TIMER_EXPIRY: HOLD is given (R61). -/
def execButtonHoldTimerExpiry (b : Button) (s : State) : Answer :=
  let d := s.button b
  if s.powered ∧ d.hold.isSome then
    .next (giveEvent (.hold b) (s.setButton b { d with hold := none, holdGiven := true }))
  else .next s

/-- LONG_TIMER_EXPIRY: CHECK+RESET LONG is given (R61). -/
def execLongTimerExpiry (s : State) : Answer :=
  if s.powered ∧ s.input.longTimer.isSome then
    .next (giveEvent .long (s.setInput { s.input with longTimer := none }))
  else .next s

end Sys2Proof.Machine
end

