-- ==== Sys2Proof/Machine/Buttons.lean ====
section
/-! DEFINITION. The commands by which the Message Centre takes a button event (R86, R171, R172). Each
takes the oldest event of the queue, if it is the event of its name. -/

namespace Sys2Proof.Machine

open Sys2Proof

/-- Do something in RUN alone. -/
def inRun (k : State → State) (s : State) : State := if s.power.state = .run then k s else s

/-- MODE PRESS: the next item, the hour, or the end of the review (R171). -/
def modeAction (s : State) : State :=
  match s.shown with
  | .warning _ => s
  | .peer _ => s
  | .review _ => endReview s
  | .clockSet h m => s.setMsc { s.msc with clockSet := some ((h + 1) % 24, m) }
  | .item => s.setMsc { s.msc with item := s.msc.item.next }

/-- SET PRESS: the trip-step mark, the time handed to CKU, or the end of the review (R162, R171). -/
def setAction (s : State) : State :=
  match s.shown with
  | .warning _ => s
  | .peer _ => s
  | .review _ => endReview s
  | .clockSet h m => setTime h m 0 s.clock.day (s.setMsc { s.msc with clockSet := none })
  | .item => s.setMsc { s.msc with mark := true }

/-- SET RELEASE: with the mark set on the item display, the next trip (R171). -/
def setReleaseAction (s : State) : State :=
  match s.shown with
  | .item => if s.msc.mark then s.setMsc { s.msc with trip := s.msc.trip.next } else s
  | _ => s

/-- SET HOLD: with the mark set on the item display, clock-set mode from the clock's time (R170, R171). -/
def setHoldAction (s : State) : State :=
  match s.shown with
  | .item =>
    if s.msc.mark then s.setMsc { s.msc with clockSet := some (s.clock.hour, s.clock.minute) } else s
  | _ => s

/-- RESET PRESS: the minute, or the end of the review (R171). -/
def resetAction (s : State) : State :=
  match s.shown with
  | .warning _ => s
  | .peer _ => s
  | .review _ => endReview s
  | .clockSet h m => s.setMsc { s.msc with clockSet := some (h, (m + 1) % 60) }
  | .item => s

/-- RESET HOLD: with a trip item on show and CHECK up, a reset of the selected trip (R86, R171). -/
def resetHoldAction (s : State) : State :=
  match s.shown with
  | .item =>
    if s.msc.item.isTrip ∧ !s.msc.downSet.contains .check then resetTrip s.msc.trip s else s
  | _ => s

/-- CHECK HOLD: a review, unless RESET is down or clock-set mode is on show (R169, R171). -/
def checkHoldAction (s : State) : State :=
  match s.shown with
  | .clockSet _ _ => s
  | _ => if s.msc.downSet.contains .reset then s else startReview s

/-- MODE_PRESS (R171). -/
def execModePress (s : State) : Answer := .next (onButton (.press .mode) (inRun modeAction) s)

/-- SET_PRESS (R171). -/
def execSetPress (s : State) : Answer := .next (onButton (.press .set) (inRun setAction) s)

/-- SET_RELEASE (R171). -/
def execSetRelease (s : State) : Answer := .next (onButton (.release .set) (inRun setReleaseAction) s)

/-- SET_HOLD (R171). -/
def execSetHold (s : State) : Answer := .next (onButton (.hold .set) (inRun setHoldAction) s)

/-- RESET_PRESS (R171). -/
def execResetPress (s : State) : Answer := .next (onButton (.press .reset) (inRun resetAction) s)

/-- RESET_HOLD (R86, R171). -/
def execResetHold (s : State) : Answer := .next (onButton (.hold .reset) (inRun resetHoldAction) s)

/-- CHECK_PRESS: an acknowledgement in RUN and COURTESY (R127, R171, R172). -/
def execCheckPress (s : State) : Answer :=
  .next (onButton (.press .check) (fun t => if t.awake then acknowledgeHead t else t) s)

/-- CHECK_HOLD (R169, R171). -/
def execCheckHold (s : State) : Answer := .next (onButton (.hold .check) (inRun checkHoldAction) s)

/-- CHECK_RESET_LONG: the panel restart in RUN and COURTESY (R171, R172, R185). -/
def execCheckResetLong (s : State) : Answer :=
  .next (onButton .long (fun t => if t.awake then panelRestart t else t) s)

/-- IGNORED_BUTTON_EVENT: an event with no action in the present state is discarded, with the down-set
and the mark kept up to date (R171, R172). -/
def execIgnoredButtonEvent (s : State) : Answer :=
  match s.input.events with
  | e :: rest =>
    let t := takeEvent e rest s
    if s.powered ∧ !e.acts t then .next (refresh (markEvent e t)) else .next s
  | [] => .next s

end Sys2Proof.Machine
end

