-- ==== Sys2Proof/Machine/Gauges.lean ====
section
/-! DEFINITION. The commands of the Gauge Drive (chapter 4): the ends of homing and lift steps, of motion
steps and of rests. Each is followed by SLEEP once a park is complete (R81). -/

namespace Sys2Proof.Machine

open Sys2Proof

/-- A gauge record is replaced, and a park may be complete (R81). -/
def putGauge (g : GaugeId) (r : Gauge) (s : State) : Answer := done (finishPark (s.setGauge g r))

/-- HOMING_STEP: the position counts down, and the sampled contact ends the attempt or leads on (R71,
R72). -/
def execHomingStep (g : GaugeId) (closed : Bool) (s : State) : Answer :=
  let r := s.gauge g
  if r.state = .homing ∧ r.lift = none then
    let r' := { r with position := r.position - 1, steps := r.steps + 1 }
    if closed then done (finishPark (closeGauge g r' s))
    else if s.span g + 32 ≤ r'.steps then done (finishPark (failAttempt g r' s))
    else .next (s.setGauge g r')
  else .next s

/-- HOMING_LIFT_STEP: the position counts up; after the 64th step the next attempt begins (R71). -/
def execHomingLiftStep (g : GaugeId) (closed : Bool) (s : State) : Answer :=
  let r := s.gauge g
  match r.state, r.lift with
  | .homing, some k =>
    let r' := { r with position := min (s.span g) (r.position + 1) }
    if 64 ≤ k + 1 then
      let r'' := { r' with attempt := r.attempt + 1, steps := 0, lift := none }
      if closed then done (finishPark (closeGauge g r'' s)) else .next (s.setGauge g r'')
    else .next (s.setGauge g { r' with lift := some (k + 1) })
  | _, _ => .next s

/-- GAUGE_REST_BOUNDARY (R74). -/
def execGaugeRestBoundary (g : GaugeId) (s : State) : Answer :=
  putGauge g ((s.gauge g).restBoundary (s.span g) s.settings.deadband) s

/-- GAUGE_STEP_END (R73, R75, R77, R78, R81). -/
def execGaugeStepEnd (g : GaugeId) (closed : Bool) (s : State) : Answer :=
  putGauge g ((s.gauge g).stepEnd (s.span g) s.settings.deadband closed) s

/-- REVERSAL_REST_BOUNDARY (R76). -/
def execReversalRestBoundary (g : GaugeId) (s : State) : Answer :=
  putGauge g ((s.gauge g).reversalBoundary (s.span g) s.settings.deadband) s

/-- SWEEP_REST_END (R73). -/
def execSweepRestEnd (g : GaugeId) (s : State) : Answer :=
  putGauge g ((s.gauge g).sweepRestEnd (s.span g)) s

end Sys2Proof.Machine
end

