-- ==== Sys2Proof/Machine/Broadcasts.lean ====
section
/-! DEFINITION. The three broadcast timers of RUN (R41, R43, R44). -/

namespace Sys2Proof.Machine

open Sys2Proof

/-- CLUSTER_DISTANCE_TIMER_EXPIRY: the timer starts again, and the frame is offered once the odometer is
resolved (R41). -/
def execClusterDistanceTimerExpiry (s : State) : Answer :=
  if s.power.state = .run ∧ s.odo.distTimer.isSome then
    let s1 := s.setOdo { s.odo with distTimer := some 500 }
    .next (if s1.odo.resolved then offerDistance s1 else s1)
  else .next s

/-- CLUSTER_WARNINGS_TIMER_EXPIRY (R43). -/
def execClusterWarningsTimerExpiry (s : State) : Answer :=
  if s.power.state = .run ∧ s.wnu.broadcastTimer.isSome then
    .next (offerWarnings (s.setWnu { s.wnu with broadcastTimer := some 2000 }))
  else .next s

/-- REAR_SUMMARY_TIMER_EXPIRY: offered while station 5 is PRESENT (R44). -/
def execRearSummaryTimerExpiry (s : State) : Answer :=
  if s.power.state = .run ∧ s.trc.rearTimer.isSome then
    let s1 := s.setTrc { s.trc with rearTimer := some 2000 }
    .next
      (if (s1.link.roster[(4 : Fin 14)]).presence = .present then
        offerBroadcast 3 0x63 (rearSummaryData s1) s1
      else s1)
  else .next s

end Sys2Proof.Machine
end

