-- ==== Sys2Proof/Machine/Store.lean ====
section
/-! DEFINITION. The end of a store unit and of the echo wait (chapter 6). -/

namespace Sys2Proof.Machine

open Sys2Proof

/-- The STORE_FAULT condition changes, and WNU works it out (R112, R123). -/
def setStoreFault (v : Bool) (s : State) : State :=
  if s.stc.fault = v then s else evalWarnings [.storeFault] (s.setStc { s.stc with fault := v })

/-- Answer a RESET SERVICE whose write has ended: 00h with the outcome, 0 VERIFIED or 1 FAILED (R150,
R187, R190). -/
def answerReset (verified : Bool) (s : State) : State :=
  match s.rqs.inService with
  | none => s
  | some r =>
    respond r.id r.requester [0x00, if verified then 0 else 1]
      (s.setRqs { s.rqs with inService := none })

/-- The write of the item that carries a RESET SERVICE ends with its job: VERIFIED if its record was
among the first `n`, which were verified (R150). -/
def reportReset (entries : List ServiceEntry) (n : Nat) (s : State) : State :=
  if entries.any (·.carriesReset) then answerReset ((entries.take n).any (·.carriesReset)) s else s

/-- The block that handed a job takes its outcome: `n` units verified, `done` when that is all of them
(R108, R112, R154, R191). -/
def reportJob (j : Job) (n : Nat) (done : Bool) (s : State) : State :=
  match j with
  | .odometer w _ slot =>
    let s1 := s.setStc { s.stc with writePos := (slot + 1) % 16 }
    if done then odometerVerified w s1 else odometerFailed w s1
  | .service entries => reportReset entries n (serviceReport (entries.take n) s)
  | .configuration _ =>
    s.setRqs { s.rqs with writeStatus := if done then .written else .failed }

/-- A job ends: its block takes the outcome, the next job begins, and a save may be complete (R111,
R183). -/
def endJob (j : Job) (n : Nat) (done : Bool) (s : State) : State :=
  finishSave (stcBegin (reportJob j n done (s.setStc { s.stc with active := none })))

/-- A unit read back as it was sent: STORE_FAULT clears, and the next unit or the end of the job follows
(R112). -/
def unitVerified (a : ActiveJob) (s : State) : State :=
  let s1 := setStoreFault false s
  if a.unit + 1 < a.job.units.length then
    s1.setStc { s1.stc with active := some { a with unit := a.unit + 1, repeated := false } }
  else endJob a.job (a.unit + 1) true s1

/-- A unit read back otherwise: it is written once more, and a second mismatch fails the job with 11h and
STORE_FAULT (R112). -/
def unitMismatched (a : ActiveJob) (s : State) : State :=
  if a.repeated then endJob a.job a.unit false (setStoreFault true (recordCode 0x11 s))
  else s.setStc { s.stc with active := some { a with repeated := true } }

/-- STORE_UNIT_COMPLETE: the memory holds what was read back (R112). -/
def execStoreUnitComplete (readBack : List Byte) (s : State) : Answer :=
  match s.stc.active with
  | none => .next s
  | some a =>
    match a.current with
    | none => .next s
    | some (address, bytes) =>
      if readBack.length ≠ bytes.length then .next s
      else if 256 < address + bytes.length then .fault (.storeAddress address)
      else
        let s1 := s.setStore (s.store.writeBytes address readBack)
        done (if readBack = bytes then unitVerified a s1 else unitMismatched a s1)

/-- ECHO_WAIT_EXPIRY: the odometer is resolved without an echo (R115, R116). -/
def execEchoWaitExpiry (s : State) : Answer :=
  if s.awake ∧ s.odo.echoWait.isSome then done (resolveOdometer none s) else .next s

end Sys2Proof.Machine
end

