-- ==== Sys2Proof/Machine/Warnings.lean ====
section
/-! DEFINITION. The timers of the Warning Unit and of the tone (chapter 7). -/

namespace Sys2Proof.Machine

open Sys2Proof

/-- QUALIFY_TIMER_EXPIRY: the warning is announced (R124, R125). -/
def execQualifyTimerExpiry (w : Warning) (s : State) : Answer :=
  let r := s.wnu.record w
  if s.powered ∧ r.state = .pending ∧ r.timer.isSome then done (announce w s) else .next s

/-- RELEASE_TIMER_EXPIRY: the warning becomes INACTIVE and leaves the list (R126). -/
def execReleaseTimerExpiry (w : Warning) (s : State) : Answer :=
  let r := s.wnu.record w
  if s.powered ∧ r.state = .clearing ∧ r.timer.isSome then done (leaveList w s) else .next s

/-- ENGINE_RUNNING_TIMER_EXPIRY (R122). -/
def execEngineRunningTimerExpiry (s : State) : Answer :=
  if s.powered ∧ s.wnu.runningTimer.isSome then
    done
      (evalWarnings [.oilPressure]
        (s.setWnu { s.wnu with runningTimer := none, runningLong := true }))
  else .next s

/-- LINK_WINDOW_EXPIRY (R123). -/
def execLinkWindowExpiry (s : State) : Answer :=
  if s.powered ∧ s.wnu.linkWindow.isSome then
    done (evalWarnings [.engineLinkLost] (s.setWnu { s.wnu with linkWindow := none }))
  else .next s

/-- BELT_WINDOW_EXPIRY (R123). -/
def execBeltWindowExpiry (s : State) : Answer :=
  if s.powered ∧ s.wnu.beltWindow.isSome then
    done (evalWarnings [.belt] (s.setWnu { s.wnu with beltWindow := none }))
  else .next s

/-- AUTO_ACKNOWLEDGE_EXPIRY: the warning is acknowledged as under R127 (R128). -/
def execAutoAcknowledgeExpiry (w : Warning) (s : State) : Answer :=
  if s.powered ∧ (s.wnu.record w).autoAck.isSome then done (acknowledge w s) else .next s

/-- A CRITICAL warning re-announces: ACTIVE again, in its place, with a chime request (R129). -/
def reannounce (w : Warning) (s : State) : State :=
  noteHead
    (chimeForWarning w
      (s.setWnu
        (s.wnu.setRecord w { s.wnu.record w with state := .active, reannounce := none })))

/-- REANNOUNCE_TIMER_EXPIRY (R129). -/
def execReannounceTimerExpiry (w : Warning) (s : State) : Answer :=
  let r := s.wnu.record w
  if s.powered ∧ r.state = .acknowledged ∧ r.reannounce.isSome then done (reannounce w s) else .next s

/-- SERVICE_DISPLAY_TIMER_EXPIRY: the warning is acknowledged (R130). -/
def execServiceDisplayTimerExpiry (w : Warning) (s : State) : Answer :=
  if s.powered ∧ (s.wnu.record w).display.isSome then done (acknowledge w s) else .next s

/-- PATTERN_END: a one-shot pattern ends by itself (R137, R138). -/
def execPatternEnd (s : State) : Answer :=
  match s.wnu.tone with
  | .sounding r => if r.pattern.continuous then .next s else .next (s.setWnu s.wnu.endPattern)
  | .silent => .next s
  | .idle => .next s
  | .spacing => .next s

/-- SPACING_EXPIRY: the head starts, or the tone is IDLE (R138). -/
def execSpacingExpiry (s : State) : Answer :=
  if s.wnu.tone = .spacing then .next (s.setWnu s.wnu.startHead) else .next s

end Sys2Proof.Machine
end

