-- ==== Sys2Proof/Machine/ClockSteps.lean ====
section
/-! DEFINITION. The commands of the clock's oscillator (R156, R158, R159). The clock runs in every power
state except OFF. -/

namespace Sys2Proof.Machine

open Sys2Proof

/-- SECOND_PASSAGE: the prescaler returns to 0 and a second passes (R156, R157). -/
def execSecondPassage (s : State) : Answer :=
  if s.power.state = .off then .next s
  else done (passSecond (s.setClock { s.clock with prescaler := 0 }))

/-- The number of the part that ends next in the window (R158). -/
def Clock.nextPart (c : Clock) : Nat := c.windowCount / 8192 + 1

/-- TRIM_PART_END: the ending cycle inserts or masks its count in the first |trim| parts; the end of the
last part is the end of the window (R158). -/
def execTrimPartEnd (cycles : Nat) (s : State) : Answer :=
  let k := s.clock.nextPart
  if s.power.state = .off ∨ 128 ≤ k then .next s
  else
    let p := s.clock.prescaler + (cycles - 1) + partCounts s.clock.trim k
    let s1 := s.setClock { s.clock with windowCount := 8192 * k, prescaler := p % 32768 }
    if 32768 ≤ p then done (passSecond s1) else .next s1

/-- TRIM_WINDOW_END: a pending trim becomes the trim in force (R158, R159). -/
def execTrimWindowEnd (s : State) : Answer :=
  if s.power.state = .off then .next s
  else
    .next
      (s.setClock
        { s.clock with
          windowCount := 0, trim := s.clock.pendingTrim.getD s.clock.trim, pendingTrim := none })

end Sys2Proof.Machine
end

