-- ==== Sys2Proof/Machine/Display.lean ====
section
/-! DEFINITION. The display port's send and the timers of the Message Centre (R166, R169, R173). -/

namespace Sys2Proof.Machine

open Sys2Proof

/-- DISPLAY_SEND_END: the record as it stands is sent, if it differs from the one just sent (R166). -/
def execDisplaySendEnd (s : State) : Answer :=
  if s.powered ∧ s.msc.sending then done (s.setMsc { s.msc with sending := false }) else .next s

/-- PEER_TEXT_TIMER_EXPIRY: the text is no longer on show (R169). -/
def execPeerTextTimerExpiry (s : State) : Answer :=
  if s.powered ∧ s.msc.peerTimer.isSome then
    done (s.setMsc { s.msc with peerText := none, peerTimer := none })
  else .next s

/-- The review after an expiry: the next warning of the copy that is in the active list, or the end (R169). One that
left the list and joined it again is shown (the model's choice, log entry 52). -/
def nextReview (active copy : List Warning) : Option (List Warning) :=
  match copy.tail.dropWhile (fun w => !active.contains w) with
  | [] => none
  | w :: rest => some (w :: rest)

/-- REVIEW_TIMER_EXPIRY (R169). -/
def execReviewTimerExpiry (s : State) : Answer :=
  match s.msc.review with
  | some copy =>
    if s.powered ∧ s.msc.reviewTimer.isSome then
      match nextReview s.wnu.list copy with
      | some l => done (s.setMsc { s.msc with review := some l, reviewTimer := some 2000 })
      | none => done (endReview s)
    else .next s
  | none => .next s

/-- LAMP_TEST_EXPIRY: the lamp outputs follow WNU again (R173). -/
def execLampTestExpiry (s : State) : Answer :=
  if s.msc.lampTest = .running then
    .next (s.setMsc { s.msc with lampTest := .ended, lampTimer := none })
  else .next s

end Sys2Proof.Machine
end

