-- ==== Sys2Proof/Machine/PowerStates.lean ====
section
/-! DEFINITION. The commands of the Power Unit (chapter 11): the supply, the start steps, the courtesy
timers and the save. -/

namespace Sys2Proof.Machine

open Sys2Proof

/-- KEEP_ALIVE_SUPPLY_APPLIED: from OFF to STARTING for a COLD start (R175, R176). -/
def execKeepAliveSupplyApplied (s : State) : Answer :=
  if s.power.state = .off then
    .next (State.cold s.store s.power.patternMemory s.power.patternSpoiled s.seq s.draw s.pending)
  else .next s

/-- KEEP_ALIVE_SUPPLY_LOST: to OFF at once; a unit being written is cut (R119, R175). -/
def execKeepAliveSupplyLost (s : State) : Answer :=
  if s.power.state = .off then .next s
  else
    let t := cutUnit s
    .next (State.off t.store t.power.patternMemory t.power.patternSpoiled t.seq t.draw t.pending)

/-- A start step is in progress. -/
def State.atStep (s : State) (st : StartStep) : Bool :=
  s.power.state == .starting && s.power.step == st

/-- PATTERN_MEMORY_CHECKSUM: step 1 ends (R177). -/
def execPatternMemoryChecksum (cells : List (Nat × Byte)) (s : State) : Answer :=
  if s.atStep .step1 then .next (patternCheck cells s) else .next s

/-- KEEP_ALIVE_SIGNATURE_CHECK: step 2 ends (R176, R178). -/
def execKeepAliveSignatureCheck (found : Option (BitVec 16)) (ram : List (Vector Byte 8)) (s : State) : Answer :=
  if s.atStep .step2 then done (keepAliveCheck found ram s) else .next s

/-- CONFIGURATION_READ: step 3 ends (R179). It reads what the part's own units have left in the memory (DESIGN CHOICE,
log entry 65). -/
def execConfigurationRead (s : State) : Answer :=
  if s.atStep .step3 then done (readConfigurationStep s) else .next s

/-- RING_AND_SERVICE_READ: step 4 ends, and STARTING with it if the ignition filter has completed (R113,
R114, R147, R180). It reads what the part's own units have left in the memory: no stored byte has gone bad between its
writing and this read (DESIGN CHOICE, log entry 65). -/
def execRingAndServiceRead (contacts : BitVec 6) (s : State) : Answer :=
  if s.atStep .step4 then
    let s1 := openPort (takeRecords (takeRing s))
    done (maybeEndStarting contacts (s1.setPower { s1.power with step := .done }))
  else .next s

/-- RESTART_HOLD_EXPIRY: step 1 begins (R173, R185). -/
def execRestartHoldExpiry (s : State) : Answer :=
  if s.atStep .hold then done (beginSteps s) else .next s

/-- COURTESY before its end. -/
def State.inCourtesy (s : State) : Bool :=
  s.power.state == .courtesy && s.power.endPhase == .none

/-- COURTESY_TIMER_EXPIRY (R182, R183). -/
def execCourtesyTimerExpiry (s : State) : Answer :=
  if s.inCourtesy ∧ s.power.courtesyTimer.isSome then done (endCourtesy s) else .next s

/-- COURTESY_CAP_EXPIRY (R182, R183). -/
def execCourtesyCapExpiry (s : State) : Answer :=
  if s.inCourtesy ∧ s.power.courtesyCap.isSome then done (endCourtesy s) else .next s

/-- SAVE_WAIT_EXPIRY: the park is ordered (R183). -/
def execSaveWaitExpiry (s : State) : Answer :=
  if s.power.state = .courtesy ∧ s.power.endPhase = .saving ∧ s.power.saveWait.isSome then
    done (finishPark (beginPark s))
  else .next s

end Sys2Proof.Machine
end

