-- ==== Sys2Proof/Machine/Requests.lean ====
section
/-! DEFINITION. The workshop requests (chapter 12): the checks, the responses and the thirteen commands
by which the Request Server takes a request. -/

namespace Sys2Proof.Machine

open Sys2Proof

/-! ## The checks (R186) -/

/-- What a request asks of its parameters and of the state, and what it does. -/
structure Service where
  /-- The length of its parameters. -/
  length : Nat
  /-- Each parameter lies in its range (42h otherwise). -/
  inRange : List Byte → State → Bool
  /-- The request's own state condition: the refusal code if it fails. -/
  condition : State → Option Byte
  /-- The action and the response. -/
  serve : Frame → State → State

/-- The refusal of a request, by the first check that fails (R186). -/
def Service.refusal (v : Service) (f : Frame) (s : State) : Option Byte :=
  if f.source ≠ 15 then some 0x45
  else if s.power.state = .starting then some 0x44
  else if s.rqs.inService.isSome then some 0x43
  else if f.data.length ≠ v.length then some 0x41
  else if !v.inRange f.data s then some 0x42
  else v.condition s

/-- Refuse a request: the code is recorded and answered alone (R186). -/
def refuse (c : Byte) (f : Frame) (s : State) : State := respond f.id f.source [c] (recordCode c s)

/-- Answer a request with 00h and data (R187, R194). -/
def answer (data : List Byte) (f : Frame) (s : State) : State := respond f.id f.source (0x00 :: data) s

/-- Take a request: refuse it, or serve it (R186). -/
def Service.take (v : Service) (f : Frame) (s : State) : State :=
  match v.refusal f s with
  | some c => refuse c f s
  | none => v.serve f s

/-- No state condition. -/
def always (_ : State) : Option Byte := none

/-! ## Codes (R194) -/

/-- The code of a start kind. -/
def StartKind.code : StartKind → Byte
  | .cold => 0 | .warm => 1 | .wake => 2

/-- The code of a power state; only STARTING, RUN and COURTESY are seen by a request. -/
def Power.code : Power → Byte
  | .starting => 1 | .run => 2 | .courtesy => 3 | .off => 0 | .sleep => 0

/-- The code of a gauge state. -/
def GaugeState.code : GaugeState → Byte
  | .unhomed => 0 | .homing => 1 | .sweep => 2 | .tracking => 3 | .faulted => 4 | .parking => 5
  | .parked => 6

/-- The code of a signal state. -/
def SigState.code : SigState → Byte
  | .never => 0 | .fresh => 1 | .stale => 2 | .lost => 3 | .invalid => 4

/-- The code of a write status. -/
def WriteStatus.code : WriteStatus → Byte
  | .none => 0 | .queued => 1 | .written => 2 | .failed => 3

/-- The configuration result: the number of fields defaulted, or FFh for all. -/
def ConfigResult.code : ConfigResult → Byte
  | .allDefaulted => 0xFF
  | .defaulted n => BitVec.ofNat 8 n

/-- A flag as a byte. -/
def flagByte (b : Bool) : Byte := if b then 1 else 0

/-- Flags as the bits of a byte, bit 0 first. -/
def packFlags : List Bool → Nat
  | [] => 0
  | b :: bs => (if b then 1 else 0) + 2 * packFlags bs

/-- A count as a byte. -/
def countByte (n : Nat) : Byte := BitVec.ofNat 8 n

/-! ## Reading (R188, R189, R194) -/

/-- A page of the sense record (R188, R194). -/
def sensePage (s : State) : Nat → List Byte
  | 0 =>
    [s.rqs.lastError, s.power.kind.code, flagByte s.power.patternFail, flagByte s.power.signatureBad,
     countByte s.power.failedLocations, s.power.configResult.code, s.rqs.writeStatus.code]
  | 1 =>
    let c := s.link.counters
    [countByte c.checkErrors, countByte c.truncated, countByte c.foreign, countByte c.txAbandoned,
     countByte c.txDisplaced, countByte c.ringOverflow, s.power.state.code]
  | 2 =>
    (s.gdu.gauges.map (fun g => g.state.code)).toList
      ++ [BitVec.ofNat 8 (packFlags [s.stc.fault, s.odo.restored, s.clock.pendingTrim.isSome])]
  | _ =>
    signedBytes 1 s.clock.trim
      ++ (match s.clock.pendingTrim with
          | some t => signedBytes 1 t
          | none => [0x80])
      ++ [BitVec.ofNat 8 (packFlags ((s.input.filters.map (fun f => f.level == .active)).toList))]

/-- READ SENSE. -/
def readSense : Service where
  length := 1
  inRange d _ := decide ((byteAt d 0).toNat ≤ 3)
  condition := always
  serve f s := answer (sensePage s (byteAt f.data 0).toNat) f s

/-- Set the last error code to 00h and the counters to 0 (R188). -/
def clearSenseRecord (s : State) : State :=
  (s.setRqs { s.rqs with lastError := 0 }).setLink
    { s.link with
      counters :=
        { checkErrors := 0, truncated := 0, foreign := 0, txAbandoned := 0, txDisplaced := 0
          ringOverflow := 0 } }

/-- CLEAR SENSE. -/
def clearSense : Service where
  length := 0
  inRange _ _ := true
  condition := always
  serve f s := answer [] f (clearSenseRecord s)

/-- The stamp of a log entry: day number and second of day, FFFFh and FFFFFFh when absent (R189). -/
def stampBytes : Option Stamp → List Byte
  | some t => beBytes 2 t.day ++ beBytes 3 t.second
  | none => [0xFF, 0xFF, 0xFF, 0xFF, 0xFF]

/-- The data of a READ LOG selector, absent for one that names nothing (R189). -/
def logData (w : WarningUnit) (sel : Nat) : Option (List Byte) :=
  if sel < 0x10 then
    (w.log[sel]?).map (fun e => countByte e.warning.number :: stampBytes e.stamp)
  else if sel < 0x20 then
    (w.log[sel - 0x10]?).map (fun e =>
      countByte e.warning.number
        :: (match e.km with
            | some km => beBytes 3 km
            | none => [0xFF, 0xFF, 0xFF]))
  else if sel = 0x20 then some [countByte w.log.length, countByte w.overflow]
  else if sel ≤ 0x24 then
    some ((slice (w.counts.toList.map countByte) (6 * (sel - 0x21)) 6))
  else none

/-- READ LOG. -/
def readLog : Service where
  length := 1
  inRange d s := (logData s.wnu (byteAt d 0).toNat).isSome
  condition := always
  serve f s := answer ((logData s.wnu (byteAt f.data 0).toNat).getD []) f s

/-- Empty the log, LOG_OVERFLOW and the counts (R134). -/
def clearLogRecord (s : State) : State :=
  s.setWnu { s.wnu with log := [], overflow := 0, counts := Vector.replicate 24 0 }

/-- CLEAR LOG. -/
def clearLog : Service where
  length := 0
  inRange _ _ := true
  condition := always
  serve f s := answer [] f (clearLogRecord s)

/-- The data of a READ SIGNAL (R189, R194). -/
def signalData (r : SignalRecord) : List Byte :=
  [r.state.code]
    ++ (match r.value with
        | some v => signedBytes 2 v
        | none => [0x80, 0x00])
    ++ [countByte r.expected, countByte r.count]

/-- READ SIGNAL. -/
def readSignal : Service where
  length := 1
  inRange d _ := decide ((byteAt d 0).toNat ≤ 17)
  condition := always
  serve f s :=
    match Signal.ofNat? (byteAt f.data 0).toNat with
    | some g => answer (signalData (s.signal g)) f s
    | none => s

/-- Remaining km in three bytes, −8,388,607 at the least, 800000h when absent (R189). -/
def remainingKmBytes : Option Int → List Byte
  | some v => signedBytes 3 (max (-8388607) v)
  | none => [0x80, 0x00, 0x00]

/-- Remaining days in two bytes, 8000h when absent; free where they do not fit (R189). -/
def remainingDaysBytes : Option Int → List Byte
  | some v =>
    if -32768 ≤ v ∧ v ≤ 32767 then signedBytes 2 v else beBytes 2 (Config.remainingDays16 v).toNat
  | none => [0x80, 0x00]

/-- The data of a READ SERVICE parameter (R189, R194). -/
def serviceData (s : State) (p : Nat) : Option (List Byte) :=
  if p < 0x10 then
    (ServiceItem.ofNat? p).map (fun i =>
      [countByte (itemStatus s i).code,
       BitVec.ofNat 8 (packFlags [(s.item i).dirty, (s.item i).awaiting])]
        ++ remainingKmBytes (remainingKm s i) ++ remainingDaysBytes (remainingDays s i))
  else (ServiceItem.ofNat? (p - 0x10)).map (fun i => recordBody (s.item i).record)

/-- READ SERVICE. -/
def readService : Service where
  length := 1
  inRange d s := (serviceData s (byteAt d 0).toNat).isSome
  condition := always
  serve f s := answer ((serviceData s (byteAt f.data 0).toNat).getD []) f s

/-! ## Setting (R190, R191) -/

/-- The reset of RESET SERVICE: made at once, or held for the displayed km (R150). -/
def beginReset (i : ServiceItem) (s : State) : State :=
  match s.odo.handedKm with
  | some km => serviceReset i km s
  | none => s.setSru { s.sru with heldReset := some i }

/-- RESET SERVICE: it stays in service until its write has ended (R187, R190). -/
def resetService : Service where
  length := 1
  inRange d _ := decide ((byteAt d 0).toNat ≤ 3)
  condition := always
  serve f s :=
    match ServiceItem.ofNat? (byteAt f.data 0).toNat with
    | some i =>
      beginReset i
        (s.setRqs { s.rqs with inService := some { id := f.id, requester := f.source } })
    | none => s

/-- SET CLOCK. -/
def setClock : Service where
  length := 5
  inRange d _ :=
    decide ((byteAt d 0).toNat ≤ 23) && decide ((byteAt d 1).toNat ≤ 59)
      && decide ((byteAt d 2).toNat ≤ 59) && decide (word16 d 3 ≤ maxDay)
  condition := always
  serve f s :=
    answer [] f
      (setTime (byteAt f.data 0).toNat (byteAt f.data 1).toNat (byteAt f.data 2).toNat
        (word16 f.data 3) s)

/-- SET TRIM: refused with 43h while a trim is pending (R159). -/
def setTrim : Service where
  length := 1
  inRange d _ := decide (-120 ≤ signedByte (byteAt d 0)) && decide (signedByte (byteAt d 0) ≤ 120)
  condition s := if s.clock.pendingTrim.isSome then some 0x43 else none
  serve f s :=
    answer [] f (s.setClock { s.clock with pendingTrim := some (signedByte (byteAt f.data 0)) })

/-- The clock after an ADJUST HOUR parameter, absent where it has no effect (R163). -/
def adjustedClock (p : Byte) (c : Clock) : Option Clock :=
  if p = 0x01 then some c.advanceHour else c.retardHour

/-- ADJUST HOUR: 00h with CLUSTER_TIME, or 0Eh with no effect (R163, R190). -/
def adjustHour : Service where
  length := 1
  inRange d _ := byteAt d 0 == 0x01 || byteAt d 0 == 0xFF
  condition := always
  serve f s :=
    match adjustedClock (byteAt f.data 0) s.clock with
    | some c => answer [] f (offerTime (s.setClock c))
    | none => respond f.id f.source [0x0E] s

/-- Four bytes copied into the staging image (R191). -/
def stage (image : List Byte) (offset : Nat) (bytes : List Byte) : List Byte :=
  image.take offset ++ bytes ++ image.drop (offset + bytes.length)

/-- The staging image with a write, and at offset 58 the configuration job (R191). -/
def writeStaging (offset : Nat) (bytes : List Byte) (s : State) : State :=
  let s1 := s.setRqs { s.rqs with staging := stage s.rqs.staging offset bytes }
  if offset = 58 then handConfiguration (s1.setRqs { s1.rqs with writeStatus := .queued }) else s1

/-- WRITE CONFIG: answered with the staging sum (R191). -/
def writeConfig : Service where
  length := 5
  inRange d _ := decide ((byteAt d 0).toNat ≤ 58)
  condition := always
  serve f s :=
    let s1 := writeStaging (byteAt f.data 0).toNat (f.data.drop 1) s
    answer [byteSum s1.rqs.staging] f s1

/-! ## Tests (R192) -/

/-- GAUGE TEST: in RUN. -/
def gaugeTest (contacts : BitVec 6) : Service where
  length := 0
  inRange _ _ := true
  condition s := if s.power.state = .run then none else some 0x44
  serve f s := answer [] f (testGauges contacts s)

/-- The tested pattern joins the chime queue from station 15 with class 1 (R141, R192). -/
def testChime (p : Pattern) (s : State) : State :=
  (s.setWnu
    (s.wnu.giveChime
      { source := .station 15, pattern := p, cls := 1, entered := s.moment }).1).nextMoment

/-- CHIME TEST: in RUN, and in COURTESY before its end. -/
def chimeTest : Service where
  length := 1
  inRange d _ := decide (1 ≤ (byteAt d 0).toNat) && decide ((byteAt d 0).toNat ≤ 7)
  condition s := if s.stationsTaken then none else some 0x44
  serve f s :=
    match Pattern.ofNat? (byteAt f.data 0).toNat with
    | some p => answer [] f (testChime p s)
    | none => s

/-! ## The commands -/

/-- READ_SENSE (R188). -/
def execReadSense (s : State) : Answer := done (dispatch 0x70 readSense.take s)

/-- CLEAR_SENSE (R188). -/
def execClearSense (s : State) : Answer := done (dispatch 0x71 clearSense.take s)

/-- READ_LOG (R189). -/
def execReadLog (s : State) : Answer := done (dispatch 0x72 readLog.take s)

/-- CLEAR_LOG (R134, R189). -/
def execClearLog (s : State) : Answer := done (dispatch 0x73 clearLog.take s)

/-- READ_SIGNAL (R189). -/
def execReadSignal (s : State) : Answer := done (dispatch 0x74 readSignal.take s)

/-- READ_SERVICE (R189). -/
def execReadService (s : State) : Answer := done (dispatch 0x75 readService.take s)

/-- RESET_SERVICE (R150, R190). -/
def execResetService (s : State) : Answer := done (dispatch 0x76 resetService.take s)

/-- SET_CLOCK (R161, R190). -/
def execSetClock (s : State) : Answer := done (dispatch 0x77 setClock.take s)

/-- SET_TRIM (R159, R190). -/
def execSetTrim (s : State) : Answer := done (dispatch 0x78 setTrim.take s)

/-- ADJUST_HOUR (R163, R190). -/
def execAdjustHour (s : State) : Answer := done (dispatch 0x79 adjustHour.take s)

/-- WRITE_CONFIG (R191). -/
def execWriteConfig (s : State) : Answer := done (dispatch 0x7A writeConfig.take s)

/-- GAUGE_TEST (R80, R192). -/
def execGaugeTest (contacts : BitVec 6) (s : State) : Answer :=
  done (dispatch 0x7B (gaugeTest contacts).take s)

/-- CHIME_TEST (R192). -/
def execChimeTest (s : State) : Answer := done (dispatch 0x7C chimeTest.take s)

end Sys2Proof.Machine
end

