-- ==== Sys2Proof/Machine/Dispatch.lean ====
section
/-! DEFINITION. The dispatch of a command to its meaning: one arm for each constructor of `Instr`. -/

namespace Sys2Proof.Machine

open Sys2Proof

/-- A command's effect on everything but the queue. -/
def exec (i : Instr) (s : State) : Host.Outcome State Fault Refusal :=
  match i with
  | .frameReceived check => Sys2Proof.Machine.execFrameReceived check s
  | .receiveErrorByte b framing => Sys2Proof.Machine.execReceiveErrorByte b framing s
  | .byteGapTimeout => Sys2Proof.Machine.execByteGapTimeout s
  | .skippingIdleEnd => Sys2Proof.Machine.execSkippingIdleEnd s
  | .breakReceived => Sys2Proof.Machine.execBreakReceived s
  | .attemptStart idle => Sys2Proof.Machine.execAttemptStart idle s
  | .arbitrationLost => Sys2Proof.Machine.execArbitrationLost s
  | .bitError => Sys2Proof.Machine.execBitError s
  | .breakEnd => Sys2Proof.Machine.execBreakEnd s
  | .attemptSuccess => Sys2Proof.Machine.execAttemptSuccess s
  | .pauseExpiry => Sys2Proof.Machine.execPauseExpiry s
  | .muteExpiry => Sys2Proof.Machine.execMuteExpiry s
  | .rosterTimerExpiry station => Sys2Proof.Machine.execRosterTimerExpiry station s
  | .engineStatus => Sys2Proof.Machine.execEngineStatus s
  | .transStatus => Sys2Proof.Machine.execTransStatus s
  | .bodyStatus => Sys2Proof.Machine.execBodyStatus s
  | .odoEcho => Sys2Proof.Machine.execOdoEcho s
  | .chimeRequest => Sys2Proof.Machine.execChimeRequest s
  | .chimeCancel => Sys2Proof.Machine.execChimeCancel s
  | .signalExpiry sig => Sys2Proof.Machine.execSignalExpiry sig s
  | .speedPulse us => Sys2Proof.Machine.execSpeedPulse us s
  | .speedGateEnd => Sys2Proof.Machine.execSpeedGateEnd s
  | .fuelSample reading => Sys2Proof.Machine.execFuelSample reading s
  | .supplyReading millivolts => Sys2Proof.Machine.execSupplyReading millivolts s
  | .switchFilterCompletion line samples contacts => Sys2Proof.Machine.execSwitchFilterCompletion line samples contacts s
  | .linkFallingEdgeWake => Sys2Proof.Machine.execLinkFallingEdgeWake s
  | .buttonPositionChange button samples => Sys2Proof.Machine.execButtonPositionChange button samples s
  | .buttonHoldTimerExpiry button => Sys2Proof.Machine.execButtonHoldTimerExpiry button s
  | .longTimerExpiry => Sys2Proof.Machine.execLongTimerExpiry s
  | .modePress => Sys2Proof.Machine.execModePress s
  | .setPress => Sys2Proof.Machine.execSetPress s
  | .setRelease => Sys2Proof.Machine.execSetRelease s
  | .setHold => Sys2Proof.Machine.execSetHold s
  | .resetPress => Sys2Proof.Machine.execResetPress s
  | .resetHold => Sys2Proof.Machine.execResetHold s
  | .checkPress => Sys2Proof.Machine.execCheckPress s
  | .checkHold => Sys2Proof.Machine.execCheckHold s
  | .checkResetLong => Sys2Proof.Machine.execCheckResetLong s
  | .ignoredButtonEvent => Sys2Proof.Machine.execIgnoredButtonEvent s
  | .homingStep gauge closed => Sys2Proof.Machine.execHomingStep gauge closed s
  | .homingLiftStep gauge closed => Sys2Proof.Machine.execHomingLiftStep gauge closed s
  | .gaugeRestBoundary gauge => Sys2Proof.Machine.execGaugeRestBoundary gauge s
  | .gaugeStepEnd gauge closed => Sys2Proof.Machine.execGaugeStepEnd gauge closed s
  | .reversalRestBoundary gauge => Sys2Proof.Machine.execReversalRestBoundary gauge s
  | .sweepRestEnd gauge => Sys2Proof.Machine.execSweepRestEnd gauge s
  | .clusterDistanceTimerExpiry => Sys2Proof.Machine.execClusterDistanceTimerExpiry s
  | .clusterWarningsTimerExpiry => Sys2Proof.Machine.execClusterWarningsTimerExpiry s
  | .rearSummaryTimerExpiry => Sys2Proof.Machine.execRearSummaryTimerExpiry s
  | .storeUnitComplete readBack => Sys2Proof.Machine.execStoreUnitComplete readBack s
  | .echoWaitExpiry => Sys2Proof.Machine.execEchoWaitExpiry s
  | .qualifyTimerExpiry warning => Sys2Proof.Machine.execQualifyTimerExpiry warning s
  | .releaseTimerExpiry warning => Sys2Proof.Machine.execReleaseTimerExpiry warning s
  | .engineRunningTimerExpiry => Sys2Proof.Machine.execEngineRunningTimerExpiry s
  | .linkWindowExpiry => Sys2Proof.Machine.execLinkWindowExpiry s
  | .beltWindowExpiry => Sys2Proof.Machine.execBeltWindowExpiry s
  | .autoAcknowledgeExpiry warning => Sys2Proof.Machine.execAutoAcknowledgeExpiry warning s
  | .reannounceTimerExpiry warning => Sys2Proof.Machine.execReannounceTimerExpiry warning s
  | .serviceDisplayTimerExpiry warning => Sys2Proof.Machine.execServiceDisplayTimerExpiry warning s
  | .patternEnd => Sys2Proof.Machine.execPatternEnd s
  | .spacingExpiry => Sys2Proof.Machine.execSpacingExpiry s
  | .secondPassage => Sys2Proof.Machine.execSecondPassage s
  | .trimPartEnd cycles => Sys2Proof.Machine.execTrimPartEnd cycles s
  | .trimWindowEnd => Sys2Proof.Machine.execTrimWindowEnd s
  | .displaySendEnd => Sys2Proof.Machine.execDisplaySendEnd s
  | .peerTextTimerExpiry => Sys2Proof.Machine.execPeerTextTimerExpiry s
  | .reviewTimerExpiry => Sys2Proof.Machine.execReviewTimerExpiry s
  | .lampTestExpiry => Sys2Proof.Machine.execLampTestExpiry s
  | .keepAliveSupplyApplied => Sys2Proof.Machine.execKeepAliveSupplyApplied s
  | .keepAliveSupplyLost => Sys2Proof.Machine.execKeepAliveSupplyLost s
  | .patternMemoryChecksum cells => Sys2Proof.Machine.execPatternMemoryChecksum cells s
  | .keepAliveSignatureCheck found ram => Sys2Proof.Machine.execKeepAliveSignatureCheck found ram s
  | .configurationRead => Sys2Proof.Machine.execConfigurationRead s
  | .ringAndServiceRead contacts => Sys2Proof.Machine.execRingAndServiceRead contacts s
  | .courtesyTimerExpiry => Sys2Proof.Machine.execCourtesyTimerExpiry s
  | .courtesyCapExpiry => Sys2Proof.Machine.execCourtesyCapExpiry s
  | .saveWaitExpiry => Sys2Proof.Machine.execSaveWaitExpiry s
  | .restartHoldExpiry => Sys2Proof.Machine.execRestartHoldExpiry s
  | .readSense => Sys2Proof.Machine.execReadSense s
  | .clearSense => Sys2Proof.Machine.execClearSense s
  | .readLog => Sys2Proof.Machine.execReadLog s
  | .clearLog => Sys2Proof.Machine.execClearLog s
  | .readSignal => Sys2Proof.Machine.execReadSignal s
  | .readService => Sys2Proof.Machine.execReadService s
  | .resetService => Sys2Proof.Machine.execResetService s
  | .setClock => Sys2Proof.Machine.execSetClock s
  | .setTrim => Sys2Proof.Machine.execSetTrim s
  | .adjustHour => Sys2Proof.Machine.execAdjustHour s
  | .writeConfig => Sys2Proof.Machine.execWriteConfig s
  | .gaugeTest contacts => Sys2Proof.Machine.execGaugeTest contacts s
  | .chimeTest => Sys2Proof.Machine.execChimeTest s
  | .byteReceived b => Sys2Proof.Machine.execByteReceived b s

end Sys2Proof.Machine
end

