-- ==== Sys2Proof/Safety.lean ====
section
/-! DEFINITION. What claims are stated in: the blocks of the state and which of them a step may touch,
what a safe run is, and the invariants of the machine. -/

namespace Sys2Proof.Machine

open Sys2Proof

/-! ## Frames -/

/-- The parts of the state, one for each field. -/
inductive Block where
  | power | link | signals | input | gdu | trc | odo | stc | wnu | sru | clock | msc | rqs | settings
  | store | seq | draw | pending
deriving DecidableEq, Repr

/-- Two states agree on a part. -/
def Agree (b : Block) (s t : State) : Prop :=
  match b with
  | .power => t.power = s.power
  | .link => t.link = s.link
  | .signals => t.signals = s.signals
  | .input => t.input = s.input
  | .gdu => t.gdu = s.gdu
  | .trc => t.trc = s.trc
  | .odo => t.odo = s.odo
  | .stc => t.stc = s.stc
  | .wnu => t.wnu = s.wnu
  | .sru => t.sru = s.sru
  | .clock => t.clock = s.clock
  | .msc => t.msc = s.msc
  | .rqs => t.rqs = s.rqs
  | .settings => t.settings = s.settings
  | .store => t.store = s.store
  | .seq => t.seq = s.seq
  | .draw => t.draw = s.draw
  | .pending => t.pending = s.pending

/-- The frame of a step: every part of the state outside `bs` is as it was. -/
def Touches (bs : List Block) (s t : State) : Prop := ∀ b, b ∉ bs → Agree b s t

/-! ## Runs -/

/-- Commands carried out one after the other, as the queue hands them out; the run ends at the first
fault or refusal. -/
def runAll : List Instr → State → Answer
  | [], s => .next s
  | c :: cs, s =>
    match exec c s with
    | .next t => runAll cs t
    | .fault f => .fault f
    | .refused r => .refused r

/-- A safe run: every command of it is carried out. -/
def SafeRun (cs : List Instr) (s : State) : Prop := ∃ t, runAll cs s = .next t

/-! ## The serial memory and the store jobs (R110 to R113) -/

/-- The serial memory is in its canonical form. -/
def MemoryInv (s : State) : Prop := s.store.wf = true

/-- The job in progress is at one of its units, and an odometer job's slot is one of the ring's. -/
def ActiveOk (a : ActiveJob) : Prop :=
  a.unit < a.job.units.length ∧
    (match a.job with
     | .odometer _ _ slot => slot < 16
     | .service _ => True
     | .configuration _ => True)

/-- The write position is one of the sixteen slots, the staging image has its 62 bytes, and the job in
progress writes within the serial memory. -/
def StoreInv (s : State) : Prop :=
  s.stc.writePos < 16 ∧ s.rqs.staging.length = 62 ∧
    ∀ a ∈ s.stc.active, ActiveOk a

/-- The commands that can write the serial memory: the end of a unit, the two that cut a unit short, and
those that can end in SLEEP, which carries the unit in progress to its end (R112, R118, R119, R183). -/
def mayStore : Instr → Bool
  | .storeUnitComplete _ | .keepAliveSupplyLost | .checkResetLong | .courtesyTimerExpiry
  | .courtesyCapExpiry | .saveWaitExpiry | .homingStep _ _ | .homingLiftStep _ _
  | .gaugeRestBoundary _ | .gaugeStepEnd _ _ | .reversalRestBoundary _ | .sweepRestEnd _ => true
  | _ => false

/-! ## Frames on the line and at the dispatcher -/

/-- A frame that a station can send (R3): its fields in their ranges, a target byte unless it is a
BROADCAST. -/
def FrameOk (f : Frame) : Prop :=
  f.cls ≤ 3 ∧ 1 ≤ f.source ∧ f.source ≤ 15 ∧ f.data.length ≤ 8 ∧
    (f.kind = .broadcast ↔ f.target = none) ∧ (∀ x ∈ f.target, x ≤ 255)

/-- The frame `f` is the oldest of the ring, has the message id `id`, and is to be handed on, with `rest`
behind it (R19). -/
def HandsOn (s : State) (id : Byte) (f : Frame) (rest : List Frame) : Prop :=
  s.link.ring = f :: rest ∧ s.link.listening = true ∧ f.id = id

/-- The response to a request: class 3, its id, to its source (R45). -/
def responseTo (s : State) (f : Frame) (data : List Byte) : Frame :=
  { cls := 3, kind := .response, source := s.settings.address, target := some f.source, id := f.id,
    data := data }

/-- A frame waits in the transmit queue. -/
def Queued (t : State) (r : Frame) : Prop := ∃ e ∈ t.link.txQueue, e.frame = r

/-- The transmit queue has room for what a request makes the part send, and no answer to an earlier
request of this id waits in it (R14, R15). -/
def HasRoom (s : State) (f : Frame) : Prop :=
  s.link.txQueue.length ≤ 5 ∧ ∀ e ∈ s.link.txQueue, e.frame.id ≠ f.id

/-- The transmit queue has room for a frame of an id and for CLUSTER_WARNINGS behind it, and no entry of
that id. -/
def RoomFor (s : State) (id : Byte) : Prop :=
  s.link.txQueue.length ≤ 6 ∧ ∀ e ∈ s.link.txQueue, e.frame.id ≠ id

/-- A request that passes the first checks of R186: from the tester, not in STARTING, with no request in
service. -/
def Served (s : State) (f : Frame) : Prop :=
  f.source = 15 ∧ s.power.state ≠ .starting ∧ s.rqs.inService = none

/-- A command answers a next state. -/
def Answers (c : Instr) (s t : State) : Prop := exec c s = .next t

/-! ## The transmit queue (R14 to R17) -/

/-- A frame of the cluster's own, with the class of its message id (the message catalogue, chapter 2). -/
def OwnClass (f : Frame) : Prop :=
  (f.id = 0x60 ∧ f.cls = 2) ∨ (f.id = 0x61 ∧ f.cls = 2) ∨ (f.id = 0x62 ∧ f.cls = 1) ∨
    (f.id = 0x63 ∧ f.cls = 3) ∨ (0x70 ≤ f.id.toNat ∧ f.id.toNat ≤ 0x7C ∧ f.cls = 3)

/-- An entry holds frames of the catalogue, held contents for its own key and only while it is under
attempt, and at most three failed attempts. -/
def EntryOk (e : TxEntry) : Prop :=
  OwnClass e.frame ∧ e.failed ≤ 3 ∧
    ∀ h ∈ e.held, OwnClass h ∧ h.sameKey e.frame = true ∧ e.underAttempt = true

/-- The transmitter is on the line. -/
def Link.onLine (l : Link) : Bool := l.tx == .sending || l.tx == .breaking

/-- The transmit queue: at most eight entries, ordered by class, no two of one id and target, every frame and every
held contents from the address in force (R25, R40), and one entry under attempt while the transmitter is on the line,
none otherwise; a request in service is a RESET SERVICE (R187). -/
def TxInv (s : State) : Prop :=
  s.link.txQueue.length ≤ 8 ∧
    s.link.txQueue.Pairwise (fun x y => x.frame.cls ≤ y.frame.cls) ∧
    s.link.txQueue.Pairwise (fun x y => x.frame.sameKey y.frame = false) ∧
    (∀ e ∈ s.link.txQueue, EntryOk e) ∧
    (∀ e ∈ s.link.txQueue,
      e.frame.source = s.settings.address ∧ ∀ h ∈ e.held, h.source = s.settings.address) ∧
    s.link.txQueue.countP (·.underAttempt) = (if s.link.onLine then 1 else 0) ∧
    ∀ r ∈ s.rqs.inService, r.id = 0x76

/-! ## The gauges (R64 to R83) -/

/-- A gauge within its span: its position and targets, its counts, and what its state says of the rest
(R68, R69, R71, R75, R76, R81). That a gauge is at rest from its entry to HOMING on is the model's choice (log entry
44). -/
def GaugeOk (span : Nat) (g : Gauge) : Prop :=
  g.position ≤ span ∧ g.target ≤ span ∧ g.staleTarget ≤ span ∧ g.ramp ≤ 8 ∧ g.rest ≤ 4 ∧
    1 ≤ g.attempt ∧ g.attempt ≤ 3 ∧
    (∀ k ∈ g.lift, k < 64 ∧ g.attempt ≤ 2) ∧
    (g.state = .unhomed ∨ g.state = .homing ∨ g.state = .faulted ∨ g.state = .parked →
      g.motion = .atRest) ∧
    (g.state = .parking ∨ g.state = .parked → g.target = 0) ∧
    (g.state = .parked → g.position = 0)

/-- Every gauge is within its span; before the configuration step the gauges are UNHOMED with target 0;
in STARTING the configuration is in force from step 4 on (R64, R70, R177). -/
def GaugeInv (s : State) : Prop :=
  (∀ g, GaugeOk (s.span g) (s.gauge g)) ∧
    (s.power.configured = false →
      ∀ g, (s.gauge g).state = .unhomed ∧ (s.gauge g).target = 0 ∧ (s.gauge g).staleTarget = 0) ∧
    (s.power.state = .starting →
      (s.power.configured = true ↔ s.power.step = .step4 ∨ s.power.step = .done))

/-! ## The pattern memory (R177) -/

/-- The pattern memory is as it was made: no cell of it has gone bad (log entry 63). -/
abbrev AsMade (s : State) : Prop := s.power.patternSpoiled = false

/-- With no cell gone bad the pattern memory holds the bytes it was made with, whatever they are. -/
def PatternInv (s : State) : Prop := AsMade s → s.power.patternMemory = Config.patternMemory

/-- What a pattern memory with bad cells holds, by its bytes: any definition with a class of 0 to 3, any four curve
points, any text (log entry 63). -/
def UsedAsHeld (s : State) : Prop :=
  let m := s.power.patternMemory
  (∀ n, ∃ c, c ≤ 3 ∧ ((Config.heldDefinition m n).cls ≤ 3 → c = (Config.heldDefinition m n).cls) ∧
    s.definition n = { Config.heldDefinition m n with cls := c }) ∧
  (∀ g, s.curve g = (Config.heldCurve m g).toList) ∧
  (∀ k, s.peerChars k = Config.heldPeerText m k) ∧
  s.noWarningsText = Config.heldNoWarnings m ∧ s.setClockText = Config.heldSetClock m

/-- What the pattern memory as made defines: the tables of R121, R65 and R141, and the two texts of R167. -/
def UsedAsMade (s : State) : Prop :=
  (∀ n : Warning,
    s.definition n =
      { cls := n.cls, qualifyMs := n.qualifyMs, releaseMs := n.releaseMs, lamp := n.lamp
        pattern := n.pattern, text := n.text }) ∧
  (∀ g : GaugeId, s.curve g = g.curve) ∧ (∀ k, s.peerChars k = peerTextChars k) ∧
  s.noWarningsText = ['N', 'O', ' ', 'W', 'A', 'R', 'N', 'I', 'N', 'G', 'S'] ∧
  s.setClockText = ['S', 'E', 'T', ' ', 'C', 'L', 'O', 'C', 'K']

/-! ## The warnings (R124 to R131) -/

/-- A warning's record and the active list agree: it is listed exactly while ACTIVE, ACKNOWLEDGED or
CLEARING, and each of its timers runs only in the states that have it. -/
def RecordOk (w : WarningUnit) (n : Warning) : Prop :=
  let r := w.record n
  (n ∈ w.list ↔ r.state = .active ∨ r.state = .acknowledged ∨ r.state = .clearing) ∧
    (r.timer.isSome = true ↔ r.state = .pending ∨ r.state = .clearing) ∧
    (r.reannounce.isSome = true → r.state = .acknowledged) ∧
    (r.autoAck.isSome = true → r.unacknowledged = true) ∧
    (r.display.isSome = true → r.unacknowledged = true ∧ (n = .serviceDue ∨ n = .serviceSoon))

/-- A warning's timers that go by its class: an ACKNOWLEDGED one re-announces exactly if it is CRITICAL, and only an
ADVISORY one is acknowledged automatically (R128, R129). -/
def ClassOk (w : WarningUnit) (n : Warning) : Prop :=
  let r := w.record n
  (r.state = .acknowledged → (r.reannounce.isSome = true ↔ n.cls = 0)) ∧
    (r.autoAck.isSome = true → n.cls = 2)

/-- The active list has no repeats and agrees with the status records; with the pattern memory as made it is ordered by
class, and the timers go by it. (A class that bad cells change orders no list anew.) -/
def WarningInv (s : State) : Prop :=
  s.wnu.list.Nodup ∧ (∀ n, RecordOk s.wnu n) ∧
    (AsMade s → s.wnu.list.Pairwise (fun a b => a.cls ≤ b.cls) ∧ ∀ n, ClassOk s.wnu n)

/-! ## The tone (R135 to R139) -/

/-- Queue order of chime requests: by class, then by time of entry (R135). -/
def ChimeBefore (a b : ChimeRequest) : Prop := a.cls < b.cls ∨ (a.cls = b.cls ∧ a.entered ≤ b.entered)

/-- The chime queue: at most eight requests in order, one for each source; no request waits while the
tone is IDLE; the sounding request's source has no waiting request and no waiting request has a smaller
class number. -/
def ChimeInv (s : State) : Prop :=
  s.wnu.chimes.length ≤ 8 ∧ s.wnu.chimes.Pairwise ChimeBefore ∧
    (s.wnu.chimes.map (·.source)).Nodup ∧
    (match s.wnu.tone with
     | .idle => s.wnu.chimes = []
     | .sounding r => ∀ q ∈ s.wnu.chimes, q.source ≠ r.source ∧ r.cls ≤ q.cls
     | .silent => True
     | .spacing => True)

/-- A request takes its place in a queue in order: behind every request that comes before it (R135). -/
def ChimePlaced (r : ChimeRequest) (q q' : List ChimeRequest) : Prop :=
  ∃ p x, q = p ++ x ∧ (∀ y ∈ p, ChimeBefore y r) ∧ (∀ y ∈ x, ¬ChimeBefore y r) ∧ q' = p ++ r :: x

/-- A request is given to a queue, which is `q'` after it; `taken` says whether the request is in it. It replaces the
waiting request of its source, whose time of entry it keeps; otherwise it joins a queue of fewer than eight; a full
one gives up the youngest of its largest class number to a smaller class number, and drops any other request (R135,
R136). -/
def ChimeGiven (r : ChimeRequest) (q q' : List ChimeRequest) (taken : Bool) : Prop :=
  (∀ old ∈ q, old.source = r.source →
    taken = true ∧
      ChimePlaced { r with entered := old.entered } (q.filter (fun x => x.source ≠ r.source)) q') ∧
  ((∀ x ∈ q, x.source ≠ r.source) →
    (q.length < 8 → taken = true ∧ ChimePlaced r q q') ∧
    (8 ≤ q.length → (∀ x ∈ q, x.cls ≤ r.cls) → taken = false ∧ q' = q) ∧
    (8 ≤ q.length → (∃ x ∈ q, r.cls < x.cls) →
      taken = true ∧
        ∃ p y x, q = p ++ y :: x ∧
          (∀ z ∈ p ++ x, z.cls < y.cls ∨ (z.cls = y.cls ∧ z.entered ≤ y.entered)) ∧
          ChimePlaced r (p ++ x) q'))

/-- A request is given to the queue and acts on the tone. An IDLE tone sounds it; a silent one and the spacing go on;
a pattern of its own source ends; a pattern of another source goes on over a request that was dropped or has no
smaller class number, and is preempted by any other: its request leaves the queue and sounds, and a continuous pattern
returns to the queue, before that (the model's choice, log entry 35) (R135, R138, R139, R140). -/
def ChimeTaken (r : ChimeRequest) (w w' : WarningUnit) (taken : Bool) : Prop :=
  w' = { w with tone := w'.tone, chimes := w'.chimes } ∧
    ∃ q, ChimeGiven r w.chimes q taken ∧
      (w.tone = .idle → w'.tone = .sounding r ∧ w'.chimes = []) ∧
      (w.tone = .silent ∨ w.tone = .spacing → w'.tone = w.tone ∧ w'.chimes = q) ∧
      ∀ cur, w.tone = .sounding cur →
        (cur.source = r.source → w'.tone = .spacing ∧ w'.chimes = q) ∧
        (cur.source ≠ r.source → taken = false ∨ cur.cls ≤ r.cls →
          w'.tone = w.tone ∧ w'.chimes = q) ∧
        (cur.source ≠ r.source → taken = true → r.cls < cur.cls →
          ∃ n ∈ q, n.source = r.source ∧ w'.tone = .sounding n ∧
            (cur.pattern.continuous = false →
              w'.chimes = q.filter (fun x => x.source ≠ r.source)) ∧
            (cur.pattern.continuous = true →
              ∃ q2 b, ChimeGiven cur q q2 b ∧
                w'.chimes = q2.filter (fun x => x.source ≠ r.source)))

/-! ## The commit (R107, R108, R115, R116) -/

/-- The job is an odometer job. -/
def Job.isOdometer : Job → Bool
  | .odometer _ _ _ => true
  | .service _ => false
  | .configuration _ => false

/-- A 32-bit holder of a figure: the figure itself where it fits, any 32-bit value where it does not (log 15). -/
def Held32 (n v : Nat) : Prop := v ≤ 4294967295 ∧ (n ≤ 4294967295 → v = n)

/-- An odometer job holds a value: the present total, and where that does not fit 32 bits one that is no less than
committed_m and no more than the total (R107, log 15). -/
def JobHolds (o : Odometer) (v : Nat) : Prop :=
  o.committed ≤ v ∧ v ≤ o.committed + o.pending ∧
    (o.committed + o.pending ≤ 4294967295 → v = o.committed + o.pending)

/-- The commit state agrees with the store's jobs: WAITING while an odometer job waits, which holds the
present total as 32 bits hold it, WRITING while one is written; until the resolution ends, CLEAR; the echo wait runs
only in RUN and COURTESY before the resolution ends. -/
def CommitInv (s : State) : Prop :=
  (s.odo.resolved = false → s.odo.commit = .clear) ∧
    (s.power.state = .off ∨ s.power.state = .starting → s.odo.resolved = false) ∧
    (s.odo.echoWait.isSome = true → s.odo.resolved = false ∧ s.awake = true) ∧
    (s.odo.commit = .waiting ↔ s.stc.waitOdometer.isSome = true) ∧
    (∀ j ∈ s.stc.waitOdometer, JobHolds s.odo j.value) ∧
    (s.odo.commit = .writing ↔ (s.stc.active.map (fun a => a.job.isOdometer)) = some true)

/-- The job that begins when the port is free, `image` being the staging image: a waiting odometer job, at the write
position, before a waiting service job, and that before a waiting configuration job, each from its first unit; with
none waiting nothing begins (R110, R111). -/
def StoreBegins (c : StoreController) (image : List Byte) (c' : StoreController) : Prop :=
  (∀ j, c.waitOdometer = some j →
    c' =
      { c with
        waitOdometer := none
        active := some { job := .odometer j.value j.mark c.writePos, unit := 0, repeated := false } }) ∧
  (c.waitOdometer = none → c.waitService ≠ [] →
    c' =
      { c with
        waitService := [], active := some { job := .service c.waitService, unit := 0, repeated := false } }) ∧
  (c.waitOdometer = none → c.waitService = [] → c.waitConfiguration = true →
    c' =
      { c with
        waitConfiguration := false
        active := some { job := .configuration image, unit := 0, repeated := false } }) ∧
  (c.waitOdometer = none → c.waitService = [] → c.waitConfiguration = false → c' = c)

/-! ## The start reads (R109, R110, R113, R145) -/

/-- The rotate-XOR check of bytes from a starting value: each byte XORed in, and the value rotated left by one bit
after it (R4, R109, R145). -/
def CheckOf (seed : Byte) (bytes : List Byte) : Byte :=
  bytes.foldl (fun x y => (x ^^^ y).rotateLeft 1) seed

/-- The bytes at an address carry their check, which is the last of them, and are not blank: not all 00h, nor all
FFh. -/
def Checked (m : Memory) (a n : Nat) (seed : Byte) : Prop :=
  m.read (a + n) = CheckOf seed ((List.range n).map (fun j => m.read (a + j))) ∧
    (∃ j ≤ n, m.read (a + j) ≠ 0x00) ∧ ∃ j ≤ n, m.read (a + j) ≠ 0xFF

/-- A slot of the ring is valid: its check is seeded with its index (R109, R113). -/
def SlotValid (m : Memory) (i : Nat) : Prop := Checked m (0x40 + 8 * i) 5 (BitVec.ofNat 8 i)

/-- The value of a slot of the ring, four bytes, the highest first (R109). -/
def SlotValue (m : Memory) (i : Nat) : Nat :=
  let b (j : Nat) : Nat := (m.read (0x40 + 8 * i + j)).toNat
  16777216 * b 0 + 65536 * b 1 + 256 * b 2 + b 3

/-- The newest slot: the valid slot of the greatest value, with the higher index among equals (R110). -/
def NewestSlotIs (m : Memory) (i : Nat) : Prop :=
  i < 16 ∧ SlotValid m i ∧
    ∀ j < 16, SlotValid m j → SlotValue m j < SlotValue m i ∨ (SlotValue m j = SlotValue m i ∧ j ≤ i)

/-- A service record in the memory is valid: its check is seeded with 10h + the item's number (R113, R145). -/
def RecordValid (m : Memory) (i : ServiceItem) : Prop :=
  Checked m (0xC0 + 8 * i.ix.val) 7 (BitVec.ofNat 8 (16 + i.ix.val))

/-- The service record that the memory holds for an item, field by field (R145). -/
def RecordAt (m : Memory) (i : ServiceItem) : ServiceRecord :=
  let b (j : Nat) : Nat := (m.read (0xC0 + 8 * i.ix.val + j)).toNat
  let day := 256 * b 3 + b 4
  { dueKm := 65536 * b 0 + 256 * b 1 + b 2, dueDay := if day = 65535 then none else some day
    penalty := 256 * b 5 + b 6 }

/-! ## Configured ranges and the clock (R156, R159, R179) -/

/-- Every configured value lies in its range (R52, R64, R146, R165, R179). -/
def SettingsOk (c : Settings) : Prop :=
  (1 ≤ c.address ∧ c.address ≤ 14) ∧ (1 ≤ c.srcEngine ∧ c.srcEngine ≤ 14) ∧
    (1 ≤ c.srcTrans ∧ c.srcTrans ≤ 14) ∧ (1 ≤ c.srcBody ∧ c.srcBody ≤ 14) ∧
    (1000 ≤ c.ppk ∧ c.ppk ≤ 16000) ∧ (200 ≤ c.capacity ∧ c.capacity ≤ 1500) ∧
    (c.sender.length = 8 ∧ senderMonotonic c.sender = true) ∧
    (10 ≤ c.refuel ∧ c.refuel ≤ 250) ∧ (20 ≤ c.reserve ∧ c.reserve ≤ 250) ∧
    (40 ≤ c.d10 ∧ c.d10 ≤ 400) ∧ (10 ≤ c.journeyGap ∧ c.journeyGap ≤ 600) ∧
    (1 ≤ c.commitKm ∧ c.commitKm ≤ 10) ∧ (10 ≤ c.courtesyS ∧ c.courtesyS ≤ 120) ∧
    (∀ i : Fin 6, 200 ≤ c.spans[i] ∧ c.spans[i] ≤ 1080) ∧
    (∀ i : Fin 6, c.periods[i] ∈ [1, 2, 4, 8]) ∧ c.deadband ≤ 3 ∧
    c.ignLength ∈ [8, 32, 128, 512] ∧ (-120 ≤ c.clockTrim ∧ c.clockTrim ≤ 120) ∧
    (∀ i : Fin 4, c.distIntervals[i] ≤ 255) ∧ (∀ i : Fin 4, c.dayIntervals[i] ≤ 1095) ∧
    c.penaltyKm ≤ 100

/-- The clock shows a time of day and a day of its calendar, and its prescaler, window and trims are in
range (R156, R158, R159). -/
def ClockOk (c : Clock) : Prop :=
  c.hour ≤ 23 ∧ c.minute ≤ 59 ∧ c.second ≤ 59 ∧ c.day ≤ 36524 ∧ c.prescaler < 32768 ∧
    c.windowCount < 1048576 ∧ (-120 ≤ c.trim ∧ c.trim ≤ 120) ∧
    ∀ t ∈ c.pendingTrim, -120 ≤ t ∧ t ≤ 120

/-- The configured values and the clock are in range, and clock-set mode holds a time of day (R170). -/
def RangeInv (s : State) : Prop :=
  SettingsOk s.settings ∧ ClockOk s.clock ∧
    ∀ p ∈ s.msc.clockSet, p.1 ≤ 23 ∧ p.2 ≤ 59

/-! ## Counts and queues (R18, R21, R26, R62, R84, R96, R133, R134) -/

/-- A trip record within its limits (R84). -/
def TripOk (r : TripRecord) : Prop := r.distance ≤ 9999999 ∧ r.fuel ≤ 4294967295 ∧ r.run ≤ 359999

/-- The link counters are bytes (R21). -/
def CountersOk (c : LinkCounters) : Prop :=
  c.checkErrors ≤ 255 ∧ c.truncated ≤ 255 ∧ c.foreign ≤ 255 ∧ c.txAbandoned ≤ 255 ∧
    c.txDisplaced ≤ 255 ∧ c.ringOverflow ≤ 255

/-- The distances of the odometer and of its jobs fit 32 bits (R105, R107). -/
def OdometerOk (s : State) : Prop :=
  s.odo.committed ≤ 4294967295 ∧ s.odo.pending ≤ 4294967295 ∧
    (∀ v ∈ s.odo.verified, v ≤ 4294967295) ∧ (∀ v ∈ s.odo.base, v ≤ 4294967295) ∧
    (∀ j ∈ s.stc.waitOdometer, j.value ≤ 4294967295) ∧
    ∀ a w mark slot, s.stc.active = some a → a.job = .odometer w mark slot → w ≤ 4294967295

/-- Every queue is within its length, every count stops at its limit, and every distance of the odometer fits its
32 bits. -/
def BoundsInv (s : State) : Prop :=
  CountersOk s.link.counters ∧ s.link.ring.length ≤ 12 ∧ s.link.abandonRun ≤ 3 ∧
    (∀ g, (s.signal g).count ≤ 255) ∧ s.input.events.length ≤ 7 ∧ s.input.fuel.bad ≤ 5 ∧
    TripOk s.trc.tripA ∧ TripOk s.trc.tripB ∧ TripOk s.trc.journey ∧ s.trc.window.length ≤ 16 ∧
    s.trc.openMetres ≤ 1999 ∧ s.trc.openFuel ≤ 4294967295 ∧ OdometerOk s ∧
    s.wnu.log.length ≤ 16 ∧ s.wnu.overflow ≤ 255 ∧ (∀ n : Warning, s.wnu.counts[n.ix] ≤ 255)

/-! ## Readers of the signals: the gauges' targets (R64 to R68, R81) -/

/-- A gauge's curve gives a value the step position `p`: at its points the fraction of the span, truncated;
between two points their straight line, truncated; beyond the ends the end's own (R65). -/
def CurveGives (span : Nat) (points : List (Int × Nat)) (v : Int) (p : Nat) : Prop :=
  let place (q : Int × Nat) : Nat := q.2 * span / 256
  (∀ q, points.head? = some q → v ≤ q.1 → p = place q) ∧
    (∀ q, points.getLast? = some q → q.1 ≤ v → p = place q) ∧
    ∀ l a b r, points = l ++ a :: b :: r → a.1 ≤ v → v ≤ b.1 →
      ((p : Int) - place a) * (b.1 - a.1) ≤ (v - a.1) * ((place b : Int) - place a) ∧
        (v - a.1) * ((place b : Int) - place a) < ((p : Int) - place a + 1) * (b.1 - a.1)

/-- The values of the points strictly ascend, and the fractions do not descend (R65). -/
def EvenCurve (points : List (Int × Nat)) : Prop := points.Pairwise (fun a b => a.1 < b.1 ∧ a.2 ≤ b.2)

/-- The target that a gauge's record decides, `held` being the one it keeps for a STALE record: a FRESH record
gives it by the curve as the pattern memory holds it, for FUEL of its share of the capacity in 1/256, and no more than
the span; a curve that bad cells make uneven gives any target in the span (log entry 63). Any other record gives 0, as
every one does before the configuration step (R64 to R68, R177). -/
def TargetIs (t : State) (g : GaugeId) (held p : Nat) : Prop :=
  let r := t.signal g.signal
  (t.power.configured = false → p = 0) ∧
    (t.power.configured = true →
      (∀ v, r.state = .fresh → r.value = some v →
        ∃ q, p = min (t.span g) q ∧
          (EvenCurve (t.curve g) →
            CurveGives (t.span g) (t.curve g)
              (if g = .fuel then 256 * v / (t.settings.capacity : Int) else v) q)) ∧
      (r.state = .stale → p = held) ∧
      (r.state = .never ∨ r.state = .lost ∨ r.state = .invalid → p = 0))

/-- The gauges follow the records of some signals as `t` holds them. A STALE record holds the target the gauge
had, a PARKING or PARKED gauge keeps its target, and no other field of a gauge changes but the target held
for STALE (R67, R81). -/
def GaugesFollow (sigs : List Signal) (s t : State) : Prop :=
  t.gdu.parkInForce = s.gdu.parkInForce ∧
    ∀ g : GaugeId,
      let q := s.gauge g
      let p := (t.gauge g).target
      (g.signal ∉ sigs → t.gauge g = q) ∧
      (g.signal ∈ sigs →
        t.gauge g =
          { q with
            target := p
            staleTarget :=
              if (t.signal g.signal).state = .stale then q.target else q.staleTarget } ∧
        (q.state = .parking ∨ q.state = .parked → p = q.target) ∧
        (q.state ≠ .parking → q.state ≠ .parked → TargetIs t g q.target p))

/-! ## Readers of the signals: the warnings' conditions (R121 to R126) -/

/-- A test of a value, on a record that is FRESH or STALE (R122); one without a value fails it (the model's choice,
log entry 46). -/
def Tested (r : SignalRecord) (p : Int → Prop) : Prop :=
  (r.state = .fresh ∨ r.state = .stale) ∧ ∃ v, r.value = some v ∧ p v

/-- The engine is running (R122). -/
def Running (t : State) : Prop := Tested (t.signal .engFlags) (fun v => v.toNat.testBit 0 = true)

/-- The condition that R121 gives a warning whose status record was in a state, as `t` holds what it reads (R121, R122,
R123). SERVICE_DUE and SERVICE_SOON have none. -/
def TableHolds (n : Warning) (was : WarnState) (t : State) : Prop :=
  let sig (g : Signal) (p : Int → Prop) : Prop := Tested (t.signal g) p
  let on (g : Signal) : Prop := Tested (t.signal g) (fun v => v ≠ 0)
  let level (l : SwitchLine) : Level := (t.input.filters[l.ix]).level
  match n with
  | .oilPressure => sig .oilP (· < 30) ∧ Running t ∧ t.wnu.runningLong = true
  | .coolantHot => if was = .inactive then sig .coolantT (118 ≤ ·) else sig .coolantT (112 < ·)
  | .brakeFluid => on .brakeFluid
  | .parkBrakeMoving => on .parkBrake ∧ sig .vehSpeed (50 ≤ ·)
  | .charge => sig .sysVolt (fun v => v < 118 ∨ 155 < v) ∧ Running t
  | .engineCheck => sig .engFlags (fun v => v.toNat.testBit 2 = true)
  | .fuelReserve =>
    if was = .inactive then sig .fuelLevel (· ≤ (t.settings.reserve : Int))
    else sig .fuelLevel (· ≤ (t.settings.reserve : Int) + 20)
  | .doorOpenMoving => on .doors ∧ sig .vehSpeed (50 ≤ ·)
  | .transHot => if was = .inactive then sig .transT (130 ≤ ·) else sig .transT (120 < ·)
  | .gaugeFault => ∃ g, (t.gauge g).state = .faulted
  | .senderFault => (t.signal .fuelLevel).state = .invalid
  | .engineLinkLost =>
    t.power.state = .run ∧ t.wnu.linkWindow = none ∧
      ∃ g ∈ [Signal.engRpm, .coolantT, .oilP, .engFlags], (t.signal g).state = .lost
  | .serviceDue => False
  | .bodyLinkLost => t.power.state = .run ∧ (t.link.roster[(2 : Fin 14)]).presence = .silent
  | .washerLow => on .washer
  | .bulbOut => on .bulbs
  | .belt => t.power.state = .run ∧ t.wnu.beltWindow.isSome = true ∧ on .belt
  | .lightsOn => t.power.state = .courtesy ∧ on .lamps ∧ level .driverDoor = .active
  | .keyIn => level .ignition = .inactive ∧ on .keyIn ∧ level .driverDoor = .active
  | .odoRestored => t.wnu.odoRestored = true
  | .configDefaults => t.wnu.configDefaults = true
  | .storeFault => t.stc.fault = true
  | .clockUnset => t.power.state = .run ∧ t.clock.valid = false
  | .serviceSoon => False

/-- The condition of a warning, as the pattern memory holds it: R121's, and with bad cells a free one of the signals it
reads and of what R123 hands it (R177, log entry 63). -/
def Holds (n : Warning) (was : WarnState) (t : State) : Prop :=
  (AsMade t → TableHolds n was t) ∧ (¬AsMade t → t.heldCondition n was (t.handed n) = true)

/-- The warnings whose conditions read some signals: `ws` by R121, and with bad cells those whose conditions as held do
(R177, log entry 63). -/
def ReadBy (t : State) (sigs : List Signal) (ws : List Warning) : List Warning :=
  if t.power.patternSpoiled then Warning.all.filter (fun n => sigs.any (t.heldSignals n).contains) else ws

/-- A warning's status record goes from `r` to `x`, but for the two fields that belong to the head of the
unacknowledged list (R128). -/
def RecordIs (n : Warning) (t : State) (x : WarningRecord) : Prop :=
  t.wnu.record n =
    { x with headed := (t.wnu.record n).headed, autoAck := (t.wnu.record n).autoAck }

/-- CLUSTER_WARNINGS as a state makes it: one flag for each warning on the list, and the smallest class number on
it, or FFh (R43). -/
def WarningsFrame (t : State) (f : Frame) : Prop :=
  ∃ (b : Fin 3 → Byte) (h : Byte),
    f =
      { cls := 1, kind := .broadcast, source := t.settings.address, target := none, id := 0x62,
        data := [b 0, b 1, b 2, h] } ∧
    (∀ (n : Warning) (k : Fin 3), n.ix.val / 8 = k.val →
      (b k).getLsbD (n.ix.val % 8) = decide (n ∈ t.wnu.list)) ∧
    (t.wnu.list = [] → h = 0xFF) ∧
    (t.wnu.list ≠ [] → (∃ n ∈ t.wnu.list, h.toNat = t.classOf n) ∧ ∀ n ∈ t.wnu.list, h.toNat ≤ t.classOf n)

/-- The active list has changed, and CLUSTER_WARNINGS of the list as `t` holds it waits in the transmit queue,
where there was room for it (R43, R125, R126). -/
def WarningsOffered (s t : State) : Prop :=
  WarningInv s → RoomFor s 0x62 → ∃ f, WarningsFrame t f ∧ Queued t f

/-- A warning has been announced, offered to the link, and counted once (R43, R125, R134). -/
def Announced (n : Warning) (s t : State) : Prop :=
  (t.wnu.record n).state = .active ∧ (t.wnu.record n).timer = none ∧
    (t.wnu.record n).reannounce = none ∧ n ∈ t.wnu.list ∧
    t.wnu.counts[n.ix] = min (s.wnu.counts[n.ix] + 1) 255 ∧ WarningsOffered s t

/-- A warning's status record and its count are as they were. -/
def Unmoved (n : Warning) (s t : State) : Prop :=
  RecordIs n t (s.wnu.record n) ∧ t.wnu.counts[n.ix] = s.wnu.counts[n.ix]

/-- What a working out of its condition makes of a warning: INACTIVE qualifies, or is announced where its
qualify time is 0; PENDING falls back; ACTIVE and ACKNOWLEDGED begin to clear, or leave where the release
time is 0; CLEARING returns to its held state (R124, R126, R129). The times and the class are those of the definition
as held (R177). -/
def Moved (n : Warning) (s t : State) : Prop :=
  let r := s.wnu.record n
  let d := t.definition n
  (r.state = .inactive →
    (¬Holds n r.state t → Unmoved n s t) ∧
    (Holds n r.state t → d.qualifyMs = 0 → Announced n s t) ∧
    (Holds n r.state t → 0 < d.qualifyMs →
      RecordIs n t { r with state := .pending, timer := some d.qualifyMs })) ∧
  (r.state = .pending →
    (Holds n r.state t → Unmoved n s t) ∧
    (¬Holds n r.state t → RecordIs n t { r with state := .inactive, timer := none })) ∧
  (r.state = .active ∨ r.state = .acknowledged →
    (Holds n r.state t → Unmoved n s t) ∧
    (¬Holds n r.state t → d.releaseMs = 0 →
      t.wnu.record n = inactiveRecord ∧ n ∉ t.wnu.list ∧ WarningsOffered s t) ∧
    (¬Holds n r.state t → 0 < d.releaseMs →
      RecordIs n t
        { r with
          state := .clearing, heldAck := decide (r.state = .acknowledged)
          timer := some d.releaseMs, reannounce := none })) ∧
  (r.state = .clearing →
    (¬Holds n r.state t → Unmoved n s t) ∧
    (Holds n r.state t →
      RecordIs n t
        { r with
          state := if r.heldAck then .acknowledged else .active, timer := none
          reannounce := if r.heldAck = true ∧ d.cls = 0 then some 60000 else none }))

/-- The conditions of some warnings have been worked out, and no other warning but those of `free` has
changed. -/
def WarningsMoved (ws free : List Warning) (s t : State) : Prop :=
  ∀ n, (n ∈ ws → Moved n s t) ∧ (n ∉ ws → n ∉ free → Unmoved n s t)

/-- The readers of some signals have taken what became of their records: the gauges, and the warnings whose
conditions read them, `ws` by R121. -/
def ReadersFollow (sigs : List Signal) (ws : List Warning) (s t : State) : Prop :=
  GaugesFollow sigs s t ∧ (s.powered = true → WarningsMoved (ReadBy t sigs ws) [] s t)

/-- The running timer follows the engine: it begins its 5 s as the engine becomes running, and stops with it
(R122). -/
def RunningFollows (s t : State) : Prop :=
  (Running t → s.wnu.engineRunning = true →
    t.wnu.runningTimer = s.wnu.runningTimer ∧ t.wnu.runningLong = s.wnu.runningLong) ∧
  (Running t → s.wnu.engineRunning = false →
    t.wnu.runningTimer = some 5000 ∧ t.wnu.runningLong = false) ∧
  (¬Running t → t.wnu.runningTimer = none ∧ t.wnu.runningLong = false) ∧
  (t.wnu.engineRunning = true ↔ Running t)

/-- The warm flag of an open drive follows a write or a change of state of COOLANT_T: it is set in RUN by a FRESH
or STALE record of 70 °C or more, and no other mark or item of the Service Reminder Unit changes (R152). -/
def WarmFollows (s t : State) : Prop :=
  let warm := t.power.state = .run ∧ Tested (t.signal .coolantT) (70 ≤ ·)
  (warm → t.sru = { s.sru with drive := s.sru.drive.map (fun d => { d with warm := true }) }) ∧
    (¬warm → t.sru = s.sru)

/-! ## The fuel sender's table (R51, R52) -/

/-- The level in dl that a reading stands for, through the points of the sender table, each a reading and a share in
half-percent steps of the capacity: a point's own share at its reading; between two neighbouring points their
straight line, truncated; beyond the readings of the table the share of the end; and never above the
capacity (R51). -/
def ReadingGives (table : List (Nat × Nat)) (capacity x level : Nat) : Prop :=
  (∀ p ∈ table,
    p.1 = x ∨ (x < p.1 ∧ ∀ q ∈ table, p.1 ≤ q.1) ∨ (p.1 < x ∧ ∀ q ∈ table, q.1 ≤ p.1) →
    level = min capacity (capacity * p.2 / 200)) ∧
  ∀ l p q r a b, table = l ++ p :: q :: r → (a, b) = (p, q) ∨ (a, b) = (q, p) → a.1 < x → x < b.1 →
    level = min capacity (capacity * (a.2 * (b.1 - x) + b.2 * (x - a.1)) / (200 * (b.1 - a.1)))

/-! ## The range (R96 to R98) and the service items (R146 to R150) -/

/-- A trigger has come: while FUEL_LEVEL is FRESH the range is worked out from its level, by the window of at
least 4 segments and 200 quanta or else by the default consumption; otherwise the held range stays. -/
def RangeWorkedOut (held : Option HeldRange) (t : State) : Prop :=
  let r := t.signal .fuelLevel
  let n := t.trc.window.length
  let fuel := t.trc.window.sum
  (∀ v, r.state = .fresh → r.value = some v →
    t.trc.range =
      some
        (if 4 ≤ n ∧ 200 ≤ fuel then
          { metres := v.toNat * 1000 * (2000 * n) / fuel, basis := .window, level := v.toNat }
         else
          { metres := 100 * (v.toNat * 1000) / t.settings.d10, basis := .default
            level := v.toNat })) ∧
  (r.state ≠ .fresh → t.trc.range = held)

/-- The record that a reset of an item makes at a displayed km (R150). -/
def ResetRecord (s : State) (i : ServiceItem) (km : Nat) : ServiceRecord :=
  { dueKm := km + 100 * s.settings.distIntervals[i.ix]
    dueDay :=
      if s.clock.valid = true ∧ 0 < s.settings.dayIntervals[i.ix] then
        some (s.clock.day + s.settings.dayIntervals[i.ix])
      else none
    penalty := 0 }

/-- The displayed km of a total (R106). -/
def KmOf (total : Nat) : Nat := min (total / 1000) 999999

/-- The remaining km of an item: absent without a displayed km or a distance interval; an item that awaits its
reset counts as reset (R148). -/
def KmLeft (s : State) (i : ServiceItem) : Option Int :=
  let interval := 100 * s.settings.distIntervals[i.ix]
  if s.odo.resolved = false ∨ interval = 0 then none
  else if (s.item i).awaiting then some interval
  else some (min (interval : Int) (((s.item i).record.dueKm : Int) - KmOf s.odo.total))

/-- The remaining days of an item: absent without a due day, a day interval or a valid clock (R148). -/
def DaysLeft (s : State) (i : ServiceItem) : Option Int :=
  let interval := s.settings.dayIntervals[i.ix]
  if s.clock.valid = false ∨ interval = 0 then none
  else if (s.item i).awaiting then some interval
  else (s.item i).record.dueDay.map (fun d => (d : Int) - s.clock.day)

/-- The result of a measure: 0 OK, 1 DUE_SOON, 2 DUE, 3 OVERDUE (R148). -/
def MeasureCode (limit : Int) : Option Int → Nat
  | none => 0
  | some v => if v ≤ -limit then 3 else if v ≤ 0 then 2 else if v ≤ limit then 1 else 0

/-- The status of an item, the worse of its two measures (R148). -/
def StatusCode (s : State) (i : ServiceItem) : Nat :=
  max (MeasureCode 1000 (KmLeft s i)) (MeasureCode 30 (DaysLeft s i))

/-- The items call for SERVICE_DUE or SERVICE_SOON: `table` by R121, and with bad cells by the condition as held, a free
one of their four statuses (R130, R177, log entry 63). -/
def Calls (n : Warning) (table : Prop) (t : State) : Prop :=
  (AsMade t → table) ∧
    (¬AsMade t →
      t.heldCondition n .inactive
        [StatusCode t .engineOil, StatusCode t .inspection, StatusCode t .transmissionFluid,
         StatusCode t .sparkAndFilters] = true)

/-- The service evaluation of R130 has been made on the items as `t` holds them: each of the two warnings that
was INACTIVE is announced if some item calls for it. -/
def ServiceEvaluated (s t : State) : Prop :=
  let due := Calls .serviceDue (∃ i, 2 ≤ StatusCode t i) t
  let soon := Calls .serviceSoon (∃ i, StatusCode t i = 1) t
  ((s.wnu.record .serviceDue).state = .inactive →
    (due →
      Announced .serviceDue s t ∧ (t.wnu.record .serviceDue).display = some 8000) ∧
    (¬due → Unmoved .serviceDue s t)) ∧
  ((s.wnu.record .serviceSoon).state = .inactive →
    (soon →
      Announced .serviceSoon s t ∧ (t.wnu.record .serviceSoon).display = some 8000) ∧
    (¬soon → Unmoved .serviceSoon s t)) ∧
  ∀ n ∈ [Warning.serviceDue, .serviceSoon], (s.wnu.record n).state ≠ .inactive → Unmoved n s t

/-- A dirty item's contents are with the store: waiting, or in the service job in progress (R111, R154). -/
def WithStore (t : State) (i : ServiceItem) : Prop :=
  ∃ e : ServiceEntry, e.item = i ∧ e.record = (t.item i).record ∧
    (e ∈ t.stc.waitService ∨
      ∃ es n x, e ∈ es ∧ t.stc.active = some { job := .service es, unit := n, repeated := x })

/-! ## What the total odometer bounds (R88, R107, R145) -/

/-- The pending distance has not stopped at its limit: the next metre is counted in it (R105). -/
def Unsaturated (s : State) : Prop := s.odo.pending < 4294967295

/-- The total odometer bounds what is counted against it. A trip's distance is at most the total less its start,
once the odometer is resolved and in a COLD start before that; outside a commit the pending distance is short of
the commit interval; the value of an odometer job in progress lies between the committed value and the total;
before the resolution the committed value is the base. Once it is resolved no item awaits its reset, an item's due
point is at most its interval ahead, and its penalty at most half of it. -/
def TotalInv (s : State) : Prop :=
  let total := s.odo.committed + s.odo.pending
  (s.odo.resolved = true ∨ (s.power.kind = .cold ∧ s.power.state ≠ .off) →
    ∀ x, (s.trc.trip x).startOdometer + (s.trc.trip x).distance ≤ total) ∧
  (s.power.kind = .cold → s.power.state = .starting →
    ∀ x, (s.trc.trip x).startOdometer = 0 ∧ (s.trc.trip x).distance = 0) ∧
  (s.odo.resolved = true → s.awake = true → s.odo.commit = .clear →
    s.odo.pending < 1000 * s.settings.commitKm) ∧
  (∀ a w mark slot, s.stc.active = some a → a.job = .odometer w mark slot →
    s.odo.committed ≤ w ∧ w ≤ total) ∧
  (s.odo.resolved = false →
    s.awake = true ∨ (s.power.state = .starting ∧ s.power.step = .done) →
    s.odo.committed = s.odo.base.getD 0) ∧
  (s.odo.resolved = true →
    ∀ i,
      let interval := 100 * s.settings.distIntervals[i.ix]
      (s.item i).awaiting = false ∧ (s.item i).record.penalty ≤ interval / 2 ∧
        (0 < interval → (s.item i).record.dueKm ≤ KmOf total + interval))

/-! ## Broadcasts and clock settings (R41, R42, R44, R151, R160) -/

/-- CLUSTER_DISTANCE as a state makes it: the total as its 32 bits hold it (log 15), and the speed while it is
FRESH (R41). -/
def DistanceFrame (t : State) (f : Frame) : Prop :=
  ∃ (total : Nat) (speed : List Byte), Held32 t.odo.total total ∧
    f =
      { cls := 2, kind := .broadcast, source := t.settings.address, target := none, id := 0x60,
        data := beBytes 4 total ++ speed } ∧
    (∀ v, (t.signal .vehSpeed).state = .fresh → (t.signal .vehSpeed).value = some v →
      speed = beBytes 2 v.toNat) ∧
    ((t.signal .vehSpeed).state ≠ .fresh → speed = [0xFF, 0xFF])

/-- CLUSTER_TIME as a state makes it (R42). -/
def TimeFrame (t : State) : Frame :=
  { cls := 2, kind := .broadcast, source := t.settings.address, target := none, id := 0x61
    data :=
      [BitVec.ofNat 8 t.clock.hour, BitVec.ofNat 8 t.clock.minute] ++ beBytes 2 t.clock.day
        ++ [if t.clock.valid then 1 else 0] }

/-- What follows a setting of the clock: CLUSTER_TIME is offered with the set time, and where the clock was not
valid before, CLOCK_UNSET is worked out and every absent due day of an item that counts days and does not await its
reset is filled and handed to the store (R42, R151, R160 to R162). -/
def ClockReported (s t : State) : Prop :=
  (RoomFor s 0x61 → Queued t (TimeFrame t)) ∧
  (s.clock.valid = true → t.sru = s.sru ∧ t.wnu = s.wnu ∧ t.stc = s.stc ∧ t.odo = s.odo) ∧
  (s.clock.valid = false →
    (s.powered = true → WarningsMoved [.clockUnset] [] s t) ∧
    t.sru = { s.sru with items := t.sru.items } ∧
    ∀ i,
      let q := s.item i
      let days := s.settings.dayIntervals[i.ix]
      let fills : Prop := q.awaiting = false ∧ 0 < days ∧ q.record.dueDay = none
      (fills →
        t.item i =
            { q with record := { q.record with dueDay := some (t.clock.day + days) }, dirty := true } ∧
          WithStore t i) ∧
      (¬fills → t.item i = q))

/-- REAR_SUMMARY as a state makes it: the distance in 0.1 km and the minutes of JOURNEY, the range in km as the
display would show it or FFFFh, and the flags of the fuel gap, the default consumption and a class 0 warning
(R44, R99). -/
def RearFrame (t : State) (f : Frame) : Prop :=
  let j := t.trc.journey
  ∃ flags : Byte,
    f =
      { cls := 3, kind := .broadcast, source := t.settings.address, target := none, id := 0x63
        data :=
          beBytes 2 (min 65535 (j.distance / 100)) ++ beBytes 2 (j.run / 60)
            ++ (match t.trc.range with
                | none => [0xFF, 0xFF]
                | some h =>
                  if (t.signal .fuelLevel).state = .invalid then [0xFF, 0xFF]
                  else beBytes 2 (min 1999 (h.metres / 1000)))
            ++ [flags] } ∧
    flags.toNat < 8 ∧ (flags.getLsbD 0 = true ↔ j.fuelGap = true) ∧
    (flags.getLsbD 1 = true ↔ ∃ h, t.trc.range = some h ∧ h.basis = .default) ∧
    (flags.getLsbD 2 = true ↔ ∃ n ∈ t.wnu.list, t.classOf n = 0)

/-! ## The entry to RUN and the end of STARTING (R87, R98, R152, R180 to R182) -/

/-- The warnings whose conditions read the power state (R123). -/
def readsPower : List Warning := [.engineLinkLost, .bodyLinkLost, .belt, .lightsOn, .keyIn, .clockUnset]

/-- The journey rule resets JOURNEY at this RUN entry: it is due, as it is at the first one of a WAKE start, and the
clock is not valid, or the last-off stamp of the COURTESY before the SLEEP lies ahead of it or at least the configured
gap behind it (R87). -/
def JourneyRuleResets (s : State) : Prop :=
  let since (st : Stamp) : Int :=
    ((s.clock.day : Int) - st.day) * 86400 + ((s.clock.secondOfDay : Int) - st.second)
  s.trc.journeyRuleDue = true ∧
    (s.clock.valid = false ∨
      ∃ st, s.trc.journeyStamp = some st ∧
        (since st < 0 ∨ 60 * (s.settings.journeyGap : Int) ≤ since st))

/-- What every block does at an entry to RUN, but for the power record: the timers of the broadcasts and the two windows
start; JOURNEY is reset where its rule calls for it, at the present total (as 32 bits hold it, log entry 15), and the
rule is no longer due, the stamp it has read being let go; a drive opens if none is open, with the baseline of JOURNEY as it then is, and one that is open
takes up the distance of a JOURNEY that was reset (at most 9,999,999 m, the model's choice, log entry 37); the range
is worked out; the conditions that read the power state are worked out; and the service evaluation is made once the
odometer is resolved (R41, R43, R44, R85, R87, R98, R123, R130, R152, R181). -/
def RunEntered (s t : State) : Prop :=
  t.odo.distTimer = some 500 ∧ t.wnu.broadcastTimer = some 2000 ∧ t.wnu.linkWindow = some 3000 ∧
    t.wnu.beltWindow = some 60000 ∧
    t.trc =
      { s.trc with
        rearTimer := some 2000, journeyRuleDue := false
        journeyStamp := if s.trc.journeyRuleDue then none else s.trc.journeyStamp
        journey := t.trc.journey, range := t.trc.range } ∧
    (JourneyRuleResets s →
      ∃ held, Held32 t.odo.total held ∧
        t.trc.journey =
          { distance := 0, fuel := 0, run := 0, startOdometer := held, startStamp := s.clock.stamp
            fuelGap := false, awaiting := false }) ∧
    (¬JourneyRuleResets s → t.trc.journey = s.trc.journey) ∧
    t.sru = { s.sru with drive := t.sru.drive, items := t.sru.items } ∧
    (s.sru.drive = none →
      ∃ w, t.sru.drive = some { baseline := t.trc.journey.distance, carried := 0, warm := w } ∧
        (w = true ↔ Tested (t.signal .coolantT) (70 ≤ ·))) ∧
    (∀ d, s.sru.drive = some d →
      (JourneyRuleResets s →
        t.sru.drive =
          some
            { d with
              carried := min 9999999 (d.carried + (s.trc.journey.distance - d.baseline))
              baseline := 0 }) ∧
      (¬JourneyRuleResets s → t.sru.drive = some d)) ∧
    RangeWorkedOut s.trc.range t ∧
    WarningsMoved readsPower [.serviceDue, .serviceSoon] s t ∧
    (s.odo.resolved = true → ServiceEvaluated s t) ∧
    (s.odo.resolved = false → Unmoved .serviceDue s t ∧ Unmoved .serviceSoon s t)

/-- What every block does at an entry to COURTESY, but for the power record: the broadcast timers stop, a review and
clock-set mode end, CLUSTER_DISTANCE is offered once the odometer is resolved, and the conditions that read the power
state are worked out (R41, R43, R44, R123, R169, R170, R182). -/
def CourtesyEntered (s t : State) : Prop :=
  t.odo.distTimer = none ∧ t.odo.courtesyOffered = s.odo.resolved ∧ t.wnu.broadcastTimer = none ∧
    t.trc = { s.trc with rearTimer := none } ∧ t.sru = { s.sru with items := t.sru.items } ∧
    t.msc.review = none ∧ t.msc.reviewTimer = none ∧ t.msc.clockSet = none ∧
    WarningsMoved readsPower [] s t ∧
    (s.odo.resolved = true → RoomFor s 0x60 → ∃ d, DistanceFrame t d ∧ Queued t d)

/-- STARTING has ended by the filtered ignition level: RUN or COURTESY with all that its entry does; the echo wait
runs, the speed gate is open, the tone is allowed, an idle transmitter takes up its queue, and every gauge homes, its
contact sampled at once (R70, R71, R72, R138, R180 to R182). -/
def LeavesStarting (contacts : BitVec 6) (s t : State) : Prop :=
  let on := (t.input.filters[SwitchLine.ignition.ix]).level = .active
  (on →
    t.power =
      { s.power with
        state := .run, step := .none, courtesyTimer := none, courtesyCap := none, endPhase := .none
        saveWait := none, pendingWake := false } ∧
    RunEntered s t) ∧
  (¬on →
    t.power =
      { s.power with
        state := .courtesy, step := .none, courtesyTimer := some (1000 * s.settings.courtesyS)
        courtesyCap := some 300000, endPhase := .none } ∧
    CourtesyEntered s t) ∧
  t.odo.echoWait = some 2000 ∧
  t.input.gate =
    { isOpen := true, edges := 0, firstUs := 0, lastUs := 0, sinceEdge := none, computed := none } ∧
  t.wnu.tone ≠ .silent ∧
  (s.link.tx = .idle → t.link.tx = if t.link.txQueue = [] then .idle else .waitingIdle) ∧
  (s.gdu.parkInForce = false →
    ∀ g,
      (contacts.getLsbD g.ix.val = false →
        t.gauge g =
          { s.gauge g with
            state := .homing, motion := .atRest, ramp := 0, position := s.span g, rest := 0
            attempt := 1, steps := 0, lift := none, testMark := false
            sweepMark := s.settings.sweepEnable }) ∧
      (contacts.getLsbD g.ix.val = true →
        (t.gauge g).position = 0 ∧
          (t.gauge g).state =
            if s.settings.sweepEnable = true ∧ on then .sweep else .tracking))

/-! ## The Message Centre takes a button event (R62, R166, R171, R172) -/

/-- The record is composed anew from a state, and sent if no send is in progress and it differs from the record last
sent; `m` is the Message Centre but for that (R166). -/
def Redrawn (m : MessageCentre) (t : State) : Prop :=
  t.msc =
    { m with
      composed := compose t, lastSent := if m.sending then m.lastSent else some (compose t)
      sending := m.sending || decide (m.lastSent ≠ some (compose t)) }

/-- A state in which the overrun notice of a taking has been taken, if the flag was set before the moment of the
taking: clock-set mode abandoned, the mark cleared, the down-set emptied (R62, R172). What was dropped in that moment
after the reading leaves the flag set for the next taking, unless the flag was set at the reading (the model's form
and choice, log entries 43 and 60). -/
def State.noticed (s : State) : State :=
  (s.setInput
    { s.input with
      overrun := if s.input.overrun = .raisedAfterRead then .raised else .clear }).setMsc
    (if s.input.overrun = .raised then { s.msc with clockSet := none, mark := false, downSet := [] }
     else s.msc)

/-- A command takes the oldest event, behind which `rest` waits, with its overrun notice; the Message Centre is then
`m`, but for the record composed anew, and nothing else changes. -/
def EventTaken (c : Instr) (s : State) (rest : List ButtonEvent) (m : MessageCentre) : Prop :=
  ∃ t, Answers c s t ∧ Touches [.input, .msc] s t ∧
    t.input = { s.noticed.input with events := rest } ∧ Redrawn m t

/-- A down-set with a button that has been pressed (R171). -/
def downWith (b : Button) (d : List Button) : List Button := if b ∈ d then d else d ++ [b]

/-- The down-set after an event: a PRESS puts its button in, a RELEASE or RELEASE_AFTER_HOLD takes it out (R171). -/
def downAfter (e : ButtonEvent) (d : List Button) : List Button :=
  match e with
  | .press b => downWith b d
  | .release b => d.filter (fun x => x ≠ b)
  | .releaseAfterHold b => d.filter (fun x => x ≠ b)
  | .hold _ => d
  | .long => d

/-- A warning or a peer text is on show (R171). -/
def Covered (u : State) : Prop := (∃ w, u.shown = .warning w) ∨ ∃ x, u.shown = .peer x

/-- A RESET HOLD resets the selected trip: the item display is on show with a trip item, and CHECK is not in the
down-set (R86, R171). -/
def TripResetOnShow (u : State) : Prop :=
  u.shown = .item ∧ u.msc.item ∉ [Item.range, .instant, .clock] ∧ Button.check ∉ u.msc.downSet

/-- The events that have no action in a state: every event in STARTING, every one but CHECK PRESS and LONG in
COURTESY, and in RUN those of the cells of R171 that are empty, 'nothing' or 'discarded', and those not in its table
(R171, R172). -/
def NoAction (e : ButtonEvent) (u : State) : Prop :=
  u.power.state = .starting ∨
    (u.power.state = .courtesy ∧ e ≠ .press .check ∧ e ≠ .long) ∨
    (u.power.state = .run ∧
      (e = .hold .mode ∨ (∃ b, (e = .release b ∧ b ≠ .set) ∨ e = .releaseAfterHold b) ∨
        (e ∈ [ButtonEvent.press .mode, .press .set, .press .reset] ∧ Covered u) ∨
        (e = .press .reset ∧ u.shown = .item) ∨
        (e ∈ [ButtonEvent.release .set, .hold .set] ∧ (u.shown ≠ .item ∨ u.msc.mark = false)) ∨
        (e = .hold .reset ∧ ¬TripResetOnShow u) ∨
        (e = .hold .check ∧ ((∃ h m, u.shown = .clockSet h m) ∨ Button.reset ∈ u.msc.downSet))))

/-- The command that takes an event of its own name, for the events that have one (spec/95). -/
def ownCommand : ButtonEvent → Option Instr
  | .press .mode => some .modePress
  | .press .set => some .setPress
  | .press .reset => some .resetPress
  | .press .check => some .checkPress
  | .release .set => some .setRelease
  | .hold .set => some .setHold
  | .hold .reset => some .resetHold
  | .hold .check => some .checkHold
  | .long => some .checkResetLong
  | .release .mode | .release .reset | .release .check | .hold .mode | .releaseAfterHold _ => none

/-! ## The item display (R92, R93, R99, R168) -/

/-- The sixteen characters of the item display, item by item, in the units of the display: the trip's letter and
gap mark, the figure at the right of its six characters or "---", the unit, and the odometer; for TIME the time of
the trip's start in place of the odometer, at the right (the model's choice, log entry 50). Beside an absent INSTANT
figure stands either unit (log entry 19). -/
def ItemText (s : State) (text : List Char) : Prop :=
  let r := s.trc.trip s.msc.trip
  let imp := s.settings.imperial
  let right (cs : List Char) : List Char := List.replicate (6 - cs.length) ' ' ++ cs
  let dashes : List Char := ['-', '-', '-']
  let tenths (n : Nat) : List Char :=
    decimal (min n 99999 / 10) ++ ['.', digitChar (min n 99999)]
  let hhmm (h m : Nat) : List Char :=
    [digitChar (h / 10), digitChar h, ':', digitChar (m / 10), digitChar m]
  let unit (metric imperial : List Char) : List Char := if imp then imperial else metric
  let odo : List Char :=
    if s.odo.resolved = false then List.replicate 6 '-'
    else if imp then right (decimal (min (s.odo.total * 125 / 201168) 999999))
    else right (decimal (KmOf s.odo.total))
  let letter :=
    match s.msc.trip with
    | .a => 'A'
    | .b => 'B'
    | .journey => 'J'
  let gap := if r.fuelGap then '*' else ' '
  let trip (mark : Char) (figure unit last : List Char) : List Char :=
    [letter, mark] ++ right (if r.awaiting then dashes else figure) ++ unit ++ last
  let d := r.distance
  let f := r.fuel
  let t := r.run
  match s.msc.item with
  | .distance =>
    text =
      trip ' ' (tenths (if imp then d * 625 / 100584 else d / 100)) (unit ['K', 'M'] ['M', 'I']) odo
  | .average =>
    text =
      trip gap
        (if imp then
          (if f < 1000 then dashes else tenths (min 999 ((4704 * d + 10 * f) / (20 * f))))
         else if d < 1000 then dashes else tenths (min 999 ((200 * f + d) / (2 * d))))
        (unit ['L', 'P'] ['M', 'G']) odo
  | .speed =>
    text =
      trip ' '
        (if t < 60 then dashes
         else if imp then tenths (min 2550 ((44739 * d + 1000 * t) / (2000 * t)))
         else tenths (min 2550 ((72 * d + t) / (2 * t))))
        (unit ['K', 'H'] ['M', 'H']) odo
  | .fuel =>
    text = trip gap (tenths (if imp then f / 3785 else f / 1000)) (unit ['L', ' '] ['G', 'L']) odo
  | .time =>
    text =
      trip ' '
        (decimal (t / 3600) ++ [':', digitChar (t % 3600 / 600), digitChar (t % 3600 / 60)])
        ['H', ' ']
        (match r.startStamp with
         | none => [' ', '-', '-', ':', '-', '-']
         | some x => ' ' :: hhmm (x.second / 3600) (x.second % 3600 / 60))
  | .range =>
    text =
      [' ', ' ']
        ++ right
            (match s.trc.range with
             | none => dashes
             | some h =>
               if (s.signal .fuelLevel).state = .invalid then dashes
               else decimal (min 1999 (if imp then h.metres * 625 / 1005840 else h.metres / 1000)))
        ++ unit ['K', 'M'] ['M', 'I'] ++ odo
  | .instant =>
    (∀ n, s.trc.instant = some (.consumption n) →
      text = [' ', ' '] ++ right (tenths n) ++ unit ['L', 'P'] ['M', 'G'] ++ odo) ∧
    (∀ n, s.trc.instant = some (.flow n) →
      text = [' ', ' '] ++ right (tenths n) ++ unit ['L', 'H'] ['G', 'H'] ++ odo) ∧
    (s.trc.instant = none →
      ∃ u ∈ [unit ['L', 'P'] ['M', 'G'], unit ['L', 'H'] ['G', 'H']],
        text = [' ', ' '] ++ right dashes ++ u ++ odo)
  | .clock =>
    text =
      [' ', ' ']
        ++ right (if s.clock.valid then hhmm s.clock.hour s.clock.minute else ['-', '-', ':', '-', '-'])
        ++ [' ', ' '] ++ odo

/-! ## Samples (R57, R60) -/

/-- A switch filter after samples. -/
def SwitchFilter.after (f : SwitchFilter) (n : Nat) (samples : List Level) : SwitchFilter :=
  samples.foldl (fun g l => g.sampled n l) f

/-- None of the samples completes the filter. -/
def NoneCompletes (f : SwitchFilter) (n : Nat) (samples : List Level) : Prop :=
  ∀ p l q, samples = p ++ l :: q → (f.after n p).completes n l = false

/-- The last of the samples, at a level, completes the filter, and none before it does. -/
def LastCompletes (f : SwitchFilter) (n : Nat) (samples : List Level) (level : Level) : Prop :=
  ∃ p, samples = p ++ [level] ∧ NoneCompletes f n p ∧ (f.after n p).completes n level = true

/-- A line's filter in a state. -/
def State.filter (s : State) (line : SwitchLine) : SwitchFilter := s.input.filters[line.ix]

/-- A debouncer after samples that do not change its position. -/
def Debouncer.after (d : Debouncer) (samples : List Contact) : Debouncer :=
  samples.foldl (fun x c => x.sampled c) d

/-- None of the samples changes the position. -/
def NoneChanges (d : Debouncer) (samples : List Contact) : Prop :=
  ∀ p c q, samples = p ++ c :: q → (d.after p).changes c = false

/-! ## The line (R1, R8) -/

/-- The bit-times from the last dominant bit of a byte to the end of its recessive stop bit: the stop bit, and
the byte's highest bits as far as they are 1 (R1, R8). -/
def idleBits (b : Byte) : Nat := 1 + ((List.range 8).takeWhile (fun i => b.getLsbD (7 - i))).length

end Sys2Proof.Machine
end

