-- ==== Sys2Proof/WellFormed.lean ====
section
/-! DEFINITION. Which commands the outside can send: the ranges the reference gives the operands.
`exec` is total and does not test them; a statement that needs a range takes it as a hypothesis. -/

namespace Sys2Proof

/-- The signals filled from frames have an expiry timer, the local ones have none (R26, R32). -/
def Signal.isPeer : Signal → Bool
  | .vehSpeed | .fuelLevel | .sysVolt | .brakeFluid | .headlampSw => false
  | _ => true

/-- The ranges of the operands: a roster address is 1 to 14 (1.8), only peer signals expire (R29), an
edge falls within its 125 ms gate (R48), a unit is 6, 8, 14 or 16 bytes (R112), only SERVICE_DUE and
SERVICE_SOON have a display timer (R130), a part ends within two parts' cycles of the last update of the
prescaler (R158). Which warnings have an auto-acknowledge or a re-announce timer goes by their class as the pattern
memory holds it (R128, R129, R177), so by no range of the operand. -/
def Instr.wellFormed : Instr → Bool
  | .rosterTimerExpiry st => decide (1 ≤ st ∧ st ≤ 14)
  | .signalExpiry sig => sig.isPeer
  | .speedPulse us => decide (us ≤ 125000)
  | .trimPartEnd cycles => decide (1 ≤ cycles ∧ cycles ≤ 16384)
  | .storeUnitComplete rb => decide (rb.length ∈ [6, 8, 14, 16])
  | .serviceDisplayTimerExpiry w => decide (w = .serviceDue ∨ w = .serviceSoon)
  | _ => true

end Sys2Proof
end

