-- ==== Sys2Proof/Certificates/Slice0/Obligations.lean ====
section
/-! DEFINITION. The statements for the provers. Where a statement gives a state `t` with `Touches bs s t`,
every part of the state outside `bs` is as it was. -/

open Sys2Proof Sys2Proof.Machine

/-! ## The machine as a whole -/

/-- A step takes the command at the front of the queue and carries it out with the rest waiting; on an empty
queue the block idles (the model's choice, log entry 1); and no command changes the queue. -/
def Obligations.StepTakesFrontCommand : Prop :=
  ((∀ (s : State) (c : Instr) (rest : List Instr), s.pending = c :: rest →
     step s = exec c (s.setPending rest)) ∧
   (∀ s : State, s.pending = [] → step s = .next s)) ∧
  (∀ (c : Instr) (s t : State), exec c s = .next t → t.pending = s.pending)

/-- Every one of the 91 commands is carried out, with a next state, wherever the store's job in progress
writes within the serial memory (log entry 21). That one whose event cannot occur changes nothing is the
model's choice (log entry 1). -/
def Obligations.EveryCommandCompletes : Prop :=
  ∀ (c : Instr) (s : State), StoreInv s → ∃ t, exec c s = .next t

/-- The state right after reset satisfies every invariant. -/
def Obligations.ResetSatisfiesInvariants : Prop :=
  MemoryInv State.reset ∧ StoreInv State.reset ∧ TxInv State.reset ∧ GaugeInv State.reset ∧
    WarningInv State.reset ∧ ChimeInv State.reset ∧ CommitInv State.reset ∧ TotalInv State.reset ∧
    RangeInv State.reset ∧ BoundsInv State.reset ∧ PatternInv State.reset

/-- A step keeps the serial memory in its canonical form, and the store's jobs within the serial memory; and it keeps
the pattern memory as it was made until a cell has gone bad (the model's form, log entry 63). -/
def Obligations.StepKeepsStore : Prop :=
  (∀ s t : State, MemoryInv s → step s = .next t → MemoryInv t) ∧
  (∀ s t : State, StoreInv s → step s = .next t → StoreInv t) ∧
  (∀ s t : State, PatternInv s → step s = .next t → PatternInv t)

/-- A step keeps the transmit queue in its order, without two frames of one id and target, with every frame from the
station address in force, also where step 3 of a start has just read it, and with an entry under attempt exactly while
the transmitter is on the line. -/
def Obligations.StepKeepsTransmitQueue : Prop :=
  ∀ s t : State, TxInv s → step s = .next t → TxInv t

/-- A step keeps every gauge within its span, its counts within their limits, and what its state says of its target
and motion. That a gauge is at rest from its entry to HOMING on is the model's choice (log entry 44). -/
def Obligations.StepKeepsGaugesInSpan : Prop :=
  ∀ s t : State, GaugeInv s → step s = .next t → GaugeInv t

/-- A step keeps the active list in agreement with the status records, and while the pattern memory is as made it keeps
it ordered by class. -/
def Obligations.StepKeepsActiveList : Prop :=
  ∀ s t : State, WarningInv s → step s = .next t → WarningInv t

/-- A step keeps the chime queue in order, and no request of a smaller class number waits behind the
sounding one. -/
def Obligations.StepKeepsChimePriority : Prop :=
  ∀ s t : State, ChimeInv s → step s = .next t → ChimeInv t

/-- A step keeps the commit state in agreement with the store's odometer jobs. While the pending distance has not
stopped at its limit a step also keeps what the total bounds: each trip's distance, the pending distance outside a
commit, an odometer job's value, and each item's due point and penalty. In RUN and COURTESY neither the committed
value nor the total falls; and, the odometer being resolved, no command but RESET SERVICE raises an item's remaining
km. What 32 bits hold of a total beyond them is the model's free value (log entry 15). -/
def Obligations.StepKeepsCommit : Prop :=
  (∀ s t : State, CommitInv s → step s = .next t → CommitInv t) ∧
  (∀ s t : State, CommitInv s → TotalInv s → step s = .next t →
     (Unsaturated s → TotalInv t) ∧
     (s.awake = true → t.awake = true →
       s.odo.committed ≤ t.odo.committed ∧
         s.odo.committed + s.odo.pending ≤ t.odo.committed + t.odo.pending)) ∧
  (∀ (c : Instr) (s t : State), CommitInv s → TotalInv s → exec c s = .next t →
     c ≠ .resetService → s.odo.resolved = true → t.odo.resolved = true →
     ∀ i v w, KmLeft s i = some v → KmLeft t i = some w → w ≤ v)

/-- A step keeps the configured values, the clock and the trims in their ranges. -/
def Obligations.StepKeepsRanges : Prop :=
  ∀ s t : State, RangeInv s → step s = .next t → RangeInv t

/-- A step keeps every queue within its length, every count at its limit, and every distance of the odometer within
32 bits. -/
def Obligations.StepKeepsBounds : Prop :=
  ∀ s t : State, BoundsInv s → step s = .next t → BoundsInv t

/-- No other command writes the serial memory; and one that may leaves it alone while no unit is in
progress, while a unit in progress confines what changes to the unit's own bytes. That no stored byte goes bad by
itself is the model's choice (log entry 65). -/
def Obligations.OnlyUnitsWriteMemory : Prop :=
  ∀ (c : Instr) (s t : State), exec c s = .next t →
    (mayStore c = false → t.store = s.store) ∧
    (∀ (a : ActiveJob) (u : Nat × List Byte) (x : Nat), s.stc.active = some a → a.current = some u →
      (x < u.1 ∨ u.1 + u.2.length ≤ x) → t.store.read x = s.store.read x) ∧
    (s.stc.active = none → t.store = s.store)

/-! ## The body link (chapter 1) -/

/-- The receiver takes a byte. A good header opens a frame, a byte short of the check joins it, a byte in
SKIPPING is ignored, and the idle count is that since the byte's last dominant bit. A header of kind 3 or
source 0, a length byte above 8, or a framing error ends the frame in SKIPPING with one CHECK_ERRORS, which
stops at 255. A check byte that differs from the computed check discards the frame with one CHECK_ERRORS; one
that agrees on the cluster's own frame leaves only the receiver changed: that a frame completed in SENDING is
its own, and that no byte comes under its own break, is the model's reading (log entry 34). On the line a byte
is a dominant start bit, its bits from the lowest up, a 1 recessive, and a stop bit; it reads back as that
byte. A dominant stop bit is a break where its dominant run, from a falling edge at the start bit or inside the
byte, lasts ten bits or more, and a framing error where it is shorter; a recessive start bit is a glitch. Each is
told by its command. -/
def Obligations.ReceiverTakesByte : Prop :=
  (∀ (s : State) (b : Byte), s.link.listening = true → s.link.tx ≠ .breaking →
     (s.link.receiver = .waiting → headerBad b = false →
       ∃ t, Answers (.byteReceived b) s t ∧ Touches [.link, .msc] s t ∧
         t.link = { s.link with receiver := .inFrame [b], idleCount := idleBits b }) ∧
     (∀ bytes, s.link.receiver = .inFrame bytes →
       nextField bytes = .body ∨ (nextField bytes = .length ∧ b.toNat ≤ 8) →
       ∃ t, Answers (.byteReceived b) s t ∧ Touches [.link, .msc] s t ∧
         t.link = { s.link with receiver := .inFrame (bytes ++ [b]), idleCount := idleBits b }) ∧
     (s.link.receiver = .skipping →
       ∃ t, Answers (.byteReceived b) s t ∧ Touches [.link, .msc] s t ∧
         t.link = { s.link with idleCount := idleBits b })) ∧
  (∀ (s : State) (b : Byte) (framing : Bool), s.link.listening = true → s.link.tx ≠ .breaking →
     (s.link.receiver = .waiting ∧ (framing = true ∨ headerBad b = true)) ∨
       (∃ bytes, s.link.receiver = .inFrame bytes ∧
         (framing = true ∨ (nextField bytes = .length ∧ 8 < b.toNat))) →
     ∃ t, Answers (.receiveErrorByte b framing) s t ∧ Touches [.link, .msc] s t ∧
       t.link =
         { s.link with
           receiver := .skipping, idleCount := if framing then 0 else idleBits b
           counters :=
             { s.link.counters with checkErrors := min (s.link.counters.checkErrors + 1) 255 } }) ∧
  (∀ (s : State) (bytes : List Byte) (b : Byte), s.link.listening = true →
     s.link.receiver = .inFrame bytes → nextField bytes = .check →
     (b ≠ frameCheck bytes → s.link.tx ≠ .breaking →
       ∃ t, Answers (.frameReceived b) s t ∧ Touches [.link, .msc] s t ∧
         t.link =
           { s.link with
             receiver := .waiting, idleCount := idleBits b
             counters :=
               { s.link.counters with checkErrors := min (s.link.counters.checkErrors + 1) 255 } }) ∧
     (b = frameCheck bytes → s.link.tx = .sending →
       ∃ t, Answers (.frameReceived b) s t ∧ Touches [.link, .msc] s t ∧
         t.link = { s.link with receiver := .waiting, idleCount := idleBits b })) ∧
  (∀ (b : Byte) (stop : LineLevel),
     (byteLevels b stop).length = 10 ∧ (byteLevels b stop)[0]? = some .dominant ∧
     (∀ i < 8, (byteLevels b stop)[i + 1]? =
       some (if b.getLsbD i then LineLevel.recessive else .dominant)) ∧
     (byteLevels b stop)[9]? = some stop ∧
     (∀ rest, readCharacter (byteLevels b .recessive ++ rest) = .byte b) ∧
     (∀ n rest, rest.head? ≠ some .dominant →
       let zeros := ((List.range 8).takeWhile (fun i => !b.getLsbD (7 - i))).length
       let run := (if b = 0 then 9 else zeros) + 1 + n
       readCharacter (byteLevels b .dominant ++ List.replicate n .dominant ++ rest) =
         if 10 ≤ run then .breakRun else .framingError b) ∧
     (∀ ls, readCharacter (.recessive :: ls) = .glitch) ∧
     ∀ r : Receiver,
       Character.command r .breakRun = some .breakReceived ∧
         Character.command r (.framingError b) = some (.receiveErrorByte b true) ∧
         Character.command r .glitch = none)

/-- BYTE_GAP_TIMEOUT, SKIPPING_IDLE_END and BREAK_RECEIVED return the receiver to WAITING: a gap in a frame
counts TRUNCATED, the other two count nothing. -/
def Obligations.ReceiverReturnsToWaiting : Prop :=
  ∀ s : State,
    (∀ bytes, s.link.receiver = .inFrame bytes →
      Answers .byteGapTimeout s
        (s.setLink
          { s.link with
            receiver := .waiting
            counters :=
              { s.link.counters with truncated := min (s.link.counters.truncated + 1) 255 } })) ∧
    (s.link.receiver = .skipping →
      Answers .skippingIdleEnd s (s.setLink { s.link with receiver := .waiting })) ∧
    (s.link.listening = true →
      Answers .breakReceived s (s.setLink { s.link with receiver := .waiting, idleCount := 0 }))

/-- A frame received byte by byte from WAITING, while the cluster sends none of its own, and ended by its
check, is taken: its source becomes PRESENT with a fresh 2 s. A broadcast of id 10h, 12h, 20h or 22h, and a frame
directed to the cluster of id 30h, 31h or 70h to 7Ch, joins the ring's tail, or counts RING_OVERFLOW and records 03h
when the ring holds twelve; no other frame reaches the ring. One whose source is the cluster's own address
besides mutes the transmitter for 1 s and records 02h, the count of abandoned frames staying as it is. -/
def Obligations.SentFrameIsTaken : Prop :=
  ∀ (s : State) (f : Frame), FrameOk f → s.link.listening = true → s.link.receiver = .waiting →
    s.link.tx ≠ .sending → s.link.tx ≠ .breaking →
    let error : Byte := if f.source = s.settings.address then 0x02 else s.rqs.lastError
    let accepts : Prop :=
      (f.kind = .broadcast ∧ f.id ∈ [(0x10 : Byte), 0x12, 0x20, 0x22]) ∨
        (f.kind = .directed ∧ f.target = some s.settings.address ∧
          (f.id ∈ [(0x30 : Byte), 0x31] ∨ (0x70 ≤ f.id.toNat ∧ f.id.toNat ≤ 0x7C)))
    ∃ t, runAll ((frameBody f).map Instr.byteReceived ++ [.frameReceived (frameCheck (frameBody f))]) s
        = .next t ∧
      Touches [.link, .wnu, .msc, .rqs, .seq, .draw] s t ∧ t.link.receiver = .waiting ∧
      (∀ i : Fin 14,
        t.link.roster[i] =
          if i.val + 1 = f.source then { presence := .present, timer := some 2000 }
          else s.link.roster[i]) ∧
      t.link.counters.checkErrors = s.link.counters.checkErrors ∧
      t.link.abandonRun = s.link.abandonRun ∧
      (f.source = s.settings.address → t.link.tx = .muted ∧ t.link.txTimer = some 1000) ∧
      (f.source ≠ s.settings.address → t.link.txTimer = s.link.txTimer) ∧
      (¬accepts →
        t.link.ring = s.link.ring ∧ t.rqs = { s.rqs with lastError := error } ∧
          t.link.counters.ringOverflow = s.link.counters.ringOverflow) ∧
      (accepts → s.link.ring.length < 12 →
        t.link.ring = s.link.ring ++ [f] ∧ t.rqs = { s.rqs with lastError := error } ∧
          t.link.counters.ringOverflow = s.link.counters.ringOverflow) ∧
      (accepts → 12 ≤ s.link.ring.length →
        t.link.ring = s.link.ring ∧ t.rqs = { s.rqs with lastError := 0x03 } ∧
          t.link.counters.ringOverflow = min (s.link.counters.ringOverflow + 1) 255)

/-- The bytes of a frame spell that frame again, and the bytes of an odometer slot and of a service record
read back what they hold, but for blank bytes: no field of an encoding is dropped. -/
def Obligations.EncodingsRoundTrip : Prop :=
  (∀ f : Frame, FrameOk f → frameOfBytes (frameBody f) = some f) ∧
  (∀ (i v : Nat) (mark : Bool), i < 16 → v ≤ 4294967295 → ¬(i = 0 ∧ v = 0 ∧ mark = false) →
    slotRead i (slotBytes i v mark) = some (v, mark)) ∧
  (∀ (i : ServiceItem) (r : ServiceRecord), r.dueKm < 16777216 → (∀ d ∈ r.dueDay, d < 65535) →
    r.penalty < 65536 → blankBytes (recordBytes i r) = false →
    recordRead i (recordBytes i r) = some r)

/-- ATTEMPT_START: the attempt starts once the idle count reaches 14 + 3 × class of the head and the
receiver is in WAITING, and the head is then under attempt; short of that, or with the receiver in a frame
or SKIPPING, the idle count goes on. That the command brings the bit times since the last one is the model's
choice (log entry 6). -/
def Obligations.AttemptStartsAtIdleSpacing : Prop :=
  ∀ (s : State) (e : TxEntry) (q : List TxEntry) (idle : Nat), s.link.listening = true →
    s.link.tx = .waitingIdle → s.awake = true → s.link.txQueue = e :: q →
    (14 + 3 * e.frame.cls ≤ s.link.idleCount + idle → s.link.receiver = .waiting →
      Answers (.attemptStart idle) s
        (s.setLink
          { s.link with
            tx := .sending, idleCount := 0, txQueue := { e with underAttempt := true } :: q })) ∧
    (s.link.idleCount + idle < 14 + 3 * e.frame.cls ∨ s.link.receiver ≠ .waiting →
      Answers (.attemptStart idle) s
        (s.setLink { s.link with idleCount := s.link.idleCount + idle }))

/-- ARBITRATION_LOST returns the transmitter to WAITING_IDLE with the idle count at 0: each entry keeps its
place and its failed attempts, and the one under attempt takes its held contents. BIT_ERROR drives the break.
ATTEMPT_SUCCESS of the entry under attempt among entries that wait: it leaves the queue, or with held contents
stays in its place with them and 0 failed attempts; the abandoned count returns to 0, the idle count is that
since the last dominant bit of the check byte, and the transmitter waits for idle if an entry is left and
sending is allowed. While SENDING the cluster drives the bytes of the frame under attempt, back to back, and
while BREAKING 12 dominant bit-times; otherwise it releases the line. -/
def Obligations.AttemptsEnd : Prop :=
  (∀ s : State, s.link.tx = .sending →
     (∃ t, Answers .arbitrationLost s t ∧ Touches [.link] s t ∧
       t.link = { s.link with tx := .waitingIdle, idleCount := 0, txQueue := t.link.txQueue } ∧
       t.link.txQueue =
         s.link.txQueue.map (fun e =>
           if e.underAttempt then
             { e with frame := e.held.getD e.frame, held := none, underAttempt := false }
           else e)) ∧
     Answers .bitError s (s.setLink { s.link with tx := .breaking })) ∧
  (∀ (s : State) (p q : List TxEntry) (e : TxEntry), s.link.tx = .sending →
     s.link.txQueue = p ++ e :: q → e.underAttempt = true →
     (∀ x ∈ p ++ q, x.underAttempt = false) →
     (∃ t, Answers .attemptSuccess s t ∧ Touches [.link] s t ∧
       t.link.txQueue =
         (match e.held with
          | none => p ++ q
          | some h =>
            p ++ { e with frame := h, held := none, failed := 0, underAttempt := false } :: q) ∧
       t.link =
         { s.link with
           txQueue := t.link.txQueue, receiver := .waiting, abandonRun := 0
           idleCount := idleBits (frameCheck (frameBody e.frame))
           tx := if t.link.txQueue ≠ [] ∧ s.awake = true then .waitingIdle else .idle }) ∧
     s.lineOutput =
       (frameBody e.frame ++ [frameCheck (frameBody e.frame)]).flatMap
         (fun b => byteLevels b .recessive)) ∧
  (∀ s : State,
     (s.link.tx = .breaking → s.lineOutput = List.replicate 12 .dominant) ∧
     (s.link.tx ≠ .sending → s.link.tx ≠ .breaking → s.lineOutput = []))

/-- BREAK_END of the entry under attempt among entries that wait: the first and second failure wait for idle
again, the third pauses for 100 ms; each counts one failed attempt and takes held contents. The fourth
abandons the entry: TX_ABANDONED counts, 01h is recorded, held contents stay in its place afresh, and the
fourth abandoned entry in a row mutes the transmitter for 1 s with the count back at 0. -/
def Obligations.BreakEndCountsFailure : Prop :=
  (∀ (s : State) (p q : List TxEntry) (e : TxEntry), s.link.tx = .breaking →
     s.link.txQueue = p ++ e :: q → e.underAttempt = true →
     (∀ x ∈ p ++ q, x.underAttempt = false) → e.failed ≤ 2 →
     Answers .breakEnd s
       (s.setLink
         { s.link with
           receiver := .waiting, idleCount := 0
           txQueue :=
             p ++ { e with
                    frame := e.held.getD e.frame, held := none, failed := e.failed + 1
                    underAttempt := false } :: q
           tx := if e.failed = 2 then .paused else if s.awake = true then .waitingIdle else .idle
           txTimer := if e.failed = 2 then some 100 else s.link.txTimer })) ∧
  (∀ (s : State) (p q : List TxEntry) (e : TxEntry), s.link.tx = .breaking →
     s.link.txQueue = p ++ e :: q → e.underAttempt = true →
     (∀ x ∈ p ++ q, x.underAttempt = false) → e.failed = 3 →
     ∃ t, Answers .breakEnd s t ∧ Touches [.link, .rqs] s t ∧
       t.rqs = { s.rqs with lastError := 0x01 } ∧
       t.link.txQueue =
         (match e.held with
          | none => p ++ q
          | some h =>
            p ++ { e with frame := h, held := none, failed := 0, underAttempt := false } :: q) ∧
       t.link.counters =
         { s.link.counters with txAbandoned := min (s.link.counters.txAbandoned + 1) 255 } ∧
       (s.link.abandonRun = 3 →
         t.link.tx = .muted ∧ t.link.txTimer = some 1000 ∧ t.link.abandonRun = 0) ∧
       (s.link.abandonRun ≤ 2 →
         t.link.tx = (if t.link.txQueue ≠ [] ∧ s.awake = true then .waitingIdle else .idle) ∧
           t.link.abandonRun = s.link.abandonRun + 1))

/-- PAUSE_EXPIRY and MUTE_EXPIRY take the transmitter to WAITING_IDLE if the queue is not empty and sending is
allowed, and otherwise to IDLE. ROSTER_TIMER_EXPIRY makes a PRESENT station SILENT, and no other entry changes: its
continuous pattern that sounds ends in SPACING, its continuous request that waits leaves the queue, and its one-shot
requests stay; of station 3 BODY_LINK_LOST is worked out, after the pattern has ended (the model's order, log entry
58). Conditions of warnings, and their definitions, are as the pattern memory holds them (log entry 63). -/
def Obligations.LinkTimersEnd : Prop :=
  (∀ s : State,
     let t :=
       s.setLink
         { s.link with
           tx := if s.link.txQueue ≠ [] ∧ s.awake = true then .waitingIdle else .idle
           txTimer := none }
     (s.link.tx = .paused → Answers .pauseExpiry s t) ∧ (s.link.tx = .muted → Answers .muteExpiry s t)) ∧
  (∀ (s : State) (i : Fin 14), s.link.listening = true → (s.link.roster[i]).presence = .present →
     (s.link.roster[i]).timer.isSome = true →
     let stops (q : ChimeRequest) : Prop :=
       q.source = .station (i.val + 1) ∧ q.pattern.continuous = true
     ∃ t, Answers (.rosterTimerExpiry (i.val + 1)) s t ∧
       Touches [.link, .wnu, .msc, .seq, .draw] s t ∧
       t.link.roster = s.link.roster.set i { presence := .silent, timer := none } ∧
       t.link.ring = s.link.ring ∧ t.link.receiver = s.link.receiver ∧
       (∀ r, s.wnu.tone = .sounding r → stops r → t.wnu.tone = .spacing) ∧
       (∀ q ∈ t.wnu.chimes, ¬stops q) ∧
       (i.val ≠ 2 →
         t.wnu =
           { s.wnu with
             tone := t.wnu.tone
             chimes :=
               s.wnu.chimes.filter (fun q =>
                 q.source ≠ .station (i.val + 1) ∨ q.pattern.continuous = false) } ∧
         ((∀ r, s.wnu.tone = .sounding r → ¬stops r) → t.wnu.tone = s.wnu.tone)) ∧
       (i.val = 2 → s.powered = true → WarningsMoved [.bodyLinkLost] [] s t))

/-- A frame offered to a queue in order: one matching a waiting entry takes its place, time of entry and
failed attempts; one matching the entry under attempt is held; a new one joins behind its own class; a full
queue gives up the youngest entry of the largest class number to a smaller one, or drops the frame. -/
def Obligations.OfferPlacesFrame : Prop :=
  ∀ (f : Frame) (s : State), TxInv s →
    (∀ p e q, s.link.txQueue = p ++ e :: q → e.frame.sameKey f = true → e.underAttempt = false →
      (offer f s).link.txQueue = p ++ { e with frame := f } :: q) ∧
    (∀ p e q, s.link.txQueue = p ++ e :: q → e.frame.sameKey f = true → e.underAttempt = true →
      (offer f s).link.txQueue = p ++ { e with held := some f } :: q) ∧
    ((∀ e ∈ s.link.txQueue, e.frame.sameKey f = false) → s.link.txQueue.length < 8 →
      ∃ p q, s.link.txQueue = p ++ q ∧ (∀ e ∈ p, e.frame.cls ≤ f.cls) ∧
        (∀ e ∈ q, f.cls < e.frame.cls) ∧
        (offer f s).link.txQueue =
          p ++ { frame := f, entered := s.seq, failed := 0, held := none, underAttempt := false }
            :: q) ∧
    ((∀ e ∈ s.link.txQueue, e.frame.sameKey f = false) → s.link.txQueue.length = 8 →
      (offer f s).link.counters.txDisplaced = min (s.link.counters.txDisplaced + 1) 255 ∧
        (offer f s).link.txQueue.length = 8 ∧
        ((∀ e ∈ s.link.txQueue, e.underAttempt = false → e.frame.cls ≤ f.cls) →
          (offer f s).link.txQueue = s.link.txQueue) ∧
        (∀ p e q, s.link.txQueue = p ++ e :: q → e.underAttempt = false → f.cls < e.frame.cls →
          (∀ x ∈ p ++ q, x.underAttempt = false →
            x.frame.cls < e.frame.cls ∨ (x.frame.cls = e.frame.cls ∧ x.entered < e.entered)) →
          ∃ p' q', p ++ q = p' ++ q' ∧ (∀ x ∈ p', x.frame.cls ≤ f.cls) ∧
            (∀ x ∈ q', f.cls < x.frame.cls) ∧
            (offer f s).link.txQueue =
              p' ++ { frame := f, entered := s.seq, failed := 0, held := none, underAttempt := false }
                :: q'))

/-! ## The Signal Table and the frames of the catalogue (chapter 2) -/

/-- ENGINE_STATUS from the expected source makes signals 0 to 3 FRESH, or INVALID with their values held where a field
carries its invalid marker, each with a fresh 300 ms and one more arrival; the tachometer, the coolant and the oil
gauge decide their targets, the warm flag of the drive follows the coolant, the running timer the engine, and the five
conditions that read these signals are worked out. Its fuel count: the first is the reference; a rise of at most 500
quanta adds in RUN to the trips that do not await their reset, the open segment and the instant bin, and outside RUN
is not added; a larger one sets fuel_gap on all three trips. Conditions of warnings and gauge curves are as the
pattern memory holds them (log entry 63). -/
def Obligations.EngineStatusIsTaken : Prop :=
  (∀ (s : State) (f : Frame) (rest : List Frame) (b0 b1 b2 b3 b4 b5 : Byte), HandsOn s 0x10 f rest →
     f.source = s.settings.srcEngine → f.data = [b0, b1, b2, b3, b4, b5] →
     let arrived (g : Signal) (v : Option Int) : SignalRecord :=
       { s.signal g with
         value := if v = none then (s.signal g).value else v
         state := if v = none then .invalid else .fresh
         timer := some 300, count := min ((s.signal g).count + 1) 255 }
     ∃ t, Answers .engineStatus s t ∧
       Touches [.link, .signals, .gdu, .trc, .wnu, .sru, .msc, .seq, .draw] s t ∧
       t.link.ring = rest ∧ t.link.roster = s.link.roster ∧ t.link.receiver = s.link.receiver ∧
       t.signal .engRpm = arrived .engRpm (some (32 * b0.toNat : Nat)) ∧
       t.signal .coolantT =
         arrived .coolantT (if b1 = 0xFF then none else some ((b1.toNat : Int) - 40)) ∧
       t.signal .oilP = arrived .oilP (if b2 = 0xFF then none else some (4 * b2.toNat : Nat)) ∧
       t.signal .engFlags = arrived .engFlags (some (b5.toNat % 8 : Nat)) ∧
       (∀ g, g ≠ .engRpm → g ≠ .coolantT → g ≠ .oilP → g ≠ .engFlags → t.signal g = s.signal g) ∧
       ReadersFollow [.engRpm, .coolantT, .oilP, .engFlags]
         [.oilPressure, .coolantHot, .charge, .engineCheck, .engineLinkLost] s t ∧
       WarmFollows s t ∧ RunningFollows s t) ∧
  (∀ (s : State) (f : Frame) (rest : List Frame) (b0 b1 b2 b3 b4 b5 : Byte), HandsOn s 0x10 f rest →
     f.source = s.settings.srcEngine → f.data = [b0, b1, b2, b3, b4, b5] →
     let count := 256 * b3.toNat + b4.toNat
     let added (q : Nat) (r : TripRecord) : TripRecord :=
       if r.awaiting then r else { r with fuel := min (r.fuel + q) 4294967295 }
     ∃ t, Answers .engineStatus s t ∧
       (s.trc.fuelRef = none → t.trc = { s.trc with fuelRef := some count }) ∧
       (∀ ref, s.trc.fuelRef = some ref → ref ≤ 65535 →
         let q := (count + 65536 - ref) % 65536
         (500 < q →
           t.trc =
             { s.trc with
               fuelRef := some count
               tripA := { s.trc.tripA with fuelGap := true }
               tripB := { s.trc.tripB with fuelGap := true }
               journey := { s.trc.journey with fuelGap := true } }) ∧
         (q ≤ 500 → s.power.state = .run →
           t.trc =
             { s.trc with
               fuelRef := some count, tripA := added q s.trc.tripA, tripB := added q s.trc.tripB
               journey := added q s.trc.journey
               openFuel := min (s.trc.openFuel + q) 4294967295, binFuel := s.trc.binFuel + q }) ∧
         (q ≤ 500 → s.power.state ≠ .run → t.trc = { s.trc with fuelRef := some count })))

/-- TRANS_STATUS and BODY_STATUS from their expected sources update signals 4 and 5, and 6 to 12, and the conditions
that read them are worked out; a GEAR above 5 and a TRANS_T of FFh are INVALID. A BODY_STATUS whose flags differ from
a value held restarts the courtesy timer in COURTESY before its end, and any other leaves the Power Unit alone.
Conditions of warnings and gauge curves are as the pattern memory holds them (log entry 63). -/
def Obligations.TransAndBodyStatusUpdateSignals : Prop :=
  ∀ (s : State) (f : Frame) (rest : List Frame),
    let arrived (g : Signal) (v : Option Int) : SignalRecord :=
      { s.signal g with
        value := if v = none then (s.signal g).value else v
        state := if v = none then .invalid else .fresh
        timer := some 600, count := min ((s.signal g).count + 1) 255 }
    (∀ b0 b1 : Byte, HandsOn s 0x12 f rest → f.source = s.settings.srcTrans → f.data = [b0, b1] →
      ∃ t, Answers .transStatus s t ∧
        Touches [.link, .signals, .gdu, .wnu, .sru, .msc, .seq, .draw] s t ∧ t.link.ring = rest ∧
        t.signal .gear = arrived .gear (if b0.toNat ≤ 5 then some (b0.toNat : Int) else none) ∧
        t.signal .transT =
          arrived .transT (if b1 = 0xFF then none else some ((b1.toNat : Int) - 40)) ∧
        (∀ g, g ≠ .gear → g ≠ .transT → t.signal g = s.signal g) ∧
        ReadersFollow [.gear, .transT] [.transHot] s t) ∧
    (∀ b0 b1 b2 : Byte, HandsOn s 0x20 f rest → f.source = s.settings.srcBody →
      f.data = [b0, b1, b2] →
      let bit1 (i : Nat) : Int := if b1.getLsbD i then 1 else 0
      let fields : List (Signal × Int) :=
        [(.doors, (b0.toNat % 64 : Nat)), (.lamps, (b1.toNat % 4 : Nat)), (.keyIn, bit1 2),
         (.belt, bit1 3), (.parkBrake, bit1 4), (.washer, bit1 5), (.bulbs, (b2.toNat : Nat))]
      ∃ t, Answers .bodyStatus s t ∧
        Touches [.power, .link, .signals, .gdu, .wnu, .sru, .msc, .seq, .draw] s t ∧
        t.link.ring = rest ∧
        (∀ p ∈ fields, t.signal p.1 = arrived p.1 (some p.2)) ∧
        (∀ g, (∀ p ∈ fields, g ≠ p.1) → t.signal g = s.signal g) ∧
        ReadersFollow (fields.map (·.1))
          [.doorOpenMoving, .lightsOn, .keyIn, .belt, .parkBrakeMoving, .washerLow, .bulbOut] s t ∧
        ((∃ p ∈ fields, ∃ v, (s.signal p.1).value = some v ∧ v ≠ p.2) →
          s.power.state = .courtesy → s.power.endPhase = .none →
          t.power = { s.power with courtesyTimer := some (1000 * s.settings.courtesyS) }) ∧
        ((∀ p ∈ fields, ∀ v, (s.signal p.1).value = some v → v = p.2) ∨
            s.power.state ≠ .courtesy ∨ s.power.endPhase ≠ .none →
          t.power = s.power))

/-- A status frame from another source leaves every record, the trips and the power state alone and counts
FOREIGN once, which stops at 255; one of another length from the expected source is only taken. -/
def Obligations.ForeignStatusChangesNoRecord : Prop :=
  ∀ (s : State) (f : Frame) (rest : List Frame) (id : Byte) (c : Instr) (expected len : Nat),
    (id = 0x10 ∧ c = .engineStatus ∧ expected = s.settings.srcEngine ∧ len = 6) ∨
      (id = 0x12 ∧ c = .transStatus ∧ expected = s.settings.srcTrans ∧ len = 2) ∨
      (id = 0x20 ∧ c = .bodyStatus ∧ expected = s.settings.srcBody ∧ len = 3) →
    HandsOn s id f rest →
    (f.source ≠ expected →
      ∃ t, Answers c s t ∧ Touches [.link, .msc] s t ∧
        t.link =
          { s.link with
            ring := rest
            counters := { s.link.counters with foreign := min (s.link.counters.foreign + 1) 255 } }) ∧
    (f.source = expected → f.data.length ≠ len →
      ∃ t, Answers c s t ∧ Touches [.link, .msc] s t ∧ t.link = { s.link with ring := rest })

/-- SIGNAL_EXPIRY of a peer record: FRESH and INVALID become STALE with a fresh timer of twice its refresh time, STALE
becomes LOST with its timer stopped; its value and count stay. Its gauges hold their targets for STALE and fall to 0
for LOST, the warm flag of the drive follows COOLANT_T, and the conditions that read it are worked out, a STALE record
without a value failing its tests (the model's choice, log entry 46). ENG_FLAGS becoming LOST makes the fuel reference
absent. Conditions of warnings and gauge curves are as the pattern memory holds them (log entry 63). -/
def Obligations.SignalAges : Prop :=
  ∀ (s : State) (g : Signal), g.isPeer = true → (s.signal g).timer.isSome = true →
    (s.signal g).state = .fresh ∨ (s.signal g).state = .invalid ∨ (s.signal g).state = .stale →
    ∃ t, Answers (.signalExpiry g) s t ∧
      Touches [.link, .signals, .gdu, .trc, .wnu, .sru, .msc, .seq, .draw] s t ∧
      t.link.ring = s.link.ring ∧
      t.signal g =
        (if (s.signal g).state = .stale then { s.signal g with state := .lost, timer := none }
         else { s.signal g with state := .stale, timer := some (2 * g.refreshMs) }) ∧
      (∀ h, h ≠ g → t.signal h = s.signal h) ∧
      t.trc =
        (if g = .engFlags ∧ (s.signal g).state = .stale then { s.trc with fuelRef := none }
         else s.trc) ∧
      ReadersFollow [g] (warningsOf g) s t ∧ (g = .engFlags → RunningFollows s t) ∧
      (g = .coolantT → WarmFollows s t) ∧ (g ≠ .coolantT → t.sru = s.sru)

/-- CHIME_REQUEST from a station in RUN or COURTESY before its end: class 0 is taken as 1, and the request is given to
the chime queue and acts on the tone. It replaces the station's own waiting request, whose time of entry it keeps, or
joins; of a full queue it takes the place of the youngest request of the largest class number if its own is smaller,
and is dropped otherwise. It sounds at once on an IDLE tone, waits on a silent one and in the spacing, ends a pattern
of its own station in SPACING, waits behind a sounding request of its own or a smaller class number, and preempts one
of a larger, which returns to the queue if its pattern is continuous, before the request leaves it (the model's
choice, log entry 35). A text id of 1 to 5 of a request that is in the queue is shown for 5 s. So does any request
given to the queue, a warning's or the test chime's. CHIME_CANCEL: the station's sounding pattern ends in SPACING, its
waiting request leaves the queue, and its text is no longer on show; other stations' are left alone. A request of
another length, with a pattern outside 1 to 7 or a class above 3, a cancel with data, and either of them outside RUN
and COURTESY or from the end of COURTESY on, is taken from the ring and discarded. -/
def Obligations.StationChimes : Prop :=
  (∀ (s : State) (f : Frame) (rest : List Frame) (b0 b1 b2 : Byte) (p : Pattern), ChimeInv s →
     HandsOn s 0x30 f rest → f.data = [b0, b1, b2] → Pattern.ofNat? b0.toNat = some p →
     b1.toNat ≤ 3 → s.awake = true → s.power.endPhase = .none →
     ∃ t taken, Answers .chimeRequest s t ∧ Touches [.link, .wnu, .msc, .seq] s t ∧
       t.link = { s.link with ring := rest } ∧
       ChimeTaken
         { source := .station f.source, pattern := p, cls := max 1 b1.toNat, entered := s.seq }
         s.wnu t.wnu taken ∧
       (taken = true ∧ 1 ≤ b2.toNat ∧ b2.toNat ≤ 5 →
         t.msc.peerText = some { text := b2.toNat, station := f.source } ∧
           t.msc.peerTimer = some 5000) ∧
       (¬(taken = true ∧ 1 ≤ b2.toNat ∧ b2.toNat ≤ 5) →
         t.msc.peerText = s.msc.peerText ∧ t.msc.peerTimer = s.msc.peerTimer)) ∧
  (∀ (s : State) (r : ChimeRequest), ChimeInv s →
     ChimeTaken r s.wnu (s.wnu.giveChime r).1 (s.wnu.giveChime r).2) ∧
  (∀ (s : State) (f : Frame) (rest : List Frame), HandsOn s 0x31 f rest → f.data = [] →
     s.awake = true → s.power.endPhase = .none →
     ∃ t, Answers .chimeCancel s t ∧ Touches [.link, .wnu, .msc] s t ∧
       t.link = { s.link with ring := rest } ∧
       t.wnu = { s.wnu with tone := t.wnu.tone, chimes := t.wnu.chimes } ∧
       t.wnu.chimes = s.wnu.chimes.filter (fun q => q.source ≠ .station f.source) ∧
       (∀ r, s.wnu.tone = .sounding r → r.source = .station f.source → t.wnu.tone = .spacing) ∧
       ((∀ r, s.wnu.tone = .sounding r → r.source ≠ .station f.source) → t.wnu.tone = s.wnu.tone) ∧
       (∀ x, s.msc.peerText = some x →
         t.msc.peerText = if x.station = f.source then none else some x)) ∧
  (∀ (s : State) (f : Frame) (rest : List Frame) (c : Instr) (id : Byte),
     let b (i : Nat) : Nat := (byteAt f.data i).toNat
     let away : Prop := s.awake = false ∨ s.power.endPhase ≠ .none
     (c = .chimeRequest ∧ id = 0x30 ∧
         (f.data.length ≠ 3 ∨ b 0 = 0 ∨ 7 < b 0 ∨ 3 < b 1 ∨ away)) ∨
       (c = .chimeCancel ∧ id = 0x31 ∧ (f.data ≠ [] ∨ away)) →
     HandsOn s id f rest →
     ∃ t, Answers c s t ∧ Touches [.link, .msc] s t ∧ t.link = { s.link with ring := rest } ∧
       t.msc =
         { s.msc with
           composed := t.msc.composed, lastSent := t.msc.lastSent, sending := t.msc.sending })

/-- ODO_ECHO in the echo wait, and ECHO_WAIT_EXPIRY, end the start resolution: the total takes the echo where there is
no base or the echo stands above the base by more than the commit interval and 1 km, with the odometer marked RESTORED
and ODO_RESTORED announced (its condition being worked out as held, with bad cells in the pattern memory); else the
base; else 0, marked RESTORED. A commit starts if it was restored, if the base calls for one, or if the pending
distance has reached the commit interval. The trips that await their reset at a COLD start, and at another those that
the total contradicts, are reset at the total (as 32 bits hold it, log entry 15). Each service item is repaired, the
one of a RESET SERVICE held for the displayed km is reset, the only one that marks the oil as reset in this drive (log
entry 54), and in RUN the service evaluation follows it (the model's order, log entry 48). A COURTESY that has not had
its CLUSTER_DISTANCE offers it. An ODO_ECHO outside the wait, from another source or of another length is taken and
discarded. The wait is tested as the frame is taken from the ring, so an echo that joined the ring before the wait
began is used (log entry 67). Conditions of warnings, and their definitions, are as the pattern memory holds them (log
entry 63). -/
def Obligations.ResolutionSetsTheOdometer : Prop :=
  (∀ (s : State) (c : Instr) (echo : Option Nat), CommitInv s → s.odo.echoWait.isSome = true →
     ((∃ f rest, HandsOn s 0x22 f rest ∧ f.source = s.settings.srcBody ∧ f.data.length = 4 ∧
         c = .odoEcho ∧ echo = some (beNat f.data)) ∨
       (c = .echoWaitExpiry ∧ echo = none)) →
     let value : Nat × Bool :=
       match s.odo.base, echo with
       | none, some e => (e, true)
       | none, none => (0, true)
       | some b, none => (b, false)
       | some b, some e => if b + 1000 * s.settings.commitKm + 1000 < e then (e, true) else (b, false)
     ∃ t, Answers c s t ∧
       Touches [.link, .trc, .odo, .stc, .wnu, .sru, .msc, .seq, .draw] s t ∧
       t.odo.committed = value.1 ∧ t.odo.verified = some value.1 ∧ t.odo.pending = s.odo.pending ∧
       t.odo.restored = (s.odo.restored || value.2) ∧ t.odo.resolved = true ∧ t.odo.echoWait = none ∧
       (value.2 = true ∨ s.odo.baseCommit = true ∨ 1000 * s.settings.commitKm ≤ s.odo.pending →
         t.odo.commit = .waiting ∨ t.odo.commit = .writing) ∧
       (value.2 = false → s.odo.baseCommit = false → s.odo.pending < 1000 * s.settings.commitKm →
         t.odo.commit = .clear) ∧
       (let total := t.odo.total
        ∃ held, Held32 total held ∧
        let fresh : TripRecord :=
          { distance := 0, fuel := 0, run := 0, startOdometer := held, startStamp := s.clock.stamp,
            fuelGap := false, awaiting := false }
        ∀ x : Trip,
          let r := s.trc.trip x
          (s.power.kind = .cold → t.trc.trip x = if r.awaiting then fresh else r) ∧
          (s.power.kind ≠ .cold → total < r.startOdometer ∨ total - r.startOdometer < r.distance →
            t.trc.trip x = fresh) ∧
          (s.power.kind ≠ .cold → r.startOdometer + r.distance ≤ total → t.trc.trip x = r)) ∧
       (let km := KmOf t.odo.total
        t.sru.heldReset = none ∧
        (t.sru.oilReset = true ↔ s.sru.oilReset = true ∨
          (s.sru.heldReset = some .engineOil ∧ s.sru.drive.isSome = true)) ∧
        ∀ i,
          (s.sru.heldReset = some i ∨ (s.item i).awaiting = true →
            t.item i = { record := ResetRecord s i km, awaiting := false, dirty := true }) ∧
          (s.sru.heldReset ≠ some i → (s.item i).awaiting = false →
            let interval := 100 * s.settings.distIntervals[i.ix]
            let r := (s.item i).record
            let r' :=
              { r with
                dueKm :=
                  if 0 < interval ∧ km + interval < r.dueKm then km + interval else r.dueKm
                penalty := min r.penalty (interval / 2) }
            t.item i =
              { record := r', awaiting := false
                dirty := (s.item i).dirty || decide (r' ≠ r) })) ∧
       (value.2 = true →
         t.wnu.odoRestored = true ∧
           Moved .odoRestored s t ∧
           (AsMade s → (s.wnu.record .odoRestored).state = .inactive → Announced .odoRestored s t)) ∧
       (value.2 = false →
         t.wnu.odoRestored = s.wnu.odoRestored ∧ Unmoved .odoRestored s t) ∧
       (s.power.state = .run → ServiceEvaluated s t) ∧
       (s.power.state = .courtesy → s.odo.courtesyOffered = false →
         t.odo.courtesyOffered = true ∧
           (RoomFor s 0x60 → ∃ f, DistanceFrame t f ∧ Queued t f))) ∧
  (∀ (s : State) (f : Frame) (rest : List Frame), HandsOn s 0x22 f rest →
     s.odo.echoWait = none ∨ f.source ≠ s.settings.srcBody ∨ f.data.length ≠ 4 →
     ∃ t, Answers .odoEcho s t ∧ Touches [.link, .msc] s t ∧ t.link = { s.link with ring := rest })

/-! ## The Input Unit (chapter 3) -/

/-- SPEED_PULSE, any number in RUN or COURTESY: the metre events are floor((r₀ + 1000 × pulses) / PPK), each
a metre more of pending distance, of each trip that does not await its reset, of the instant bin and of the
open segment. Each 2,000 m of the open segment close it: its fuel joins the tail of the range window, of which
the last 16 segments are kept, and the range is worked out again while FUEL_LEVEL is FRESH. -/
def Obligations.PulsesCountDistance : Prop :=
  ∀ (s : State) (us : List Nat), s.awake = true → 1000 ≤ s.settings.ppk →
    s.input.residue < s.settings.ppk → s.trc.openMetres < 2000 → s.trc.window.length ≤ 16 →
    let metres := (s.input.residue + 1000 * us.length) / s.settings.ppk
    let longer (r : TripRecord) : TripRecord :=
      if r.awaiting then r else { r with distance := min (r.distance + metres) 9999999 }
    s.odo.pending + metres ≤ 4294967295 → TripOk s.trc.tripA → TripOk s.trc.tripB →
    TripOk s.trc.journey →
    ∃ t, runAll (us.map Instr.speedPulse) s = .next t ∧
      Touches [.input, .trc, .odo, .stc, .msc] s t ∧
      t.input.residue = (s.input.residue + 1000 * us.length) % s.settings.ppk ∧
      t.odo.pending = s.odo.pending + metres ∧ t.odo.committed = s.odo.committed ∧
      t.trc.tripA = longer s.trc.tripA ∧ t.trc.tripB = longer s.trc.tripB ∧
      t.trc.journey = longer s.trc.journey ∧ t.trc.binMetres = s.trc.binMetres + metres ∧
      t.trc.openMetres = (s.trc.openMetres + metres) % 2000 ∧
      (let closed := (s.trc.openMetres + metres) / 2000
       let ring := s.trc.window ++ s.trc.openFuel :: List.replicate (closed - 1) 0
       (closed = 0 →
         t.trc.window = s.trc.window ∧ t.trc.openFuel = s.trc.openFuel ∧
           t.trc.range = s.trc.range) ∧
       (1 ≤ closed →
         t.trc.window = ring.drop (ring.length - 16) ∧ t.trc.openFuel = 0 ∧
           RangeWorkedOut s.trc.range t))

/-- A metre that brings the pending distance to the commit interval in CLEAR, or the total to the retry
point in DEFERRED, starts a commit; one in WAITING raises the waiting job to the new total (as 32 bits hold it, log
entry 15); one in WRITING leaves the job alone. -/
def Obligations.MetreStartsCommit : Prop :=
  ∀ (s : State) (us : Nat), s.awake = true → s.settings.ppk ≤ s.input.residue + 1000 →
    s.odo.pending < 4294967295 →
    ∃ t, Answers (.speedPulse us) s t ∧ t.odo.pending = s.odo.pending + 1 ∧
      (s.odo.commit = .clear → s.odo.resolved = true →
        1000 * s.settings.commitKm ≤ s.odo.pending + 1 →
        t.odo.commit = .waiting ∨ t.odo.commit = .writing) ∧
      (s.odo.commit = .clear → s.odo.resolved = false ∨ s.odo.pending + 1 < 1000 * s.settings.commitKm →
        t.odo.commit = .clear ∧ t.stc = s.stc) ∧
      (s.odo.commit = .deferred → s.odo.retryPoint ≤ t.odo.total →
        t.odo.commit = .waiting ∨ t.odo.commit = .writing) ∧
      (s.odo.commit = .deferred → t.odo.total < s.odo.retryPoint →
        t.odo.commit = .deferred ∧ t.stc = s.stc) ∧
      (s.odo.commit = .writing → t.odo.commit = .writing ∧ t.stc = s.stc) ∧
      (∀ j, s.odo.commit = .waiting → s.stc.waitOdometer = some j →
        t.odo.commit = .waiting ∧
          ∃ v, JobHolds t.odo v ∧ t.stc.waitOdometer = some { j with value := v })

/-- SPEED_GATE_END writes VEH_SPEED FRESH: from two edges or more over a span of time, the speed to the nearest 0.1
km/h, halves up, at most 255.0; with fewer, the last speed computed while its last edge is less than 1 s old, and else
0. SUPPLY_READING writes SYS_VOLT FRESH in 0.1 V steps, truncated and at most 200. The speed and the voltage gauge
decide their targets, and the conditions that read the two are worked out. A test on a STALE record without a value is
false (log entry 46). Conditions of warnings and gauge curves are as the pattern memory holds them (log entry 63). -/
def Obligations.SpeedAndVoltageAreWritten : Prop :=
  (∀ s : State, s.awake = true → s.input.gate.isOpen = true → 1000 ≤ s.settings.ppk →
     let g := s.input.gate
     ∃ (t : State) (v : Nat), Answers .speedGateEnd s t ∧
       Touches [.link, .signals, .input, .gdu, .wnu, .sru, .msc, .seq, .draw] s t ∧
       t.signal .vehSpeed =
         { s.signal .vehSpeed with
           value := some (v : Int), state := .fresh, timer := none
           count := min ((s.signal .vehSpeed).count + 1) 255 } ∧
       (∀ h, h ≠ .vehSpeed → t.signal h = s.signal h) ∧
       (2 ≤ g.edges → g.firstUs < g.lastUs →
         ∃ w, v = min 2550 w ∧
           s.settings.ppk * (g.lastUs - g.firstUs) * (2 * w) ≤
             72000000000 * (g.edges - 1) + s.settings.ppk * (g.lastUs - g.firstUs) ∧
           72000000000 * (g.edges - 1) + s.settings.ppk * (g.lastUs - g.firstUs) <
             s.settings.ppk * (g.lastUs - g.firstUs) * (2 * w + 2)) ∧
       (∀ last, g.edges = 0 → g.computed = some last →
         v = (match g.sinceEdge with
              | none => 0
              | some us => if us + 125000 < 1000000 then last else 0)) ∧
       (∀ last, g.edges = 1 → g.computed = some last → v = last) ∧
       (g.edges ≤ 1 → g.computed = none → v = 0) ∧
       t.input = { s.input with gate := t.input.gate } ∧ t.input.gate.edges = 0 ∧
       t.input.gate.isOpen = true ∧
       ReadersFollow [.vehSpeed] [.parkBrakeMoving, .doorOpenMoving] s t) ∧
  (∀ (s : State) (mv : Nat), s.powered = true →
     ∃ t, Answers (.supplyReading mv) s t ∧
       Touches [.link, .signals, .gdu, .wnu, .sru, .msc, .seq, .draw] s t ∧
       t.signal .sysVolt =
         { s.signal .sysVolt with
           value := some (min 200 (mv / 100) : Nat), state := .fresh, timer := none
           count := min ((s.signal .sysVolt).count + 1) 255 } ∧
       (∀ h, h ≠ .sysVolt → t.signal h = s.signal h) ∧
       ReadersFollow [.sysVolt] [.charge] s t)

/-- FUEL_SAMPLE. A bad reading (below 8 or above 247) raises the count of consecutive bad readings, and from the fifth
on FUEL_LEVEL is INVALID with its value held. A good reading after the averaging, with a filter state held, steps the
filter toward the level by the truncated share of its distance, or by 1 where that is 0, and writes FUEL_LEVEL FRESH
from the filter state. A good reading in the averaging adds its level to the sum; the sixteenth ends the averaging,
and the filter starts from the average if none is held or the average stands above the held level by the refuel
threshold, and goes on from the held state otherwise. A state kept through a start that reads a smaller capacity is
not cut to it, and FUEL_LEVEL is written from it as it is (the model's choice, log entry 57). Each write reaches the
fuel gauge and the two fuel warnings, a test on a STALE record without a value being false (log entry 46). A reading
gives its level through a monotonic sender table. The range is worked out at a write of a record that was NEVER or
INVALID, with no range held, at 5 dl from the held range's level, and at a refuel, and at no other. Conditions of
warnings and gauge curves are as the pattern memory holds them (log entry 63). -/
def Obligations.FuelSamples : Prop :=
  (∀ (s : State) (x : Byte), s.powered = true → s.power.configured = true →
     x.toNat < 8 ∨ 247 < x.toNat →
     ∃ t, Answers (.fuelSample x) s t ∧
       Touches [.link, .signals, .input, .gdu, .wnu, .sru, .msc, .seq, .draw] s t ∧
       t.input =
         { s.input with fuel := { s.input.fuel with bad := min 5 (s.input.fuel.bad + 1) } } ∧
       (∀ h, h ≠ .fuelLevel → t.signal h = s.signal h) ∧
       t.signal .fuelLevel =
         (if s.input.fuel.bad ≤ 3 then s.signal .fuelLevel
          else
            { s.signal .fuelLevel with
              state := .invalid, timer := none
              count := min ((s.signal .fuelLevel).count + 1) 255 }) ∧
       (s.input.fuel.bad ≤ 3 → t.gdu = s.gdu ∧ t.wnu = s.wnu) ∧
       (4 ≤ s.input.fuel.bad → ReadersFollow [.fuelLevel] [.fuelReserve, .senderFault] s t)) ∧
  (∀ (s : State) (x : Byte), s.powered = true → s.power.configured = true →
     8 ≤ x.toNat → x.toNat ≤ 247 →
     let level := senderLevel s.settings.sender s.settings.capacity x.toNat
     let rate : Nat :=
       if (s.signal .vehSpeed).state = .fresh ∧ 0 < (s.signal .vehSpeed).value.getD 0 then 512 else 32
     let sum := s.input.fuel.sum + level
     let average := sum / 16
     let filled : Prop :=
       ∃ f, s.input.fuel.f64 = some f ∧ (f + 32) / 64 + s.settings.refuel ≤ average
     let before := s.signal .fuelLevel
     let trigger (v : Nat) : Prop :=
       before.state = .never ∨ before.state = .invalid ∨ s.trc.range = none ∨
         ∃ h, s.trc.range = some h ∧ (h.level + 5 ≤ v ∨ v + 5 ≤ h.level)
     (senderMonotonic s.settings.sender = true →
       ReadingGives s.settings.sender s.settings.capacity x.toNat level) ∧
     let writes (refuel : Prop) (f' : Nat) (t : State) : Prop :=
       Answers (.fuelSample x) s t ∧
       Touches [.link, .signals, .input, .gdu, .trc, .wnu, .sru, .msc, .seq, .draw] s t ∧
       t.signal .fuelLevel =
         { before with
           value := some ((f' + 32) / 64 : Nat), state := .fresh, timer := none
           count := min (before.count + 1) 255 } ∧
       (∀ h, h ≠ .fuelLevel → t.signal h = s.signal h) ∧
       ReadersFollow [.fuelLevel] [.fuelReserve, .senderFault] s t ∧
       t.trc = { s.trc with range := t.trc.range } ∧
       (trigger ((f' + 32) / 64) ∨ refuel → RangeWorkedOut s.trc.range t) ∧
       (¬trigger ((f' + 32) / 64) → ¬refuel → t.trc.range = s.trc.range)
     (∀ f64, s.input.fuel.averaging = false → s.input.fuel.f64 = some f64 →
       ∃ (t : State) (f' : Nat), writes False f' t ∧
         t.input = { s.input with fuel := { s.input.fuel with bad := 0, f64 := some f' } } ∧
         (f64 ≤ 64 * level →
           f' = f64 + (if 64 * level - f64 = 0 then 0 else max 1 ((64 * level - f64) / rate))) ∧
         (64 * level < f64 → f' = f64 - max 1 ((f64 - 64 * level) / rate))) ∧
     (s.input.fuel.averaging = true → s.input.fuel.good ≤ 14 →
       ∃ t, Answers (.fuelSample x) s t ∧ Touches [.input, .msc] s t ∧
         t.input =
           { s.input with
             fuel := { s.input.fuel with bad := 0, good := s.input.fuel.good + 1, sum := sum } }) ∧
     (s.input.fuel.averaging = true → s.input.fuel.good = 15 →
       ∃ (t : State) (f' : Nat), writes filled f' t ∧ t.input.fuel.f64 = some f' ∧
         t.input.fuel.averaging = false ∧
         (s.input.fuel.f64 = none ∨ filled → f' = 64 * average) ∧
         (∀ f, s.input.fuel.f64 = some f → ¬filled → f' = f)))

/-- A sample counts in the run of equal samples, which stops at the filter's length; at the length it completes the
filter, if the level differs or the filter has not completed since it started anew. Samples that complete nothing
change only their line's filter. SWITCH_FILTER_COMPLETION with a last sample that completes: the filter takes the
level; the headlamp and brake-fluid lines write their flag FRESH, and BRAKE_FLUID is worked out; the spare line does
nothing more; a driver-door edge works out LIGHTS_ON and KEY_IN, in COURTESY before its end restarts the courtesy
timer, and in its end phases sets the pending-wake mark. A condition's test on a STALE record without a value is false
(the model's choice, log entry 46). Conditions of warnings, and their definitions, are as the pattern memory holds
them (log entry 63). -/
def Obligations.SwitchCompletionReachesReader : Prop :=
  (∀ (f : SwitchFilter) (n : Nat) (l : Level),
     let run := if f.last = some l then min n (f.run + 1) else 1
     (run = n → f.completed = false ∨ f.level ≠ l →
       f.completes n l = true ∧
         f.sampled n l = { level := l, last := some l, run := n, completed := true }) ∧
     (run ≠ n ∨ (f.completed = true ∧ f.level = l) →
       f.completes n l = false ∧ f.sampled n l = { f with last := some l, run := run })) ∧
  ∀ (s : State) (line : SwitchLine) (samples : List Level) (contacts : BitVec 6), s.powered = true →
    let n :=
      match line with
      | .ignition => s.input.ignLength
      | .driverDoor => 4
      | .headlamp => 8
      | .brakeFluid => 8
      | .spare => 8
    (NoneCompletes (s.filter line) n samples →
      Answers (.switchFilterCompletion line samples contacts) s
        (s.setInput
          { s.input with
            filters := s.input.filters.set line.ix ((s.filter line).after n samples) })) ∧
    (∀ level, line ≠ .ignition → LastCompletes (s.filter line) n samples level →
      let edge := (s.filter line).level ≠ level
      ∃ t, Answers (.switchFilterCompletion line samples contacts) s t ∧
        Touches [.power, .link, .signals, .input, .wnu, .msc, .seq, .draw] s t ∧
        t.filter line = { level := level, last := some level, run := n, completed := true } ∧
        (∀ l : SwitchLine, l ≠ line → t.filter l = s.filter l) ∧
        (∀ g, (line = .headlamp ∧ g = .headlampSw) ∨ (line = .brakeFluid ∧ g = .brakeFluid) →
          t.signal g =
            { s.signal g with
              value := some (if level = .active then 1 else 0), state := .fresh, timer := none
              count := min ((s.signal g).count + 1) 255 }) ∧
        (∀ g, ¬((line = .headlamp ∧ g = .headlampSw) ∨ (line = .brakeFluid ∧ g = .brakeFluid)) →
          t.signal g = s.signal g) ∧
        (line = .brakeFluid → WarningsMoved (ReadBy t [.brakeFluid] [.brakeFluid]) [] s t) ∧
        (line = .headlamp → WarningsMoved (ReadBy t [.headlampSw] []) [] s t) ∧
        (line = .driverDoor ∧ edge → WarningsMoved [.lightsOn, .keyIn] [] s t) ∧
        (line = .spare ∨ (line = .driverDoor ∧ ¬edge) → t.wnu = s.wnu) ∧
        (line = .headlamp → AsMade s → t.wnu = s.wnu) ∧
        (line = .driverDoor → edge → s.power.state = .courtesy →
          t.power =
            (if s.power.endPhase = .none then
              { s.power with courtesyTimer := some (1000 * s.settings.courtesyS) }
             else { s.power with pendingWake := true })) ∧
        (line ≠ .driverDoor ∨ ¬edge ∨ s.power.state ≠ .courtesy → t.power = s.power))

/-- The filtered ignition level takes the part between RUN and COURTESY. INACTIVE in RUN enters COURTESY with its
timer and its 5 min cap, and offers CLUSTER_DISTANCE once the odometer is resolved. ACTIVE in COURTESY enters RUN at
any phase of its end, with the timers stopped and the pending-wake mark cleared: the gauges of a park that is in force
resume their targets, JOURNEY is reset where its rule is due and calls for it (by the last-off stamp of the COURTESY
before the SLEEP, whatever stamp an end of COURTESY has written since), a drive opens if none is open and one that is open takes up what a
JOURNEY that was reset held (at most 9,999,999 m, log entry 37), the range is worked out, and the
service evaluation is made, if the odometer is resolved. The conditions that read the power state are worked out at
both, a test on a STALE record without a value being false (log entry 46). A PARKING gauge keeps its motion when its
park is withdrawn (log entry 25), and the journey starts at the total as 32 bits hold it (log entry 15). In STARTING
with step 4 done the completion ends STARTING by the level, with the same entry to RUN or COURTESY: the journey rule,
the drive and the range of a RUN entry among it. The gauges home then (log entry 42), at rest from the
entry on (log entry 44), and an edge to ACTIVE begins the lamp test. Conditions of warnings and gauge curves are as
the pattern memory holds them (log entry 63). -/
def Obligations.IgnitionMovesRunAndCourtesy : Prop :=
  ∀ (s : State) (samples : List Level) (contacts : BitVec 6),
    let f := s.filter .ignition
    (s.power.state = .run → f.level = .active →
      LastCompletes f s.input.ignLength samples .inactive →
      ∃ t, Answers (.switchFilterCompletion .ignition samples contacts) s t ∧
        Touches [.power, .link, .input, .trc, .odo, .wnu, .msc, .seq, .draw] s t ∧
        t.power =
          { s.power with
            state := .courtesy, courtesyTimer := some (1000 * s.settings.courtesyS)
            courtesyCap := some 300000, endPhase := .none } ∧
        t.odo = { s.odo with distTimer := none, courtesyOffered := s.odo.resolved } ∧
        CourtesyEntered s t) ∧
    (s.power.state = .courtesy → f.level = .inactive →
      LastCompletes f s.input.ignLength samples .active →
      ∃ t, Answers (.switchFilterCompletion .ignition samples contacts) s t ∧
        t.power =
          { s.power with
            state := .run, courtesyTimer := none, courtesyCap := none, endPhase := .none
            saveWait := none, pendingWake := false } ∧
        t.odo = { s.odo with distTimer := some 500 } ∧ t.store = s.store ∧ t.stc = s.stc ∧
        t.signals = s.signals ∧ t.settings = s.settings ∧ t.clock = s.clock ∧
        t.sru.items = s.sru.items ∧ RunEntered s t ∧
        (s.msc.lampTest = .notRun → t.msc.lampTest = .running ∧ t.msc.lampTimer = some 3000) ∧
        t.gdu.parkInForce = false ∧
        (s.gdu.parkInForce = false → t.gdu = s.gdu) ∧
        (s.gdu.parkInForce = true →
          ∀ g,
            let q := s.gauge g
            let p := (t.gauge g).target
            (q.state ≠ .parking → q.state ≠ .parked → t.gauge g = q) ∧
            (q.state = .parking ∨ q.state = .parked → TargetIs t g q.staleTarget p) ∧
            (q.state = .parking → t.gauge g = { q with state := .tracking, target := p }) ∧
            (q.state = .parked →
              t.gauge g =
                { q with
                  state := .tracking, target := p, ramp := 0
                  motion :=
                    if (q.position - p) + (p - q.position) ≤ s.settings.deadband then .atRest
                    else if q.position < p then .movingUp else .movingDown }))) ∧
    (∀ level, s.power.state = .starting → s.power.step = .done →
      LastCompletes f s.input.ignLength samples level →
      ∃ t, Answers (.switchFilterCompletion .ignition samples contacts) s t ∧
        Touches [.power, .link, .input, .gdu, .trc, .odo, .wnu, .sru, .msc, .seq, .draw] s t ∧
        (t.filter .ignition).level = level ∧ (t.filter .ignition).completed = true ∧
        LeavesStarting contacts s t ∧
        t.odo =
          { s.odo with
            echoWait := some 2000, distTimer := t.odo.distTimer
            courtesyOffered := t.odo.courtesyOffered } ∧
        t.sru.items = s.sru.items ∧
        (f.level = .inactive → level = .active → s.msc.lampTest = .notRun →
          t.msc.lampTest = .running ∧ t.msc.lampTimer = some 3000))

/-- A falling edge on the link, a driver-door edge, and an ACTIVE edge of the ignition wake the part from SLEEP: a
WAKE start at step 1, with the lamp test if the ignition is ACTIVE, that keeps the clock, the trips, the log, the
counters, the last-off stamp for the journey rule, the ignition and door filters, the pattern memory with the mark of its bad cells, the keep-alive signature
and the serial memory (no byte of which goes bad by itself, the model's choice, log entry 65), with the transmit
queue, the ring, the active list and the chime queue empty and every gauge UNHOMED. -/
def Obligations.WakeStartsFromSleep : Prop :=
  ∀ (s : State) (c : Instr), s.power.state = .sleep →
    c = .linkFallingEdgeWake ∨
      (∃ l k samples level, c = .switchFilterCompletion l samples k ∧
        ((l = .driverDoor ∧ LastCompletes (s.filter l) 4 samples level) ∨
          (l = .ignition ∧ level = .active ∧
            LastCompletes (s.filter l) s.input.ignLength samples level)) ∧
        (s.filter l).level ≠ level) →
    ∃ t, Answers c s t ∧ t.power.state = .starting ∧ t.power.kind = .wake ∧ t.power.step = .step1 ∧
      t.power.patternMemory = s.power.patternMemory ∧
      t.power.patternSpoiled = s.power.patternSpoiled ∧ t.power.signature = s.power.signature ∧
      t.power.configured = false ∧ t.link.listening = false ∧ t.link.txQueue = [] ∧
      t.link.ring = [] ∧ t.link.counters = s.link.counters ∧ t.clock = s.clock ∧
      t.store = s.store ∧ t.trc.tripA = s.trc.tripA ∧ t.trc.tripB = s.trc.tripB ∧
      t.trc.journey = s.trc.journey ∧ t.trc.window = s.trc.window ∧ t.trc.range = s.trc.range ∧
      t.trc.journeyRuleDue = true ∧ t.trc.journeyStamp = s.clock.lastOff ∧
      t.odo.pending = s.odo.pending ∧ t.odo.verified = s.odo.verified ∧ t.odo.resolved = false ∧
      t.wnu.log = s.wnu.log ∧ t.wnu.counts = s.wnu.counts ∧ t.wnu.list = [] ∧ t.wnu.chimes = [] ∧
      t.wnu.tone = .silent ∧ t.msc.trip = s.msc.trip ∧ t.msc.item = s.msc.item ∧
      t.rqs.lastError = s.rqs.lastError ∧ t.input.residue = s.input.residue ∧
      t.input.ignLength = s.input.ignLength ∧
      (c = .linkFallingEdgeWake → t.filter .ignition = s.filter .ignition ∧
        t.filter .driverDoor = s.filter .driverDoor) ∧
      (∀ l samples k, c = .switchFilterCompletion l samples k →
        (t.filter l).level ≠ (s.filter l).level ∧ (t.filter l).completed = true) ∧
      t.msc.lampTest = (if (t.filter .ignition).level = .active then .running else .notRun) ∧
      (∀ g, (t.gauge g).state = .unhomed) ∧ (∀ g, (t.signal g).state = .never)

/-- The first sample of a button in a start is its position, locked if it is DOWN; a later one counts in the
run of equal samples, which stops at 4, and the fourth that differs from the position changes it.
BUTTON_POSITION_CHANGE: samples short of that change only the button's own counts. A button that becomes DOWN
gives PRESS and starts its 2 s; one that becomes UP gives RELEASE, or RELEASE_AFTER_HOLD once HOLD was given,
stops it, and is no longer locked; a locked one gives no event. BUTTON_HOLD_TIMER_EXPIRY gives HOLD, and
LONG_TIMER_EXPIRY gives CHECK+RESET LONG, each timer then stopped. Events join the queue's tail, or set
OVERRUN at seven, before or after its reading by a taking in this moment, which a run of no samples tells (log
entry 43); one that this reading has found set stays as it is (log entry 60). That a button stands UP before its first sample, and that the 10 s start again with each
second button, is the model's reading (log entries 22 and 23). -/
def Obligations.ButtonsGiveEvents : Prop :=
  (∀ (d : Debouncer) (c : Contact),
     (d.last = none →
       d.changes c = false ∧
         d.sampled c =
           { d with position := c, last := some c, run := 1, locked := decide (c = .down) }) ∧
     (∀ x, d.last = some x →
       let run := if x = c then min 4 (d.run + 1) else 1
       d.sampled c = { d with last := some c, run := run } ∧
         (d.changes c = true ↔ run = 4 ∧ d.position ≠ c))) ∧
  (∀ (s : State) (b : Button) (samples : List Contact), s.powered = true →
     NoneChanges (s.button b) samples →
     let d := (s.button b).after samples
     let read := s.input.overrun = .clearRead ∨ s.input.overrun = .raisedAfterRead
     let queued (e : ButtonEvent) (i : Input) : Input :=
       if s.input.events.length < 7 then { i with events := s.input.events ++ [e] }
       else { i with overrun := if read then .raisedAfterRead else .raised }
     let down : Input :=
       { s.input with
         buttons :=
           s.input.buttons.set b.ix
             { position := .down, last := some .down, run := 4, hold := some 2000
               holdGiven := false, locked := d.locked }
         longTimer :=
           if d.locked = false ∧
               ((b = .check ∧ (s.button .reset).position = .down ∧
                   (s.button .reset).locked = false) ∨
                 (b = .reset ∧ (s.button .check).position = .down ∧
                   (s.button .check).locked = false)) then some 10000
           else s.input.longTimer }
     let up : Input :=
       { s.input with
         buttons :=
           s.input.buttons.set b.ix
             { position := .up, last := some .up, run := 4, hold := none
               holdGiven := d.holdGiven, locked := false }
         longTimer := if b = .check ∨ b = .reset then none else s.input.longTimer }
     (samples ≠ [] →
       Answers (.buttonPositionChange b samples) s
         (s.setInput { s.input with buttons := s.input.buttons.set b.ix d })) ∧
     Answers (.buttonPositionChange b []) s
       (s.setInput
         { s.input with
           overrun := if s.input.overrun = .clear then .clearRead else s.input.overrun }) ∧
     (d.changes .down = true →
       Answers (.buttonPositionChange b (samples ++ [.down])) s
         (s.setInput (if d.locked then down else queued (.press b) down))) ∧
     (d.changes .up = true →
       Answers (.buttonPositionChange b (samples ++ [.up])) s
         (s.setInput
           (if d.locked then up
            else queued (if d.holdGiven then .releaseAfterHold b else .release b) up)))) ∧
  (∀ (s : State) (b : Button), s.powered = true →
     let read := s.input.overrun = .clearRead ∨ s.input.overrun = .raisedAfterRead
     let queued (e : ButtonEvent) (i : Input) : Input :=
       if s.input.events.length < 7 then { i with events := s.input.events ++ [e] }
       else { i with overrun := if read then .raisedAfterRead else .raised }
     ((s.button b).hold.isSome = true →
       Answers (.buttonHoldTimerExpiry b) s
         (s.setInput
           (queued (.hold b)
             { s.input with
               buttons :=
                 s.input.buttons.set b.ix
                   { s.button b with hold := none, holdGiven := true } }))) ∧
     (s.input.longTimer.isSome = true →
       Answers .longTimerExpiry s
         (s.setInput (queued .long { s.input with longTimer := none }))))

/-! ## The Message Centre (chapter 10) -/

/-- The buttons of the item display in RUN: with it on show MODE PRESS takes the next item in its order, SET PRESS
sets the trip-step mark, RESET PRESS does nothing, SET RELEASE with the mark takes the next trip and SET HOLD with it
enters clock-set mode at the clock's time. With another display on show, or without the mark, SET RELEASE and SET HOLD
do nothing but that both clear the mark; and MODE, SET and RESET PRESS under a warning or a peer text do nothing. A
PRESS puts its button in the down-set, and a RELEASE takes it out. The event leaves the queue with its overrun notice
(log entries 43 and 60), the display record is composed anew and its send may begin, and nothing else changes. -/
def Obligations.ItemDisplayButtons : Prop :=
  ∀ (s : State) (rest : List ButtonEvent), s.power.state = .run →
    let u := s.noticed
    let down (b : Button) : MessageCentre := { u.msc with downSet := downWith b u.msc.downSet }
    let next (i : Item) : Item :=
      match i with
      | .distance => .average | .average => .speed | .speed => .time | .time => .fuel
      | .fuel => .range | .range => .instant | .instant => .clock | .clock => .distance
    let unmarked : MessageCentre := { u.msc with mark := false }
    let released : MessageCentre :=
      { unmarked with downSet := u.msc.downSet.filter (fun b => b ≠ .set) }
    (s.input.events = .press .mode :: rest →
      (u.shown = .item → EventTaken .modePress s rest { down .mode with item := next u.msc.item }) ∧
      (Covered u → EventTaken .modePress s rest (down .mode))) ∧
    (s.input.events = .press .set :: rest →
      (u.shown = .item → EventTaken .setPress s rest { down .set with mark := true }) ∧
      (Covered u → EventTaken .setPress s rest (down .set))) ∧
    (s.input.events = .press .reset :: rest →
      u.shown = .item ∨ Covered u → EventTaken .resetPress s rest (down .reset)) ∧
    (s.input.events = .release .set :: rest →
      (u.shown = .item → u.msc.mark = true →
        EventTaken .setRelease s rest
          { released with
            trip :=
              match u.msc.trip with
              | .a => .b
              | .b => .journey
              | .journey => .a }) ∧
      (u.shown ≠ .item ∨ u.msc.mark = false → EventTaken .setRelease s rest released)) ∧
    (s.input.events = .hold .set :: rest →
      (u.shown = .item → u.msc.mark = true →
        EventTaken .setHold s rest
          { unmarked with clockSet := some (s.clock.hour, s.clock.minute) }) ∧
      (u.shown ≠ .item ∨ u.msc.mark = false → EventTaken .setHold s rest unmarked))

/-- With clock-set mode on show in RUN: MODE PRESS steps the hour, RESET PRESS the minute, and SET PRESS sets the
clock to the time shown with second 0, its day kept, and makes it valid: CLUSTER_TIME is offered, and a clock that was
not valid ends CLOCK_UNSET and fills the absent due days. With a review on show each of the three ends it. Each puts
its button in the down-set, and the first two and the end of a review do nothing else. The event leaves the queue with
its overrun notice (log entries 43 and 60), and the display record is composed anew. Conditions of warnings, and their
definitions, are as the pattern memory holds them (log entry 63). -/
def Obligations.ClockSetAndReviewButtons : Prop :=
  ∀ (s : State) (rest : List ButtonEvent), s.power.state = .run →
    let u := s.noticed
    let down (b : Button) : MessageCentre := { u.msc with downSet := downWith b u.msc.downSet }
    (∀ h m, u.shown = .clockSet h m →
      (s.input.events = .press .mode :: rest →
        EventTaken .modePress s rest { down .mode with clockSet := some ((h + 1) % 24, m) }) ∧
      (s.input.events = .press .reset :: rest →
        EventTaken .resetPress s rest { down .reset with clockSet := some (h, (m + 1) % 60) }) ∧
      (s.input.events = .press .set :: rest →
        ∃ t, Answers .setPress s t ∧
          Touches [.link, .input, .odo, .stc, .wnu, .sru, .clock, .msc, .seq, .draw] s t ∧
          t.input = { u.input with events := rest } ∧
          Redrawn { down .set with clockSet := none } t ∧
          t.clock =
            { s.clock with hour := h, minute := m, second := 0, prescaler := 0, valid := true } ∧
          ClockReported s t)) ∧
    (∀ l c b, u.shown = .review l →
      (c, b) ∈ [(Instr.modePress, Button.mode), (.setPress, .set), (.resetPress, .reset)] →
      s.input.events = .press b :: rest →
      EventTaken c s rest { down b with review := none, reviewTimer := none })

/-- RESET HOLD in RUN with a trip item on show and CHECK up resets the selected trip: 0 distance, fuel and
time, its start at the present total (as 32 bits hold it, log entry 15) and stamp, fuel_gap clear. A reset of JOURNEY
carries the drive's growth, at most 9,999,999 m (the model's choice, log entry 37). With another item or another
display on show, or CHECK down, it does nothing: the event leaves the queue, with its overrun notice (log entries 43
and 60), the display record is composed anew, and nothing else changes. -/
def Obligations.ResetHoldResetsTrip : Prop :=
  ∀ (s : State) (rest : List ButtonEvent), s.power.state = .run →
    s.input.events = .hold .reset :: rest →
    let u := s.noticed
    (TripResetOnShow u →
      ∃ t, Answers .resetHold s t ∧ Touches [.input, .trc, .sru, .msc] s t ∧
        t.input = { u.input with events := rest } ∧ Redrawn u.msc t ∧
        ∃ held, Held32 s.odo.total held ∧
        let fresh : TripRecord :=
          { distance := 0, fuel := 0, run := 0, startOdometer := held,
            startStamp := s.clock.stamp, fuelGap := false, awaiting := false }
        (s.msc.trip = .a → t.trc = { s.trc with tripA := fresh } ∧ t.sru = s.sru) ∧
        (s.msc.trip = .b → t.trc = { s.trc with tripB := fresh } ∧ t.sru = s.sru) ∧
        (s.msc.trip = .journey →
          t.trc = { s.trc with journey := fresh } ∧
          t.sru =
            { s.sru with
              drive :=
                s.sru.drive.map (fun d =>
                  { d with
                    carried := min 9999999 (d.carried + (s.trc.journey.distance - d.baseline))
                    baseline := 0 }) })) ∧
    (¬TripResetOnShow u → EventTaken .resetHold s rest u.msc)

/-- An acknowledgement, by CHECK PRESS in RUN or COURTESY of the head unacknowledged warning, by its 4 s or by its 8 s
display timer: ACTIVE becomes ACKNOWLEDGED, a CRITICAL one with 60 s to its re-announcement; in CLEARING the held
state becomes ACKNOWLEDGED. The warning keeps its place in the list, its waiting chime is removed and its continuous
pattern ends; a one-shot pattern goes on. No other warning changes state. A warning's definition is as the pattern
memory holds it (log entry 63). -/
def Obligations.AcknowledgementTakesWarning : Prop :=
  ∀ (s : State) (n : Warning) (c : Instr), WarningInv s → (s.wnu.record n).unacknowledged = true →
    ((∃ rest, c = .checkPress ∧ s.awake = true ∧ s.input.events = .press .check :: rest ∧
        s.wnu.headUnacknowledged = some n) ∨
      (c = .autoAcknowledgeExpiry n ∧ s.powered = true ∧ (s.wnu.record n).autoAck.isSome = true) ∨
      (c = .serviceDisplayTimerExpiry n ∧ s.powered = true ∧
        (s.wnu.record n).display.isSome = true)) →
    ∃ t, Answers c s t ∧ Touches [.input, .wnu, .msc] s t ∧
      ((s.wnu.record n).state = .active →
        t.wnu.record n =
          { s.wnu.record n with
            state := .acknowledged, autoAck := none, display := none
            reannounce := if s.classOf n = 0 then some 60000 else none }) ∧
      ((s.wnu.record n).state = .clearing →
        t.wnu.record n =
          { s.wnu.record n with heldAck := true, autoAck := none, display := none }) ∧
      (∀ m, m ≠ n → (t.wnu.record m).state = (s.wnu.record m).state ∧
        (t.wnu.record m).heldAck = (s.wnu.record m).heldAck) ∧
      t.wnu.list = s.wnu.list ∧ t.wnu.log = s.wnu.log ∧ t.wnu.counts = s.wnu.counts ∧
      t.wnu.chimes = s.wnu.chimes.filter (fun q => q.source ≠ .warning n) ∧
      (∀ r, s.wnu.tone = .sounding r → r.source = .warning n → r.pattern.continuous = true →
        t.wnu.tone = .spacing) ∧
      ((∀ r, s.wnu.tone = .sounding r → r.source ≠ .warning n ∨ r.pattern.continuous = false) →
        t.wnu.tone = s.wnu.tone)

/-- The display and its timers. The lamps are off while the part is off, asleep or ends COURTESY, all on in the lamp
test, and otherwise each shows whether a warning mapped to it is not INACTIVE. The record composed is blank until the
configuration step and from the end of COURTESY on; otherwise it shows the head unacknowledged warning, blinking if
CRITICAL, else the peer text, the review, the time being set, or the selected item, whose fields stand as R168 gives
them (the start time of TIME at the right, the model's choice, log entry 50). CHECK HOLD in RUN outside clock-set
mode, RESET up, starts a review of the active list for 2 s, and in clock-set mode or with RESET down it does nothing;
REVIEW_TIMER_EXPIRY shows the next warning of the copy in
the list for 2 s (one that has joined it again too, the model's choice, log entry 52), or ends the review;
PEER_TEXT_TIMER_EXPIRY ends the text; LAMP_TEST_EXPIRY ends the lamp test; DISPLAY_SEND_END sends the record as it
stands if it differs from the one last sent. The definitions and the texts are as the pattern memory holds them (log
entry 63). -/
def Obligations.DisplayTimersEnd : Prop :=
  (∀ s : State,
    (∀ rest, s.power.state = .run → s.input.events = .hold .check :: rest →
      let u := s.noticed
      let discarded : Prop := (∃ h m, u.shown = .clockSet h m) ∨ Button.reset ∈ u.msc.downSet
      (¬discarded →
        EventTaken .checkHold s rest
          { u.msc with review := some s.wnu.list, reviewTimer := some 2000 }) ∧
      (discarded → EventTaken .checkHold s rest u.msc)) ∧
    (∀ copy, s.powered = true → s.msc.review = some copy → s.msc.reviewTimer.isSome = true →
      ∃ t, Answers .reviewTimerExpiry s t ∧ Touches [.msc] s t ∧
        (∀ p m q, copy.tail = p ++ m :: q → (∀ x ∈ p, x ∉ s.wnu.list) → m ∈ s.wnu.list →
          t.msc.review = some (m :: q) ∧ t.msc.reviewTimer = some 2000) ∧
        ((∀ x ∈ copy.tail, x ∉ s.wnu.list) → t.msc.review = none ∧ t.msc.reviewTimer = none)) ∧
    (s.powered = true → s.msc.peerTimer.isSome = true →
      ∃ t, Answers .peerTextTimerExpiry s t ∧ Touches [.msc] s t ∧ t.msc.peerText = none ∧
        t.msc.peerTimer = none) ∧
    (s.msc.lampTest = .running →
      Answers .lampTestExpiry s (s.setMsc { s.msc with lampTest := .ended, lampTimer := none })) ∧
    (s.powered = true → s.msc.sending = true →
      Answers .displaySendEnd s
        (s.setMsc
          { s.msc with
            composed := compose s, lastSent := some (compose s)
            sending := decide (s.msc.lastSent ≠ some (compose s)) }))) ∧
  (∀ (s : State) (l : Lamp),
    (s.powered = false ∨ s.power.endPhase ≠ .none → s.lampOutput l = false) ∧
    (s.powered = true → s.power.endPhase = .none → s.msc.lampTest = .running →
      s.lampOutput l = true) ∧
    (s.powered = true → s.power.endPhase = .none → s.msc.lampTest ≠ .running →
      (s.lampOutput l = true ↔ ∃ n : Warning, (s.definition n).lamp = some l ∧ (s.wnu.record n).state ≠ .inactive))) ∧
  (∀ s : State,
    let d := compose s
    let blank : Prop :=
      (s.power.state = .starting ∧ s.power.configured = false) ∨ s.power.endPhase ≠ .none
    let line (cs : List Char) : List Char := (cs ++ List.replicate 16 ' ').take 16
    let hhmm (h m : Nat) : List Char :=
      [digitChar (h / 10), digitChar h, ':', digitChar (m / 10), digitChar m]
    let head := s.wnu.list.find? (fun n => (s.wnu.record n).unacknowledged)
    (d.low = true ↔
      (s.signal .headlampSw).state = .fresh ∧ (s.signal .headlampSw).value = some 1) ∧
    (blank → d.text = List.replicate 16 ' ' ∧ d.blink = false) ∧
    (∀ w, ¬blank → head = some w → d.text = line (s.definition w).text ∧ d.blink = decide (s.classOf w = 0)) ∧
    (¬blank → head = none →
      d.blink = false ∧
      (∀ x, s.msc.peerText = some x → d.text = line (s.peerChars x.text)) ∧
      (s.msc.peerText = none →
        (∀ w ws, s.msc.review = some (w :: ws) → d.text = line (s.definition w).text) ∧
        (s.msc.review = some [] →
          d.text = line s.noWarningsText) ∧
        (∀ h m, s.msc.review = none → s.msc.clockSet = some (h, m) →
          d.text = line (s.setClockText ++ [' '] ++ hhmm h m)) ∧
        (s.msc.review = none → s.msc.clockSet = none →
          ItemText s d.text)))) ∧
  (∀ n, n < 10 ^ 20 →
    (∀ c ∈ decimal n, 48 ≤ c.toNat ∧ c.toNat ≤ 57) ∧
      (decimal n).foldl (fun a c => 10 * a + (c.toNat - 48)) 0 = n ∧
      ((decimal n).head? = some '0' → n = 0)) ∧
  decimal 0 = ['0'] ∧ ∀ n, (digitChar n).toNat = 48 + n % 10

/-- CHECK+RESET LONG in RUN or COURTESY restarts the panel: a WARM start held for 50 ms, that keeps the clock, the
trips, the log, the link counters, the pending distance, the selection, the pattern memory with the mark of its bad
cells and the keep-alive signature, with the queues, the active list and the store's jobs empty and every gauge
UNHOMED. -/
def Obligations.LongRestartsThePanel : Prop :=
  ∀ (s : State) (rest : List ButtonEvent), s.awake = true → s.input.events = .long :: rest →
    ∃ t, Answers .checkResetLong s t ∧ t.power.state = .starting ∧ t.power.kind = .warm ∧
      t.power.step = .hold ∧ t.power.restartHold = some 50 ∧ t.power.configured = false ∧
      t.power.patternMemory = s.power.patternMemory ∧
      t.power.patternSpoiled = s.power.patternSpoiled ∧ t.power.signature = s.power.signature ∧
      t.link.listening = false ∧ t.link.txQueue = [] ∧ t.link.ring = [] ∧
      t.link.counters = s.link.counters ∧ t.clock = s.clock ∧ t.trc.tripA = s.trc.tripA ∧
      t.trc.tripB = s.trc.tripB ∧ t.trc.journey = s.trc.journey ∧ t.trc.window = s.trc.window ∧
      t.odo.pending = s.odo.pending ∧ t.odo.verified = s.odo.verified ∧ t.odo.resolved = false ∧
      t.odo.commit = .clear ∧ t.stc.active = none ∧ t.stc.waitOdometer = none ∧
      t.stc.waitService = [] ∧ t.stc.waitConfiguration = false ∧ t.wnu.log = s.wnu.log ∧
      t.wnu.counts = s.wnu.counts ∧ t.wnu.list = [] ∧ t.wnu.chimes = [] ∧ t.wnu.tone = .silent ∧
      t.msc.trip = s.msc.trip ∧ t.msc.item = s.msc.item ∧ t.rqs.lastError = s.rqs.lastError ∧
      t.input.events = [] ∧ t.input.residue = s.input.residue ∧
      (∀ g, (t.gauge g).state = .unhomed) ∧ ∀ g, (t.signal g).state = .never

/-- An event with no action in the present state is discarded by IGNORED_BUTTON_EVENT, and so it is by the command of
its own name, where it has one: in STARTING every event, in COURTESY every one but CHECK PRESS and LONG, and in RUN
those of the cells of R171 that are empty, 'nothing' or 'discarded', and those not in its table. A CHECK PRESS with no
warning to acknowledge changes nothing either. An overrun notice is taken first: it ends clock-set mode, clears the
mark and empties the down-set. The down-set then follows the event in RUN and COURTESY, and a release or hold of SET
clears the mark there; no other event changes the mark, a SET PRESS in COURTESY neither (the model's choice, log entry
51), and in STARTING neither changes (read by inference, log entry 36). The display record is composed anew, and
nothing else changes. A flag that was raised in the moment of the taking and after its reading (log entry 43) gives no
notice now and stays for the next taking; one that was set at the reading gives its notice and is then clear, whatever
was dropped between (the model's choice, log entry 60). -/
def Obligations.EventsWithoutActionAreDiscarded : Prop :=
  ∀ (s : State) (e : ButtonEvent) (rest : List ButtonEvent), s.input.events = e :: rest →
    let u := s.noticed
    let clears : Prop := e = .release .set ∨ e = .hold .set ∨ e = .releaseAfterHold .set
    (NoAction e u →
      ∀ c, c = .ignoredButtonEvent ∨ ownCommand e = some c →
        EventTaken c s rest
          (if s.power.state = .starting then u.msc
           else
             { u.msc with
               downSet := downAfter e u.msc.downSet
               mark := if clears then false else u.msc.mark })) ∧
    (e = .press .check → s.awake = true →
      (∀ n ∈ s.wnu.list, (s.wnu.record n).unacknowledged = false) →
      EventTaken .checkPress s rest { u.msc with downSet := downWith .check u.msc.downSet }) ∧
    (s.input.overrun = .raised →
      u.input.overrun = .clear ∧
        u.msc = { s.msc with clockSet := none, mark := false, downSet := [] }) ∧
    (s.input.overrun ≠ .raised →
      u.msc = s.msc ∧
        u.input.overrun = (if s.input.overrun = .raisedAfterRead then .raised else .clear))

/-! ## The Gauge Drive (chapter 4) -/

/-- HOMING_STEP and HOMING_LIFT_STEP, at all times but where they complete a park: a step down with the contact open
goes on until span + 32 steps, then the gauge lifts 64 steps to its next attempt, and after the third is FAULTED at
the position it had reached, its coils off, with its code 21h to 26h; a contact closed after a step down, or at the
beginning of an attempt, ends the homing at 0, in PARKED while a park is in force, in a sweep by the marks and the
ignition, and in TRACKING otherwise. Conditions of warnings, and their definitions, are as the pattern memory holds
them (log entry 63). -/
def Obligations.HomingFindsZero : Prop :=
  ∀ (s : State) (g : GaugeId), (s.gauge g).state = .homing →
    (s.power.endPhase = .parking →
      ∃ h, h ≠ g ∧ (s.gauge h).state ≠ .parked ∧ (s.gauge h).state ≠ .faulted) →
    0 < s.span g →
    let r := s.gauge g
    let moved : Gauge := { r with position := r.position - 1, steps := r.steps + 1 }
    let on := (s.input.filters[SwitchLine.ignition.ix]).level = .active
    let closes (c : Instr) : Prop :=
      ∃ t, Answers c s t ∧ Touches [.gdu, .msc] s t ∧
        (∀ h, h ≠ g → t.gauge h = s.gauge h) ∧ (t.gauge g).position = 0 ∧
        (t.gauge g).lift = none ∧ (t.gauge g).testMark = false ∧
        (s.gdu.parkInForce = true →
          (t.gauge g).state = .parked ∧ (t.gauge g).motion = .atRest ∧ t.coilOutput g = false) ∧
        (s.gdu.parkInForce = false → (r.sweepMark = true ∧ on) ∨ r.testMark = true →
          (t.gauge g).state = .sweep ∧ (t.gauge g).phase = .toSpan ∧
            (t.gauge g).motion = .movingUp ∧ (t.gauge g).target = r.target) ∧
        (s.gdu.parkInForce = false → ¬((r.sweepMark = true ∧ on) ∨ r.testMark = true) →
          (t.gauge g).state = .tracking ∧ (t.gauge g).target = r.target ∧
            (t.gauge g).motion =
              if r.target ≤ s.settings.deadband then .atRest else .movingUp)
    (r.lift = none → r.steps + 1 < s.span g + 32 →
      Answers (.homingStep g false) s (s.setGauge g moved)) ∧
    (r.lift = none → s.span g + 32 ≤ r.steps + 1 → r.attempt ≤ 2 →
      ∃ t, Answers (.homingStep g false) s t ∧ Touches [.gdu, .msc] s t ∧
        t.gdu = (s.setGauge g { moved with lift := some 0 }).gdu) ∧
    (r.lift = none → s.span g + 32 ≤ r.steps + 1 → r.attempt = 3 →
      ∃ t, Answers (.homingStep g false) s t ∧
        Touches [.link, .gdu, .wnu, .msc, .rqs, .seq, .draw] s t ∧
        t.gauge g = { moved with state := .faulted, motion := .atRest, ramp := 0 } ∧
        t.coilOutput g = false ∧
        (∀ h, h ≠ g → t.gauge h = s.gauge h) ∧
        t.rqs = { s.rqs with lastError := BitVec.ofNat 8 (0x21 + g.ix.val) } ∧
        (s.powered = true → WarningsMoved [.gaugeFault] [] s t)) ∧
    (r.lift = none → closes (.homingStep g true)) ∧
    (∀ k closed, r.lift = some k → k < 63 →
      Answers (.homingLiftStep g closed) s
        (s.setGauge g
          { r with position := min (s.span g) (r.position + 1), lift := some (k + 1) })) ∧
    (r.lift = some 63 →
      Answers (.homingLiftStep g false) s
        (s.setGauge g
          { r with
            position := min (s.span g) (r.position + 1), attempt := r.attempt + 1, steps := 0
            lift := none }) ∧
      closes (.homingLiftStep g true))

/-- The motion of a gauge, at all times but where it completes a park. At rest in TRACKING it leaves for a
target beyond the deadband. A step moves it by one within its span with the ramp count rising to 8; it rests
at its target, goes on toward it, or makes the reversal rest past it; an arrival at 0 with the contact open
sends it to HOMING with the sweep mark clear, at rest from the entry on (the model's choice, log entry 44). The
reversal rest lasts 4 periods. A sweep is driven to the span, rests there, is driven back by SWEEP_REST_END,
and ends in TRACKING at a closed contact at 0. A PARKING gauge is driven to 0, by a reversal rest if it moved
up, and is PARKED there; that the rest of one at 0 ends in PARKED is read from R81 by inference (log entry 25). -/
def Obligations.MotionFollowsTarget : Prop :=
  ∀ (s : State) (g : GaugeId) (closed : Bool),
    (s.power.endPhase = .parking →
      ∃ h, h ≠ g ∧ (s.gauge h).state ≠ .parked ∧ (s.gauge h).state ≠ .faulted) →
    0 < s.span g →
    let r := s.gauge g
    let away := s.settings.deadband < (r.position - r.target) + (r.target - r.position)
    let stepped : Gauge :=
      { r with
        position := if r.motion = .movingUp then min (s.span g) (r.position + 1) else r.position - 1
        ramp := min 8 (r.ramp + 1) }
    let homing (x : Gauge) : Gauge :=
      { x with
        state := .homing, motion := .atRest, ramp := 0, position := s.span g, rest := 0
        attempt := 1, steps := 0, lift := none, sweepMark := false, testMark := false }
    let becomes (c : Instr) (x : Gauge) : Prop :=
      ∃ t, Answers c s t ∧ Touches [.gdu, .msc] s t ∧ t.gdu = (s.setGauge g x).gdu
    (r.state = .tracking → r.motion = .atRest →
      (¬away → becomes (.gaugeRestBoundary g) r) ∧
      (away → r.position < r.target →
        becomes (.gaugeRestBoundary g) { r with motion := .movingUp, ramp := 0 }) ∧
      (away → r.target < r.position →
        becomes (.gaugeRestBoundary g) { r with motion := .movingDown, ramp := 0 })) ∧
    (r.state = .tracking → r.motion = .movingUp ∨ r.motion = .movingDown →
      (stepped.position = 0 → closed = false →
        becomes (.gaugeStepEnd g closed) (homing stepped)) ∧
      (stepped.position ≠ 0 ∨ closed = true → stepped.position = r.target →
        becomes (.gaugeStepEnd g closed) { stepped with motion := .atRest, ramp := 0 }) ∧
      (stepped.position ≠ 0 ∨ closed = true →
        (r.motion = .movingUp ∧ stepped.position < r.target) ∨
          (r.motion = .movingDown ∧ r.target < stepped.position) →
        becomes (.gaugeStepEnd g closed) stepped) ∧
      (stepped.position ≠ 0 ∨ closed = true →
        (r.motion = .movingUp ∧ r.target < stepped.position) ∨
          (r.motion = .movingDown ∧ stepped.position < r.target) →
        becomes (.gaugeStepEnd g closed) { stepped with motion := .reversalRest, rest := 0 })) ∧
    (r.motion = .reversalRest → r.rest ≤ 2 →
      becomes (.reversalRestBoundary g) { r with rest := r.rest + 1 }) ∧
    (r.state = .tracking → r.motion = .reversalRest → r.rest = 3 →
      (¬away →
        becomes (.reversalRestBoundary g) { r with rest := 4, motion := .atRest, ramp := 0 }) ∧
      (away →
        becomes (.reversalRestBoundary g)
          { r with
            rest := 4, ramp := 0
            motion := if r.position < r.target then .movingUp else .movingDown })) ∧
    (r.state = .sweep → r.phase = .toSpan → r.position ≤ s.span g →
      (r.motion = .movingUp → r.position + 1 < s.span g →
        becomes (.gaugeStepEnd g closed) stepped) ∧
      (r.motion = .movingUp → r.position + 1 = s.span g →
        becomes (.gaugeStepEnd g closed)
          { r with position := s.span g, motion := .atRest, ramp := 0, phase := .atSpan }) ∧
      (r.motion = .movingDown →
        becomes (.gaugeStepEnd g closed) { stepped with motion := .reversalRest, rest := 0 }) ∧
      (r.motion = .reversalRest → r.rest = 3 → r.position < s.span g →
        becomes (.reversalRestBoundary g) { r with rest := 4, ramp := 0, motion := .movingUp })) ∧
    (r.state = .sweep → r.phase = .atSpan →
      becomes (.sweepRestEnd g) { r with phase := .toZero, motion := .movingDown, ramp := 0 }) ∧
    (r.state = .sweep → r.phase = .toZero → r.motion = .movingDown →
      (2 ≤ r.position → becomes (.gaugeStepEnd g closed) stepped) ∧
      (r.position = 1 → closed = true →
        becomes (.gaugeStepEnd g closed)
          { r with
            position := 0, ramp := 0, state := .tracking
            motion := if r.target ≤ s.settings.deadband then .atRest else .movingUp }) ∧
      (r.position = 1 → closed = false → becomes (.gaugeStepEnd g closed) (homing r))) ∧
    (r.state = .parking →
      let parked : Gauge :=
        { r with position := 0, motion := .atRest, ramp := 0, state := .parked, target := 0 }
      (r.motion = .atRest → 0 < r.position →
        becomes (.gaugeRestBoundary g) { r with motion := .movingDown, ramp := 0 }) ∧
      (r.motion = .atRest → r.position = 0 → becomes (.gaugeRestBoundary g) parked) ∧
      (r.motion = .movingDown → 2 ≤ r.position → becomes (.gaugeStepEnd g closed) stepped) ∧
      (r.motion = .movingDown → r.position = 1 → becomes (.gaugeStepEnd g closed) parked) ∧
      (r.motion = .movingUp →
        becomes (.gaugeStepEnd g closed) { stepped with motion := .reversalRest, rest := 0 }) ∧
      (r.motion = .reversalRest → r.rest = 3 → 0 < r.position →
        becomes (.reversalRestBoundary g) { r with rest := 4, ramp := 0, motion := .movingDown }) ∧
      (r.motion = .reversalRest → r.rest = 3 → r.position = 0 →
        becomes (.reversalRestBoundary g) { parked with rest := 4 }))

/-! ## The broadcast timers (chapter 2) -/

/-- The three broadcast timers start again in RUN and offer their frames: CLUSTER_DISTANCE once the odometer is
resolved, with the total and the speed or FFFFh; CLUSTER_WARNINGS with one flag for each warning and the smallest
class number on the list or FFh; REAR_SUMMARY while station 5 is PRESENT, with JOURNEY's distance and minutes, the
range or FFFFh, and its three flags. A warning's definition is as the pattern memory holds it (log entry 63). -/
def Obligations.BroadcastTimersOffer : Prop :=
  ∀ s : State, s.power.state = .run →
    (s.odo.distTimer.isSome = true →
      let u := s.setOdo { s.odo with distTimer := some 500 }
      (s.odo.resolved = false → Answers .clusterDistanceTimerExpiry s u) ∧
      (s.odo.resolved = true →
        ∃ f, DistanceFrame s f ∧ Answers .clusterDistanceTimerExpiry s (offer f u))) ∧
    (s.wnu.broadcastTimer.isSome = true → WarningInv s →
      ∃ f, WarningsFrame s f ∧
        Answers .clusterWarningsTimerExpiry s
          (offer f (s.setWnu { s.wnu with broadcastTimer := some 2000 }))) ∧
    (s.trc.rearTimer.isSome = true →
      let u := s.setTrc { s.trc with rearTimer := some 2000 }
      ((s.link.roster[(4 : Fin 14)]).presence = .present →
        ∃ f, RearFrame s f ∧ Answers .rearSummaryTimerExpiry s (offer f u)) ∧
      ((s.link.roster[(4 : Fin 14)]).presence ≠ .present →
        Answers .rearSummaryTimerExpiry s u))

/-! ## The store (chapter 6) -/

/-- STORE_UNIT_COMPLETE. The memory holds what was read back (the model's choice, log entry 20). Read back as sent,
STORE_FAULT clears and the next unit or the end of the job follows: an odometer job sets the committed total and
CLEAR, or a new commit; a service job cleans the items still as written; a configuration job is WRITTEN. Otherwise the
unit is written once more, and a second mismatch fails the job with 11h and STORE_FAULT: an odometer job is DEFERRED
by one commit interval, a configuration job FAILED, and of a service job the items verified before are clean. The
RESET SERVICE whose contents a service job carries is answered at its end, 0 if its record was verified, which is the
model's reading for a job that fails later (log entry 27), and 1 otherwise. At the end of a job the next waiting one
begins: the odometer job, with which the commit becomes WRITING, before the service job, and that before the
configuration job, which takes the staging image; so does one wherever the port is free. In SAVING the end of a job
that leaves none orders the park. Conditions of warnings, and their definitions, are as the pattern memory holds them (log entry
63). -/
def Obligations.StoreUnitEnds : Prop :=
  (∀ s : State,
    (s.stc.portOpen = true → s.stc.active = none →
      StoreBegins s.stc s.rqs.staging (stcBegin s).stc ∧
        (stcBegin s).odo =
          if s.stc.waitOdometer.isSome then { s.odo with commit := .writing } else s.odo) ∧
    (s.stc.portOpen = false ∨ s.stc.active.isSome = true → stcBegin s = s)) ∧
  ∀ (s : State) (a : ActiveJob) (u : Nat × List Byte) (rb : List Byte), StoreInv s → CommitInv s →
    s.stc.active = some a → a.current = some u → rb.length = u.2.length →
    s.stc.portOpen = true →
    let saving := s.power.state = .courtesy ∧ s.power.endPhase = .saving
    (saving → ∃ g, ((s.gauge g).state = .tracking ∨ (s.gauge g).state = .sweep) ∧
      0 < (s.gauge g).position) →
    let verified := rb = u.2 ∧ a.unit + 1 = a.job.units.length
    let failed := rb ≠ u.2 ∧ a.repeated = true
    ∃ t, Answers (.storeUnitComplete rb) s t ∧
      Touches [.power, .link, .gdu, .odo, .stc, .wnu, .sru, .msc, .rqs, .store, .seq, .draw] s t ∧
      (∀ x, x < u.1 ∨ u.1 + rb.length ≤ x → t.store.read x = s.store.read x) ∧
      (MemoryInv s → ∀ i, (h : i < rb.length) → t.store.read (u.1 + i) = rb[i]) ∧
      (rb ≠ u.2 → a.repeated = false →
        t.stc = { s.stc with active := some { a with repeated := true } } ∧ t.odo = s.odo ∧
          t.sru = s.sru ∧ t.rqs = s.rqs ∧ t.power = s.power ∧ t.gdu = s.gdu) ∧
      (rb = u.2 → a.unit + 1 < a.job.units.length →
        t.stc =
          { s.stc with active := some { a with unit := a.unit + 1, repeated := false }, fault := false } ∧
          t.odo = s.odo ∧ t.sru = s.sru ∧ t.rqs = s.rqs ∧ t.power = s.power ∧ t.gdu = s.gdu) ∧
      (verified →
        t.stc.fault = false ∧
        (∀ w m slot, a.job = .odometer w m slot →
          let left := s.odo.pending - (w - s.odo.committed)
          t.odo.committed = w ∧ t.odo.verified = some w ∧ t.odo.pending = left ∧
            t.stc.writePos = (slot + 1) % 16 ∧
            ((s.odo.saveMark = true ∧ 0 < left) ∨ 1000 * s.settings.commitKm ≤ left →
              t.odo.commit = .writing ∧
                ∃ v, JobHolds t.odo v ∧
                  t.stc =
                    { s.stc with
                      fault := false, writePos := (slot + 1) % 16
                      active :=
                        some
                          { job := .odometer v s.odo.restored ((slot + 1) % 16), unit := 0
                            repeated := false } }) ∧
            (s.odo.saveMark = false ∨ left = 0 → left < 1000 * s.settings.commitKm →
              t.odo.commit = .clear ∧
                StoreBegins
                  { s.stc with active := none, fault := false, writePos := (slot + 1) % 16 }
                  s.rqs.staging t.stc)) ∧
        (∀ es, a.job = .service es → ∀ e ∈ es, (s.item e.item).record = e.record →
          (t.item e.item).dirty = false) ∧
        (∀ image, a.job = .configuration image → t.rqs.writeStatus = .written)) ∧
      (failed →
        t.stc.fault = true ∧ t.rqs.lastError = 0x11 ∧
        (∀ w m slot, a.job = .odometer w m slot →
          t.odo =
            { s.odo with
              commit := .deferred, retryPoint := w + 1000 * s.settings.commitKm, saveMark := false } ∧
            StoreBegins { s.stc with active := none, fault := true, writePos := (slot + 1) % 16 }
              s.rqs.staging t.stc) ∧
        (∀ es, a.job = .service es → ∀ e ∈ es.take a.unit, (s.item e.item).record = e.record →
          (t.item e.item).dirty = false) ∧
        (∀ image, a.job = .configuration image → t.rqs.writeStatus = .failed)) ∧
      (verified ∨ failed →
        (a.job.isOdometer = false →
          StoreBegins { s.stc with active := none, fault := decide failed } s.rqs.staging t.stc ∧
            t.odo =
              if s.stc.waitOdometer.isSome then { s.odo with commit := .writing } else s.odo) ∧
        (∀ es r, a.job = .service es → (∃ e ∈ es, e.carriesReset = true) →
          s.rqs.inService = some r → RoomFor s r.id →
          t.rqs.inService = none ∧
          (verified ∨ (∃ e ∈ es.take a.unit, e.carriesReset = true) →
            Queued t
              { cls := 3, kind := .response, source := s.settings.address
                target := some r.requester, id := r.id, data := [0x00, 0x00] }) ∧
          (failed → (∀ e ∈ es.take a.unit, e.carriesReset = false) →
            Queued t
              { cls := 3, kind := .response, source := s.settings.address
                target := some r.requester, id := r.id, data := [0x00, 0x01] })) ∧
        (saving → t.stc.active = none →
          t.power = { s.power with endPhase := .parking, saveWait := none } ∧
            t.gdu.parkInForce = true ∧
            ∀ g, (s.gauge g).state = .tracking ∨ (s.gauge g).state = .sweep →
              0 < (s.gauge g).position → (t.gauge g).state = .parking) ∧
        (¬saving ∨ t.stc.active.isSome = true → t.power = s.power ∧ t.gdu = s.gdu)) ∧
      (s.powered = true → t.stc.fault ≠ s.stc.fault → WarningsMoved [.storeFault] [] s t) ∧
      (t.stc.fault = s.stc.fault → ∀ n, Unmoved n s t)

/-! ## The Warning Unit (chapter 7) -/

/-- QUALIFY_TIMER_EXPIRY announces a PENDING warning: ACTIVE, behind every warning of its own or a smaller class
number, counted once, and logged while the log holds fewer than 16, or else counted in LOG_OVERFLOW; its chime sounds
on an IDLE tone. RELEASE_TIMER_EXPIRY makes a CLEARING warning INACTIVE: it leaves the list, its waiting chime is
removed, and its sounding pattern ends. Each offers CLUSTER_WARNINGS of the list as it then stands. A warning's
definition is as the pattern memory holds it (log entry 63). -/
def Obligations.WarningsAnnounceAndLeave : Prop :=
  ∀ (s : State) (n : Warning), WarningInv s → s.powered = true →
    ((s.wnu.record n).state = .pending →
      ∃ t, Answers (.qualifyTimerExpiry n) s t ∧ Touches [.link, .wnu, .msc, .seq] s t ∧
        (t.wnu.record n).state = .active ∧ (t.wnu.record n).timer = none ∧
        (RoomFor s 0x62 → ∃ f, WarningsFrame t f ∧ Queued t f) ∧
        (∀ m, m ≠ n → (t.wnu.record m).state = (s.wnu.record m).state) ∧
        (∃ p q, s.wnu.list = p ++ q ∧ t.wnu.list = p ++ n :: q ∧ (∀ m ∈ q, s.classOf n < s.classOf m) ∧
          (∀ m, p.getLast? = some m → s.classOf m ≤ s.classOf n) ∧
          (AsMade s → ∀ m ∈ p, m.cls ≤ n.cls)) ∧
        (∀ m : Warning,
          t.wnu.counts[m.ix] =
            if m = n then min (s.wnu.counts[n.ix] + 1) 255 else s.wnu.counts[m.ix]) ∧
        (s.classOf n ≤ 2 → s.wnu.log.length < 16 →
          t.wnu.log =
            s.wnu.log ++ [{ warning := n, stamp := s.clock.stamp, km := s.odo.handedKm }] ∧
          t.wnu.overflow = s.wnu.overflow) ∧
        (s.classOf n ≤ 2 → 16 ≤ s.wnu.log.length →
          t.wnu.log = s.wnu.log ∧ t.wnu.overflow = min (s.wnu.overflow + 1) 255) ∧
        (∀ p, (s.definition n).pattern = some p → s.power.endPhase = .none → s.wnu.tone = .idle →
          s.wnu.chimes = [] →
          ∃ k, t.wnu.tone =
            .sounding { source := .warning n, pattern := p, cls := s.classOf n, entered := k })) ∧
    ((s.wnu.record n).state = .clearing →
      ∃ t, Answers (.releaseTimerExpiry n) s t ∧ Touches [.link, .wnu, .msc, .seq] s t ∧
        t.wnu.record n = inactiveRecord ∧
        (RoomFor s 0x62 → ∃ f, WarningsFrame t f ∧ Queued t f) ∧
        (∀ m, m ≠ n → (t.wnu.record m).state = (s.wnu.record m).state) ∧
        t.wnu.list = s.wnu.list.filter (fun m => m ≠ n) ∧ t.wnu.log = s.wnu.log ∧
        t.wnu.counts = s.wnu.counts ∧
        t.wnu.chimes = s.wnu.chimes.filter (fun q => q.source ≠ .warning n) ∧
        (∀ r, s.wnu.tone = .sounding r → r.source = .warning n → t.wnu.tone = .spacing) ∧
        ((∀ r, s.wnu.tone = .sounding r → r.source ≠ .warning n) → t.wnu.tone = s.wnu.tone))

/-- ENGINE_RUNNING_TIMER_EXPIRY lets a low oil pressure with the engine running qualify for 2 s; LINK_WINDOW_EXPIRY
announces ENGINE_LINK_LOST in RUN if an engine signal is LOST; BELT_WINDOW_EXPIRY takes BELT off the list (CLEARING,
which BELT never enters, apart); with bad cells in the pattern memory the condition as held decides (log entry 63).
Each timer is then stopped. The two windows run on through COURTESY by inference (log entry 33), and a test on a STALE
record without a value is false (the model's choice, log entry 46). Conditions of warnings, and their definitions, are
as the pattern memory holds them (log entry 63). -/
def Obligations.WarningWindowsEnd : Prop :=
  ∀ s : State, WarningInv s → s.powered = true →
    (s.wnu.runningTimer.isSome = true →
      ∃ t, Answers .engineRunningTimerExpiry s t ∧
        Touches [.link, .wnu, .msc, .seq, .draw] s t ∧ t.wnu.runningTimer = none ∧
        t.wnu.runningLong = true ∧ WarningsMoved [.oilPressure] [] s t ∧
        (AsMade s → t.wnu.list = s.wnu.list) ∧
        (AsMade s → (s.wnu.record .oilPressure).state = .inactive → Running s →
          Tested (s.signal .oilP) (· < 30) →
          (t.wnu.record .oilPressure).state = .pending ∧
            (t.wnu.record .oilPressure).timer = some 2000)) ∧
    (s.wnu.linkWindow.isSome = true →
      ∃ t, Answers .linkWindowExpiry s t ∧ Touches [.link, .wnu, .msc, .seq, .draw] s t ∧
        t.wnu.linkWindow = none ∧ WarningsMoved [.engineLinkLost] [] s t ∧
        (AsMade s → s.power.state = .run → (s.wnu.record .engineLinkLost).state = .inactive →
          (∃ g ∈ [Signal.engRpm, .coolantT, .oilP, .engFlags], (s.signal g).state = .lost) →
          (t.wnu.record .engineLinkLost).state = .active ∧ Warning.engineLinkLost ∈ t.wnu.list)) ∧
    (s.wnu.beltWindow.isSome = true →
      ∃ t, Answers .beltWindowExpiry s t ∧ Touches [.link, .wnu, .msc, .seq, .draw] s t ∧
        t.wnu.beltWindow = none ∧ WarningsMoved [.belt] [] s t ∧
        (AsMade s → (s.wnu.record .belt).state ≠ .clearing →
          (t.wnu.record .belt).state = .inactive ∧ Warning.belt ∉ t.wnu.list))

/-- REANNOUNCE_TIMER_EXPIRY: an ACKNOWLEDGED CRITICAL warning is ACTIVE again in its place, neither logged nor
counted, and its chime sounds on an IDLE tone. PATTERN_END of a one-shot pattern begins the spacing, and
SPACING_EXPIRY starts the head request or makes the tone IDLE. A sounding pattern gives its tones, 2,000 and 1,000 Hz,
and its silences in their lengths, and the tone output is silent otherwise. A warning's definition is as the pattern
memory holds it, ALARM of class 0 for a CRITICAL one as made; with bad cells it is the running timer that tells which
re-announces (log entry 63). -/
def Obligations.ReannouncementAndTone : Prop :=
  (∀ s : State,
    (∀ n, WarningInv s → s.powered = true → (s.wnu.record n).state = .acknowledged →
      (s.wnu.record n).reannounce.isSome = true ∨ (AsMade s ∧ n.cls = 0) →
      ∃ t, Answers (.reannounceTimerExpiry n) s t ∧ Touches [.wnu, .msc, .seq] s t ∧
        (t.wnu.record n).state = .active ∧ (t.wnu.record n).reannounce = none ∧
        (∀ m, m ≠ n → (t.wnu.record m).state = (s.wnu.record m).state) ∧
        t.wnu.list = s.wnu.list ∧ t.wnu.log = s.wnu.log ∧ t.wnu.counts = s.wnu.counts ∧
        (∀ p, (s.definition n).pattern = some p → s.power.endPhase = .none → s.wnu.tone = .idle →
          s.wnu.chimes = [] →
          ∃ k, t.wnu.tone =
            .sounding { source := .warning n, pattern := p, cls := s.classOf n, entered := k }) ∧
        (AsMade s → (s.definition n).pattern = some .alarm ∧ s.classOf n = 0)) ∧
    (∀ r, s.wnu.tone = .sounding r → r.pattern.continuous = false →
      Answers .patternEnd s (s.setWnu { s.wnu with tone := .spacing })) ∧
    (s.wnu.tone = .spacing → s.wnu.chimes = [] →
      Answers .spacingExpiry s (s.setWnu { s.wnu with tone := .idle })) ∧
    (∀ r q, s.wnu.tone = .spacing → s.wnu.chimes = r :: q →
      Answers .spacingExpiry s (s.setWnu { s.wnu with tone := .sounding r, chimes := q }))) ∧
  (∀ (w : WarningUnit) (ms : Nat),
    let sound (f : Nat) : Sound := if f = 2000 then .high else if f = 1000 then .low else .silence
    (∀ r, w.tone = .sounding r →
      w.soundOutput ms =
        sound
          (match r.pattern with
           | .gong1 => if ms < 400 then 1000 else 0
           | .gong3 =>
             if ms < 400 ∨ (600 ≤ ms ∧ ms < 1000) ∨ (1200 ≤ ms ∧ ms < 1600) then 1000 else 0
           | .alarm => if ms % 1000 < 500 then 2000 else 1000
           | .chime => if ms % 1000 < 200 then 2000 else 0
           | .bell => if ms < 6000 ∧ ms % 500 < 200 then 2000 else 0
           | .tick => if ms < 20 then 1000 else 0
           | .call => if ms < 450 then 2000 else if ms < 900 then 1000 else 0)) ∧
    ((∀ r, w.tone ≠ .sounding r) → w.soundOutput ms = .silence) ∧
    Sound.high.hertz = 2000 ∧ Sound.low.hertz = 1000 ∧
    ∀ p : Pattern, ∀ n, p.lengthMs = some n →
      ∃ k, p.rounds = some k ∧ n = k * (p.round.map (·.2)).sum)

/-! ## The Clock Unit (chapter 9) -/

/-- SECOND_PASSAGE in any state but OFF: the time of day goes on by a second, midnight takes the next day,
the last day number being held; each trip not awaiting its reset counts a second in RUN, the instant figure
is worked in RUN and COURTESY from the bin of m metres and q quanta, a consumption from 3 metres on and a flow below,
and the bin is emptied; a minute change there offers CLUSTER_TIME. A setting of the clock is no counted second. -/
def Obligations.SecondPassageCounts : Prop :=
  (∀ s : State, ClockOk s.clock → s.power.state ≠ .off →
     let later (r : TripRecord) : TripRecord :=
       if s.power.state = .run ∧ r.awaiting = false then { r with run := min (r.run + 1) 359999 } else r
     ∃ t, Answers .secondPassage s t ∧ Touches [.link, .trc, .clock, .msc, .seq] s t ∧
       t.clock.secondOfDay = (s.clock.secondOfDay + 1) % 86400 ∧ ClockOk t.clock ∧
       t.clock.day =
         (if s.clock.secondOfDay = 86399 then min 36524 (s.clock.day + 1) else s.clock.day) ∧
       t.clock =
         { s.clock with
           hour := t.clock.hour, minute := t.clock.minute, second := t.clock.second
           day := t.clock.day, prescaler := 0 } ∧
       t.trc.tripA = later s.trc.tripA ∧ t.trc.tripB = later s.trc.tripB ∧
       t.trc.journey = later s.trc.journey ∧ t.trc.binMetres = 0 ∧ t.trc.binFuel = 0 ∧
       (s.awake = true →
         let m := s.trc.binMetres
         let q := s.trc.binFuel
         t.trc.instant =
           some
             (if s.settings.imperial = false then
               (if 3 ≤ m then .consumption (min 999 ((200 * q + m) / (2 * m)))
                else .flow (min 999 ((36 * q + 5) / 10)))
              else if 3 ≤ m then
                .consumption (if q = 0 then 999 else min 999 ((4704 * m + 10 * q) / (20 * q)))
              else .flow (min 999 ((7200 * q + 3785) / 7570)))) ∧
       (s.awake = false → t.trc.instant = s.trc.instant) ∧
       (s.awake = false ∨ s.clock.second < 59 → t.link = s.link) ∧
       (s.awake = true → s.clock.second = 59 → s.link.txQueue.length < 8 →
         (∀ e ∈ s.link.txQueue, e.frame.id ≠ 0x61) → Queued t (TimeFrame t))) ∧
  ∀ c ∈ [Instr.setClock, .setPress, .adjustHour], ∀ s t : State, exec c s = .next t → t.trc = s.trc

/-- TRIM_PART_END: the cycle that ends one of the first |trim| parts of the window counts twice for a
positive trim and not at all for a negative one, any other once; a prescaler that reaches 32,768 passes a
second within the command (the model's reading, log entries 7 and 38). TRIM_WINDOW_END puts a pending trim
in force. -/
def Obligations.TrimAdjustsTheCount : Prop :=
  ∀ s : State, ClockOk s.clock → s.power.state ≠ .off →
    (∀ cycles, 1 ≤ cycles → cycles ≤ 16384 → s.clock.windowCount / 8192 ≤ 126 →
      let k := s.clock.windowCount / 8192 + 1
      let counts : Nat :=
        if (k : Int) ≤ s.clock.trim then 2 else if (k : Int) ≤ -s.clock.trim then 0 else 1
      let p := s.clock.prescaler + (cycles - 1) + counts
      (p < 32768 →
        Answers (.trimPartEnd cycles) s
          (s.setClock { s.clock with windowCount := 8192 * k, prescaler := p })) ∧
      (32768 ≤ p →
        ∃ t, Answers (.trimPartEnd cycles) s t ∧ Touches [.link, .trc, .clock, .msc, .seq] s t ∧
          t.clock.windowCount = 8192 * k ∧ t.clock.prescaler = p - 32768 ∧
          t.clock.secondOfDay = (s.clock.secondOfDay + 1) % 86400 ∧ t.clock.trim = s.clock.trim)) ∧
    Answers .trimWindowEnd s
      (s.setClock
        { s.clock with
          windowCount := 0, pendingTrim := none
          trim :=
            match s.clock.pendingTrim with
            | some x => x
            | none => s.clock.trim })

/-! ## The Power Unit (chapter 11) -/

/-- KEEP_ALIVE_SUPPLY_LOST takes every state to OFF, and KEEP_ALIVE_SUPPLY_APPLIED takes OFF to a COLD
start, over the same serial memory (no byte of which goes bad by itself, the model's choice, log entry 65) and pattern
memory. Step 1 adds the bytes of the pattern memory, with the cells
that have gone bad as they now read (the model's form, log entry 63), modulo 256, and a sum other than 0 fails it and
records 31h; the start goes on with the memory as it stands. The warning definitions, the texts, the gauge curves and
the peer texts in use are the reference's while no cell has gone bad, and from then on, in every state and whatever the
sum, what the bad memory holds, which is free by its bytes (log entry 63). Step 2 reads the signature and counts the locations that read some walking pattern back wrongly; it
records 32h at a COLD start and where the signature is not the part's or a location fails, and a WARM or WAKE start
then becomes COLD: the ignition and driver-door filters of a WAKE start begin anew, at 512 samples for the ignition,
and those of a WARM start run on (the model's choice, log entry 66); the part's signature stands after it (the value of the signature, and that the command brings what
is found and read, are the model's, log entry 64). The restart hold ends in step 1. -/
def Obligations.SupplyAndFirstSteps : Prop :=
  ∀ s : State,
    (s.power.state ≠ .off →
      ∃ t, Answers .keepAliveSupplyLost s t ∧ t.power.state = .off ∧
        t.power.patternMemory = s.power.patternMemory ∧
        t.power.patternSpoiled = s.power.patternSpoiled ∧
        (s.stc.active = none → t.store = s.store)) ∧
    (s.power.state = .off →
      ∃ t, Answers .keepAliveSupplyApplied s t ∧ t.power.state = .starting ∧ t.power.kind = .cold ∧
        t.power.step = .step1 ∧ t.store = s.store ∧
        t.power.patternMemory = s.power.patternMemory ∧
        t.power.patternSpoiled = s.power.patternSpoiled ∧ t.clock.valid = false ∧ t.odo.pending = 0 ∧
        t.odo.verified = none ∧ t.wnu.log = [] ∧ t.trc.tripA.awaiting = true ∧
        t.rqs.lastError = 0x00) ∧
    (s.power.state = .starting → s.power.step = .step1 →
      ∀ cells : List (Nat × Byte),
        ∃ t, Answers (.patternMemoryChecksum cells) s t ∧ Touches [.power, .rqs] s t ∧
          (let m := t.power.patternMemory
           let sum := (m.map BitVec.toNat).sum % 256
           m.length = s.power.patternMemory.length ∧
           (∀ i, (∀ c ∈ cells, c.1 ≠ i) → m[i]? = s.power.patternMemory[i]?) ∧
           (∀ l i x r, cells = l ++ (i, x) :: r → (∀ c ∈ r, c.1 ≠ i) → i < m.length → m[i]? = some x) ∧
           t.power =
             { s.power with
               step := .step2, patternMemory := m, patternFail := decide (sum ≠ 0)
               patternSpoiled := s.power.patternSpoiled || decide (cells ≠ []) } ∧
           t.rqs = (if sum = 0 then s.rqs else { s.rqs with lastError := 0x31 })) ∧
          (AsMade s → cells = [] → UsedAsMade t) ∧ (¬AsMade s ∨ cells ≠ [] → UsedAsHeld t)) ∧
    (AsMade s → UsedAsMade s) ∧ (¬AsMade s → UsedAsHeld s) ∧
    (s.power.state = .starting → s.power.step = .step2 →
      ∀ (found : Option (BitVec 16)) (ram : List (Vector Byte 8)),
        let bad : Prop := found.getD s.power.signature ≠ Config.keepAliveSignature
        let failed := (ram.filter (fun x => decide (∃ i : Fin 8, x[i].toNat ≠ 2 ^ i.val))).length
        ∃ t, Answers (.keepAliveSignatureCheck found ram) s t ∧
        t.power.step = .step3 ∧ t.power.signature = Config.keepAliveSignature ∧
        t.power.failedLocations = min failed 255 ∧
        (t.power.signatureBad = true ↔ s.power.kind = .cold ∨ bad) ∧
        t.power.patternMemory = s.power.patternMemory ∧ t.power.patternFail = s.power.patternFail ∧
        t.power.patternSpoiled = s.power.patternSpoiled ∧
        t.store = s.store ∧
        (s.power.kind = .cold ∨ bad ∨ 0 < failed →
          t.rqs.lastError = 0x32 ∧ t.power.kind = .cold) ∧
        (s.power.kind ≠ .cold → bad ∨ 0 < failed →
          t.clock.valid = false ∧ t.odo.verified = none ∧ t.odo.pending = 0 ∧ (AsMade s → t.wnu.log = []) ∧
            t.trc.journey.awaiting = true ∧ t.input.ignLength = 512 ∧
            ∀ l, t.filter l =
              if s.power.kind = .wake ∧ (l = .ignition ∨ l = .driverDoor) then
                { level := .inactive, last := none, run := 1, completed := false }
              else s.filter l) ∧
        (s.power.kind ≠ .cold → ¬bad → failed = 0 →
          t.power.kind = s.power.kind ∧ t.rqs = s.rqs ∧ t.clock = s.clock ∧ t.odo = s.odo ∧ t.trc = s.trc ∧ t.wnu = s.wnu)) ∧
    (s.power.state = .starting → s.power.step = .hold →
      ∃ t, Answers .restartHoldExpiry s t ∧ Touches [.power, .msc] s t ∧
        t.power = { s.power with step := .step1, restartHold := none } ∧
        ((s.input.filters[SwitchLine.ignition.ix]).level = .active → s.msc.lampTest = .notRun →
          t.msc.lampTest = .running ∧ t.msc.lampTimer = some 3000))

/-- CONFIGURATION_READ: 62 bytes that do not sum to 0 put every default in force and record 33h. Otherwise each value
is that of its bytes where they lie in its range, and its default where they do not, 34h is recorded if one took its
default, and the number that did is the step's result; a sound block records nothing. At a COLD start the configured
clock trim becomes the pending trim; at another the clock goes on as it was. Listening begins, the frames that wait
in the transmit queue are from the address read and are otherwise as they were, the gauges stand at
their spans, each signal has its expected source, the ignition filter its length, and the staging image holds the
bytes read. The bytes read are those in the memory, none gone bad at the read (the model's choice, log entry 65).
Conditions of warnings, and their definitions, are as the pattern memory holds them (log entry 63). -/
def Obligations.ConfigurationStepTakesValues : Prop :=
  ∀ s : State, s.power.state = .starting → s.power.step = .step3 →
    let bytes := s.store.readBytes 0 62
    let b (i : Nat) : Nat := (byteAt bytes i).toNat
    let w (i : Nat) : Nat := 256 * b i + b (i + 1)
    let pick (v lo hi dflt : Nat) : Nat := if lo ≤ v ∧ v ≤ hi then v else dflt
    let miss (v lo hi : Nat) : Nat := if lo ≤ v ∧ v ≤ hi then 0 else 1
    let table := (List.range 8).map (fun i => (b (8 + 2 * i), b (9 + 2 * i)))
    let steady : Prop :=
      table.Pairwise (fun x y => x.1 < y.1) ∨ table.Pairwise (fun x y => y.1 < x.1)
    let trim := (byteAt bytes 47).toInt
    ∃ t, Answers .configurationRead s t ∧
      Touches [.power, .link, .signals, .input, .gdu, .wnu, .clock, .msc, .rqs, .settings, .seq, .draw]
        s t ∧
      SettingsOk t.settings ∧ t.rqs.staging = bytes ∧ t.link.listening = true ∧
      t.link.receiver = .waiting ∧ t.power.step = .step4 ∧ t.power.configured = true ∧
      (∀ e ∈ t.link.txQueue,
        e.frame.source = t.settings.address ∧ ∀ h ∈ e.held, h.source = t.settings.address) ∧
      (let readdressed (e : TxEntry) : TxEntry :=
         { e with
           frame := { e.frame with source := t.settings.address }
           held := e.held.map (fun h => { h with source := t.settings.address }) }
       (s.link.txQueue.length ≤ 7 →
         ∀ e ∈ s.link.txQueue, e.frame.id ≠ 0x62 → readdressed e ∈ t.link.txQueue) ∧
       (WarningInv s → t.wnu.list = s.wnu.list →
         t.link.txQueue = s.link.txQueue.map readdressed)) ∧
      t.clock =
        (if s.power.kind = .cold then { s.clock with pendingTrim := some t.settings.clockTrim }
         else s.clock) ∧
      (∀ g, (t.gauge g).position = t.span g) ∧
      t.input.ignLength = t.settings.ignLength ∧ t.input.fuel.averaging = true ∧
      t.input.residue = (if t.settings.ppk ≤ s.input.residue then 0 else s.input.residue) ∧
      (∀ g : Signal, (t.signal g).expected =
        if g ∈ [Signal.engRpm, .coolantT, .oilP, .engFlags] then t.settings.srcEngine
        else if g ∈ [Signal.gear, .transT] then t.settings.srcTrans
        else if g.isPeer then t.settings.srcBody else 0) ∧
      (byteSum bytes ≠ 0 →
        t.settings = Settings.default ∧ t.rqs.lastError = 0x33 ∧
          t.power.configResult = .allDefaulted ∧
          Moved .configDefaults s t ∧
          (AsMade s → (s.wnu.record .configDefaults).state = .inactive →
            Announced .configDefaults s t)) ∧
      (byteSum bytes = 0 →
        let c := t.settings
        c.address = pick (b 0) 1 14 4 ∧ c.srcEngine = pick (b 1) 1 14 1 ∧
        c.srcTrans = pick (b 2) 1 14 2 ∧ c.srcBody = pick (b 3) 1 14 3 ∧
        c.ppk = pick (w 4) 1000 16000 4000 ∧ c.capacity = pick (w 6) 200 1500 900 ∧
        (steady → c.sender = table) ∧
        (¬steady →
          c.sender =
            [(232, 0), (204, 25), (176, 50), (148, 80), (120, 110), (92, 140), (64, 170),
             (36, 200)]) ∧
        c.refuel = pick (b 24) 10 250 50 ∧ c.reserve = pick (b 25) 20 250 80 ∧
        c.d10 = pick (w 26) 40 400 180 ∧ c.journeyGap = pick (w 28) 10 600 120 ∧
        c.commitKm = pick (b 30) 1 10 2 ∧ c.courtesyS = pick (b 31) 10 120 30 ∧
        (∀ i : Fin 6,
          c.spans[i] = pick (w (32 + 2 * i.val)) 200 1080 (#v[960, 840, 360, 360, 360, 360][i]) ∧
          c.periods[i] =
            2 ^ (if i.val < 4 then b 44 / 4 ^ i.val % 4 else b 45 / 4 ^ (i.val - 4) % 4)) ∧
        c.deadband = b 46 % 4 ∧ (c.sweepEnable = true ↔ b 46 / 4 % 2 = 1) ∧
        c.ignLength = 8 * 4 ^ (b 46 / 8 % 4) ∧ (c.imperial = true ↔ b 46 / 32 % 2 = 1) ∧
        c.clockTrim = (if -120 ≤ trim ∧ trim ≤ 120 then trim else 0) ∧
        (∀ i : Fin 4,
          c.distIntervals[i] = b (48 + i.val) ∧
          c.dayIntervals[i] = pick (w (52 + 2 * i.val)) 0 1095 (#v[365, 730, 0, 1095][i])) ∧
        c.penaltyKm = pick (b 60) 0 100 20 ∧
        ∃ n, t.power.configResult = .defaulted n ∧
          n =
            miss (b 0) 1 14 + miss (b 1) 1 14 + miss (b 2) 1 14 + miss (b 3) 1 14
              + miss (w 4) 1000 16000 + miss (w 6) 200 1500 + miss (b 24) 10 250
              + miss (b 25) 20 250 + miss (w 26) 40 400 + miss (w 28) 10 600 + miss (b 30) 1 10
              + miss (b 31) 10 120
              + ((List.range 6).map (fun i => miss (w (32 + 2 * i)) 200 1080)).sum
              + (if -120 ≤ trim ∧ trim ≤ 120 then 0 else 1)
              + ((List.range 4).map (fun i => miss (w (52 + 2 * i)) 0 1095)).sum
              + miss (b 60) 0 100
              + (if c.sender = table then 0 else 1) ∧
          (n = 0 →
            t.rqs.lastError = s.rqs.lastError ∧ t.wnu.configDefaults = s.wnu.configDefaults) ∧
          (0 < n →
            t.rqs.lastError = 0x34 ∧
              Moved .configDefaults s t ∧
              (AsMade s → (s.wnu.record .configDefaults).state = .inactive →
                Announced .configDefaults s t)))

/-- RING_AND_SERVICE_READ: the newest slot is the valid one of the greatest value, the higher index among equals. The
base is its value, or the kept verified value if that is larger, which is then to be committed (with none kept, the
slot's, the model's reading at a WARM or WAKE start, log entry 24); pending metres that the slot already holds are
taken out; and the write position is the slot after the newest. An empty ring records 12h, and the base is the kept
verified value, which is then to be committed, or none, with the pending metres kept. Each valid service record is
taken field by field, with a clock that is valid its absent due day filled and handed to the store, and an invalid one
awaits its reset and records 13h; the port opens. The bytes read are those in the memory, none gone bad at the read
(the model's choice, log entry 65). Before the ignition filter has completed the part stays in STARTING; with it
completed STARTING ends by its level, with all that the entry to RUN or COURTESY does: at RUN the journey rule (its
total as 32 bits hold it, log entry 15), the drive (log entry 37), the range, the timers and the warnings; and every
gauge homes (log entries 42 and 44). A test on a STALE record without a value is false (log entry 46). Conditions of
warnings, and their definitions, are as the pattern memory holds them (log entry 63). -/
def Obligations.RingStepTakesTheStore : Prop :=
  ∀ (s : State) (contacts : BitVec 6), s.power.state = .starting → s.power.step = .step4 →
    let f := s.filter .ignition
    let empty : Prop := ∀ i < 16, ¬SlotValid s.store i
    let fills (i : ServiceItem) : Prop :=
      s.clock.valid = true ∧ 0 < s.settings.dayIntervals[i.ix] ∧ (RecordAt s.store i).dueDay = none
    ∃ t, Answers (.ringAndServiceRead contacts) s t ∧ t.store = s.store ∧ t.settings = s.settings ∧
      t.clock = s.clock ∧ t.stc.portOpen = true ∧
      (∀ i, NewestSlotIs s.store i →
        let v := SlotValue s.store i
        t.stc.writePos = (i + 1) % 16 ∧
          t.odo.restored = (s.store.read (0x40 + 8 * i + 4)).getLsbD 0 ∧
          (s.odo.verified = none →
            t.odo.base = some v ∧ t.odo.committed = v ∧ t.odo.pending = s.odo.pending ∧
              t.odo.baseCommit = false) ∧
          (∀ x, s.odo.verified = some x →
            t.odo.base = some (max v x) ∧ t.odo.committed = max v x ∧
              t.odo.pending = s.odo.pending - (v - x) ∧
              (t.odo.baseCommit = true ↔ v < x))) ∧
      (empty →
        t.stc.writePos = 0 ∧ t.odo.restored = false ∧ t.odo.base = s.odo.verified ∧
          t.odo.committed = s.odo.verified.getD 0 ∧ t.odo.pending = s.odo.pending ∧
          (t.odo.baseCommit = true ↔ s.odo.verified.isSome = true)) ∧
      (¬empty → ∃ i, NewestSlotIs s.store i) ∧
      (∀ i, RecordValid s.store i →
        (fills i →
          t.item i =
              { record :=
                  { RecordAt s.store i with
                    dueDay := some (s.clock.day + s.settings.dayIntervals[i.ix]) }
                awaiting := false, dirty := true } ∧
            WithStore t i) ∧
        (¬fills i → t.item i = { record := RecordAt s.store i, awaiting := false, dirty := false })) ∧
      (∀ i, ¬RecordValid s.store i → (t.item i).awaiting = true ∧ (t.item i).dirty = false) ∧
      ((∃ i, ¬RecordValid s.store i) → t.rqs.lastError = 0x13) ∧
      ((∀ i, RecordValid s.store i) → empty → t.rqs.lastError = 0x12) ∧
      ((∀ i, RecordValid s.store i) → ¬empty → t.rqs.lastError = s.rqs.lastError) ∧
      (f.completed = false → t.power = { s.power with step := .done }) ∧
      (f.completed = true →
        (t.filter .ignition).level = f.level ∧ LeavesStarting contacts s t ∧
          ∀ g, (t.gauge g).state ≠ .unhomed)

/-- COURTESY_TIMER_EXPIRY and COURTESY_CAP_EXPIRY end COURTESY. The tone is silent and its queue empty, the four
warnings that the end takes off the list leave it (with bad cells in the pattern memory the conditions of ODO_RESTORED
and CONFIG_DEFAULTS as held are then worked out, log entry 63), the peer text is gone, the clock keeps its stamp as
the time of switching off; a short drive that stayed cold is penalised on the engine oil, the drive is closed, and
each dirty service record is handed to the store; metres to save start a commit, once the odometer is resolved (read
by inference, log entry 40). With a job in progress or waiting SAVING begins with 500 ms; a save that is complete at
once orders the park, as SAVE_WAIT_EXPIRY does: every TRACKING or SWEEP gauge away from 0 is PARKING with target 0,
one at rest there departs at the order itself (read from R81 by inference, log entry 25), and one at rest at 0 is
PARKED. Conditions of warnings, and their definitions, are as the pattern memory holds them (log entry 63). -/
def Obligations.CourtesyEndsInSaving : Prop :=
  ∀ s : State, s.power.state = .courtesy →
    let ordered (t : State) : Prop :=
      t.power = { t.power with endPhase := .parking, saveWait := none } ∧
        t.gdu.parkInForce = true ∧
        ∀ g,
          let q := s.gauge g
          let moves := q.state = .tracking ∨ q.state = .sweep
          (moves → 0 < q.position →
            (t.gauge g).state = .parking ∧ (t.gauge g).target = 0 ∧
              (t.gauge g).position = q.position ∧
              (t.gauge g).motion = if q.motion = .atRest then .movingDown else q.motion) ∧
          (moves → q.position = 0 → q.motion = .atRest →
            t.gauge g = { q with state := .parked, target := 0, ramp := 0 }) ∧
          (¬moves → t.gauge g = q)
    let empty (t : State) : Prop :=
      t.stc.portOpen = true ∧ t.stc.active = none ∧ t.stc.waitOdometer = none ∧
        t.stc.waitService = [] ∧ t.stc.waitConfiguration = false
    (∃ g, ((s.gauge g).state = .tracking ∨ (s.gauge g).state = .sweep) ∧
      0 < (s.gauge g).position) →
    (∀ c, s.power.endPhase = .none →
      (c = .courtesyTimerExpiry ∧ s.power.courtesyTimer.isSome = true) ∨
        (c = .courtesyCapExpiry ∧ s.power.courtesyCap.isSome = true) →
      let saves :=
        (s.odo.commit = .clear ∧ s.odo.resolved = true ∧ 0 < s.odo.pending) ∨ s.odo.commit = .deferred
      let leaving : List Warning := [.odoRestored, .configDefaults, .serviceDue, .serviceSoon]
      let oil := s.item .engineOil
      let interval := 100 * s.settings.distIntervals[ServiceItem.engineOil.ix]
      let j := s.trc.journey.distance
      let amount := min s.settings.penaltyKm (interval / 2 - oil.record.penalty)
      let cold : Prop :=
        ∃ d, s.sru.drive = some d ∧ d.carried + (j - d.baseline) < 8000 ∧ j < 9999999 ∧
          d.warm = false ∧ s.sru.oilReset = false ∧ oil.awaiting = false ∧ 0 < interval ∧ 0 < amount
      ∃ t, Answers c s t ∧
        Touches [.power, .link, .gdu, .odo, .stc, .wnu, .sru, .clock, .msc, .seq, .draw] s t ∧
        t.power.courtesyTimer = none ∧ t.power.courtesyCap = none ∧
        t.power.state = .courtesy ∧
        t.wnu.tone = .silent ∧ t.wnu.chimes = [] ∧
        (AsMade s → t.draw = s.draw ∧ t.wnu.list = s.wnu.list.filter (fun n => n ∉ leaving)) ∧
        (∀ m, m ≠ .odoRestored → m ≠ .configDefaults →
          (m ∈ t.wnu.list ↔ m ∈ s.wnu.list ∧ m ∉ leaving)) ∧
        (∀ n ∈ leaving, n ∈ s.wnu.list → AsMade s ∨ n = .serviceDue ∨ n = .serviceSoon →
          t.wnu.record n = inactiveRecord) ∧
        (∀ n, n ∉ leaving → Unmoved n s t) ∧
        (t.wnu.list ≠ s.wnu.list → WarningsOffered s t) ∧
        t.wnu.odoRestored = false ∧ t.wnu.configDefaults = false ∧
        t.msc.peerText = none ∧ t.msc.lampTest ≠ .running ∧
        t.clock = { s.clock with lastOff := s.clock.stamp } ∧
        t.sru.drive = none ∧ t.sru.oilReset = false ∧
        (cold →
          (t.item .engineOil).dirty = true ∧ (t.item .engineOil).awaiting = false ∧
            (t.item .engineOil).record.dueDay = oil.record.dueDay ∧
            (t.item .engineOil).record.penalty = oil.record.penalty + amount ∧
            (t.item .engineOil).record.dueKm ≤ oil.record.dueKm ∧
            (amount ≤ oil.record.dueKm →
              (t.item .engineOil).record.dueKm = oil.record.dueKm - amount)) ∧
        (¬cold → t.item .engineOil = oil) ∧
        (∀ i, i ≠ .engineOil → t.item i = s.item i) ∧
        (∀ i, (t.item i).dirty = true → WithStore t i) ∧
        (saves → t.odo.commit = .waiting ∨ t.odo.commit = .writing) ∧
        (s.odo.commit = .writing → t.odo = { s.odo with saveMark := true }) ∧
        (¬empty t →
          t.gdu = s.gdu ∧
          t.power =
            { s.power with
              courtesyTimer := none, courtesyCap := none, endPhase := .saving
              saveWait := some 500 }) ∧
        (empty t → ordered t) ∧
        (empty s → ¬saves → ¬cold → (∀ i, (s.item i).dirty = false) → empty t)) ∧
    (s.power.endPhase = .saving → s.power.saveWait.isSome = true →
      ∃ t, Answers .saveWaitExpiry s t ∧ Touches [.power, .gdu, .msc] s t ∧
        t.power = { s.power with endPhase := .parking, saveWait := none } ∧ ordered t)

/-- The step that brings the last gauge to 0, the closure of the last gauge that homes, and its last failure
complete the park: SLEEP is entered with the link closed, its queues and the active list empty, every coil and
lamp off, the store's jobs cleared and the commit CLEAR (one that was DEFERRED too, the model's choice, log entry 62);
with the pending-wake mark set a WAKE start follows at
once. The trips, the clock and the link counters are kept, but that a last attempt which fails for the fourth
time counts TX_ABANDONED (log entry 12). So is the warning log, also where a unit in progress fails at the entry (the
model's choice, log entry 47). -/
def Obligations.ParkEndsInSleep : Prop :=
  ∀ (s : State) (g : GaugeId) (closed : Bool) (c : Instr), s.power.state = .courtesy →
    s.power.endPhase = .parking →
    (∀ h, h ≠ g → (s.gauge h).state = .parked ∨ (s.gauge h).state = .faulted) →
    let last : Prop :=
      (s.gauge g).state = .homing ∧ (s.gauge g).lift = none ∧ (s.gauge g).attempt = 3 ∧
        s.span g + 32 ≤ (s.gauge g).steps + 1
    (c = .gaugeStepEnd g closed ∧ (s.gauge g).state = .parking ∧
        (s.gauge g).motion = .movingDown ∧ (s.gauge g).position = 1) ∨
      (c = .homingStep g true ∧ s.gdu.parkInForce = true ∧ (s.gauge g).state = .homing ∧
        (s.gauge g).lift = none) ∨
      (c = .homingStep g false ∧ last) →
    ∃ t, Answers c s t ∧ t.link.listening = false ∧ t.link.txQueue = [] ∧
      t.link.ring = [] ∧ t.link.tx = .idle ∧ t.wnu.list = [] ∧ t.wnu.chimes = [] ∧
      t.stc.active = none ∧ t.stc.waitOdometer = none ∧ t.stc.waitService = [] ∧
      t.odo.commit = .clear ∧ t.clock = s.clock ∧ t.trc.tripA = s.trc.tripA ∧
      t.trc.tripB = s.trc.tripB ∧ t.trc.journey = s.trc.journey ∧
      (c ≠ .homingStep g false → t.wnu.log = s.wnu.log) ∧
      t.sru.drive = none ∧ t.msc.item = s.msc.item ∧ t.msc.trip = s.msc.trip ∧
      (c ≠ .homingStep g false →
        t.link.counters = { s.link.counters with txAbandoned := t.link.counters.txAbandoned } ∧
        (t.link.counters.txAbandoned = s.link.counters.txAbandoned ∨
          (t.link.counters.txAbandoned = min (s.link.counters.txAbandoned + 1) 255 ∧
            (s.link.tx = .sending ∨ s.link.tx = .breaking) ∧
            ∃ e ∈ s.link.txQueue, e.underAttempt = true ∧ e.failed = 3))) ∧
      (s.power.pendingWake = false →
        t.power.state = .sleep ∧ (∀ h, t.coilOutput h = false) ∧ (∀ l, t.lampOutput l = false) ∧
          (c ≠ .homingStep g false →
            (t.gauge g).state = .parked ∧ (t.gauge g).position = 0) ∧
          (c = .homingStep g false → (t.gauge g).state = .faulted)) ∧
      (s.power.pendingWake = true → t.power.state = .starting ∧ t.power.kind = .wake)

/-! ## The Request Server (chapter 12) -/

/-- A workshop request is refused by the first check that fails: 45h from another source than the tester,
44h in STARTING, 43h with a request in service, 41h of a wrong length, 42h of a parameter out of its range,
and then by the state a request needs: GAUGE TEST with 44h outside RUN, CHIME TEST with 44h outside RUN and
COURTESY before its end, SET TRIM with 43h while a trim is pending. The code is recorded and answered, and
nothing else is done. -/
def Obligations.RequestsAreRefused : Prop :=
  ∀ (s : State) (f : Frame) (rest : List Frame) (id : Byte) (c : Instr) (len : Nat) (k : BitVec 6)
    (inRange : Bool) (state : Option Byte),
    let b (i : Nat) : Nat := (byteAt f.data i).toNat
    let logs := s.wnu.log.length
    (id, c, len, inRange, state) ∈
      [((0x70 : Byte), Instr.readSense, 1, decide (b 0 ≤ 3), (none : Option Byte)),
       (0x71, .clearSense, 0, true, none),
       (0x72, .readLog, 1,
        decide (b 0 < 0x10 ∧ b 0 < logs ∨ 0x10 ≤ b 0 ∧ b 0 < 0x20 ∧ b 0 - 0x10 < logs ∨
          0x20 ≤ b 0 ∧ b 0 ≤ 0x24), none),
       (0x73, .clearLog, 0, true, none), (0x74, .readSignal, 1, decide (b 0 ≤ 17), none),
       (0x75, .readService, 1, decide (b 0 ≤ 3 ∨ 0x10 ≤ b 0 ∧ b 0 ≤ 0x13), none),
       (0x76, .resetService, 1, decide (b 0 ≤ 3), none),
       (0x77, .setClock, 5,
        decide (b 0 ≤ 23 ∧ b 1 ≤ 59 ∧ b 2 ≤ 59 ∧ 256 * b 3 + b 4 ≤ 36524), none),
       (0x78, .setTrim, 1,
        decide (-120 ≤ (byteAt f.data 0).toInt ∧ (byteAt f.data 0).toInt ≤ 120),
        if s.clock.pendingTrim = none then none else some 0x43),
       (0x79, .adjustHour, 1, decide (b 0 = 0x01 ∨ b 0 = 0xFF), none),
       (0x7A, .writeConfig, 5, decide (b 0 ≤ 58), none),
       (0x7B, .gaugeTest k, 0, true, if s.power.state = .run then none else some 0x44),
       (0x7C, .chimeTest, 1, decide (1 ≤ b 0 ∧ b 0 ≤ 7),
        if s.power.state = .run ∧ s.power.endPhase = .none ∨
            s.power.state = .courtesy ∧ s.power.endPhase = .none then none else some 0x44)] →
    HandsOn s id f rest →
    f.source ≠ 15 ∨ s.power.state = .starting ∨ s.rqs.inService.isSome = true ∨
      f.data.length ≠ len ∨ inRange = false ∨ state.isSome = true →
    let code : Byte :=
      if f.source ≠ 15 then 0x45
      else if s.power.state = .starting then 0x44
      else if s.rqs.inService.isSome then 0x43
      else if f.data.length ≠ len then 0x41
      else if inRange = false then 0x42
      else state.getD 0
    ∃ t, Answers c s t ∧ Touches [.link, .msc, .rqs, .seq] s t ∧
      t.rqs = { s.rqs with lastError := code } ∧ t.link.ring = rest ∧
      (HasRoom s f → Queued t (responseTo s f [code]))

/-- READ SENSE, READ LOG, READ SIGNAL and READ SERVICE answer 00h with their data, byte by byte, and change
nothing but the ring and the transmit queue; CLEAR SENSE sets the last error to 00h and the six counters to 0,
and CLEAR LOG empties the log, LOG_OVERFLOW and the counts. -/
def Obligations.ReadAndClearRequests : Prop :=
  ∀ (s : State) (f : Frame) (rest : List Frame), Served s f → HasRoom s f →
    let n (x : Nat) : Byte := BitVec.ofNat 8 x
    let bit (b : Bool) (i : Nat) : Nat := if b then 2 ^ i else 0
    let gauge (g : GaugeId) : Byte :=
      match (s.gauge g).state with
      | .unhomed => 0x00 | .homing => 0x01 | .sweep => 0x02 | .tracking => 0x03 | .faulted => 0x04
      | .parking => 0x05 | .parked => 0x06
    let on (l : SwitchLine) : Bool := decide ((s.filter l).level = .active)
    let two (v : Int) : List Byte := [n ((v / 256) % 256).toNat, n (v % 256).toNat]
    let three (v : Int) : List Byte := n ((v / 65536) % 256).toNat :: two v
    let answers (c : Instr) (id p : Byte) (data : List Byte) : Prop :=
      HandsOn s id f rest → f.data = [p] →
        ∃ t, Answers c s t ∧ Touches [.link, .msc, .seq] s t ∧ t.link.ring = rest ∧
          Queued t (responseTo s f (0x00 :: data))
    answers .readSense 0x70 0x00
      [s.rqs.lastError,
       (match s.power.kind with
        | .cold => 0x00 | .warm => 0x01 | .wake => 0x02),
       if s.power.patternFail then 0x01 else 0x00, if s.power.signatureBad then 0x01 else 0x00,
       n s.power.failedLocations,
       (match s.power.configResult with
        | .allDefaulted => 0xFF
        | .defaulted x => n x),
       (match s.rqs.writeStatus with
        | .none => 0x00 | .queued => 0x01 | .written => 0x02 | .failed => 0x03)] ∧
    (∀ code : Byte,
      (s.power.state = .run ∧ code = 0x02) ∨ (s.power.state = .courtesy ∧ code = 0x03) →
      answers .readSense 0x70 0x01
        [n s.link.counters.checkErrors, n s.link.counters.truncated, n s.link.counters.foreign,
         n s.link.counters.txAbandoned, n s.link.counters.txDisplaced,
         n s.link.counters.ringOverflow, code]) ∧
    answers .readSense 0x70 0x02
      [gauge .speed, gauge .tacho, gauge .fuel, gauge .coolant, gauge .oil, gauge .volt,
       n (bit s.stc.fault 0 + bit s.odo.restored 1 + bit s.clock.pendingTrim.isSome 2)] ∧
    answers .readSense 0x70 0x03
      [n (s.clock.trim % 256).toNat,
       (match s.clock.pendingTrim with
        | none => 0x80
        | some x => n (x % 256).toNat),
       n (bit (on .ignition) 0 + bit (on .driverDoor) 1 + bit (on .headlamp) 2
          + bit (on .brakeFluid) 3 + bit (on .spare) 4)] ∧
    (∀ (i : Nat) (e : LogEntry), i < 16 → s.wnu.log[i]? = some e →
      answers .readLog 0x72 (n i)
        (n e.warning.number ::
          (match e.stamp with
           | none => [0xFF, 0xFF, 0xFF, 0xFF, 0xFF]
           | some x => two x.day ++ three x.second)) ∧
      answers .readLog 0x72 (n (0x10 + i))
        (n e.warning.number ::
          (match e.km with
           | none => [0xFF, 0xFF, 0xFF]
           | some km => three km))) ∧
    answers .readLog 0x72 0x20 [n s.wnu.log.length, n s.wnu.overflow] ∧
    (∀ i : Fin 4,
      answers .readLog 0x72 (n (0x21 + i.val))
        ((List.range 6).map (fun j => n (s.wnu.counts.toList.getD (6 * i.val + j) 0)))) ∧
    (∀ g : Signal,
      let r := s.signal g
      answers .readSignal 0x74 (n g.ix.val)
        ((match r.state with
          | .never => [0x00] | .fresh => [0x01] | .stale => [0x02] | .lost => [0x03]
          | .invalid => [0x04])
          ++ (match r.value with
              | none => [0x80, 0x00]
              | some v => two v)
          ++ [n r.expected, n r.count])) ∧
    (∀ i : ServiceItem,
      let r := (s.item i).record
      (∀ days : List Byte,
        (DaysLeft s i = none → days = [0x80, 0x00]) →
        (∀ v, DaysLeft s i = some v → -32768 ≤ v ∧ v ≤ 32767 ∧ days = two v) →
        answers .readService 0x75 (n i.ix.val)
          ([n (StatusCode s i), n (bit (s.item i).dirty 0 + bit (s.item i).awaiting 1)]
            ++ (match KmLeft s i with
                | none => [0x80, 0x00, 0x00]
                | some v => three (max (-8388607) v))
            ++ days)) ∧
      answers .readService 0x75 (n (0x10 + i.ix.val))
        (three r.dueKm
          ++ (match r.dueDay with
              | none => [0xFF, 0xFF]
              | some d => two d)
          ++ two r.penalty)) ∧
    (HandsOn s 0x71 f rest → f.data = [] →
      ∃ t, Answers .clearSense s t ∧ Touches [.link, .msc, .rqs, .seq] s t ∧ t.link.ring = rest ∧
        t.rqs = { s.rqs with lastError := 0x00 } ∧
        t.link.counters =
          { checkErrors := 0, truncated := 0, foreign := 0, txAbandoned := 0, txDisplaced := 0,
            ringOverflow := 0 } ∧
        Queued t (responseTo s f [0x00])) ∧
    (HandsOn s 0x73 f rest → f.data = [] →
      ∃ t, Answers .clearLog s t ∧ Touches [.link, .wnu, .msc, .seq] s t ∧ t.link.ring = rest ∧
        t.wnu = { s.wnu with log := [], overflow := 0, counts := Vector.replicate 24 0 } ∧
        Queued t (responseTo s f [0x00]))

/-- SET CLOCK sets the time and the day and makes the clock valid: CLUSTER_TIME is offered, and a clock that was not
valid ends CLOCK_UNSET and fills the absent due days. SET TRIM makes a trim pending. ADJUST HOUR steps the hour, day
and all, forward, and back only within the day, and offers CLUSTER_TIME. Each is answered. Conditions of warnings, and
their definitions, are as the pattern memory holds them (log entry 63). -/
def Obligations.ClockRequests : Prop :=
  ∀ (s : State) (f : Frame) (rest : List Frame), Served s f → HasRoom s f →
    (∀ h m x d1 d0 : Byte, HandsOn s 0x77 f rest → f.data = [h, m, x, d1, d0] → h.toNat ≤ 23 →
      m.toNat ≤ 59 → x.toNat ≤ 59 → 256 * d1.toNat + d0.toNat ≤ 36524 →
      ∃ t, Answers .setClock s t ∧
        Touches [.link, .odo, .stc, .wnu, .sru, .clock, .msc, .seq, .draw] s t ∧
        t.clock =
          { s.clock with
            hour := h.toNat, minute := m.toNat, second := x.toNat
            day := 256 * d1.toNat + d0.toNat, prescaler := 0, valid := true } ∧
        ClockReported s t ∧ Queued t (responseTo s f [0x00])) ∧
    (∀ b : Byte, HandsOn s 0x78 f rest → f.data = [b] → -120 ≤ b.toInt → b.toInt ≤ 120 →
      (s.clock.pendingTrim = none →
        ∃ t, Answers .setTrim s t ∧ Touches [.link, .clock, .msc, .seq] s t ∧
          t.clock = { s.clock with pendingTrim := some b.toInt } ∧
          Queued t (responseTo s f [0x00])) ∧
      (s.clock.pendingTrim.isSome = true →
        ∃ t, Answers .setTrim s t ∧ Touches [.link, .msc, .rqs, .seq] s t ∧
          t.rqs = { s.rqs with lastError := 0x43 } ∧ Queued t (responseTo s f [0x43]))) ∧
    (HandsOn s 0x79 f rest →
      (f.data = [0x01] → s.clock.hour ≤ 23 →
        ∃ t, Answers .adjustHour s t ∧ Touches [.link, .clock, .msc, .seq] s t ∧
          t.clock =
            { s.clock with
              hour := (s.clock.hour + 1) % 24
              day := if s.clock.hour = 23 then min 36524 (s.clock.day + 1) else s.clock.day } ∧
          (RoomFor s 0x61 → Queued t (TimeFrame t)) ∧ Queued t (responseTo s f [0x00])) ∧
      (f.data = [0xFF] → 0 < s.clock.hour →
        ∃ t, Answers .adjustHour s t ∧ Touches [.link, .clock, .msc, .seq] s t ∧
          t.clock = { s.clock with hour := s.clock.hour - 1 } ∧
          (RoomFor s 0x61 → Queued t (TimeFrame t)) ∧ Queued t (responseTo s f [0x00])) ∧
      (f.data = [0xFF] → s.clock.hour = 0 →
        ∃ t, Answers .adjustHour s t ∧ Touches [.link, .msc, .seq] s t ∧
          Queued t (responseTo s f [0x0E])))

/-- WRITE CONFIG copies four bytes into the staging image and answers its sum, and at offset 58 hands over the
configuration job; RESET SERVICE resets the item at the displayed km, hands it to the store and stays in service, or
is held for the displayed km; GAUGE TEST in RUN sends a tracking gauge into a sweep, marks a homing one, and sends a
FAULTED one with its contact open to HOMING with the test mark, at rest from the entry on (the model's choice, log
entry 44), upon which GAUGE_FAULT is worked out; CHIME TEST in RUN or COURTESY before its end sounds its pattern on an
IDLE tone. Conditions of warnings, and their definitions, are as the pattern memory holds them (log entry 63). -/
def Obligations.WorkshopActions : Prop :=
  ∀ (s : State) (f : Frame) (rest : List Frame), Served s f → HasRoom s f →
    (∀ o b0 b1 b2 b3 : Byte, HandsOn s 0x7A f rest → f.data = [o, b0, b1, b2, b3] → o.toNat ≤ 58 →
      s.rqs.staging.length = 62 →
      ∃ t, Answers .writeConfig s t ∧ Touches [.link, .odo, .stc, .msc, .rqs, .seq] s t ∧
        t.rqs.staging =
          s.rqs.staging.take o.toNat ++ [b0, b1, b2, b3] ++ s.rqs.staging.drop (o.toNat + 4) ∧
        t.rqs.writeStatus = (if o.toNat = 58 then .queued else s.rqs.writeStatus) ∧
        (o.toNat ≠ 58 → t.stc = s.stc ∧ t.odo = s.odo) ∧
        (o.toNat = 58 → s.stc.waitConfiguration = false → s.stc.active.isSome = true →
          t.stc = { s.stc with waitConfiguration := true } ∧ t.odo = s.odo) ∧
        (o.toNat = 58 → s.stc.portOpen = true → s.stc.active = none → s.stc.waitOdometer = none →
          s.stc.waitService = [] →
          t.stc =
            { s.stc with
              waitConfiguration := false
              active :=
                some { job := .configuration t.rqs.staging, unit := 0, repeated := false } }) ∧
        Queued t (responseTo s f [0x00, byteSum t.rqs.staging])) ∧
    (∀ (b : Byte) (i : ServiceItem), HandsOn s 0x76 f rest → f.data = [b] →
      ServiceItem.ofNat? b.toNat = some i →
      ∃ t, Answers .resetService s t ∧ Touches [.link, .odo, .stc, .sru, .msc, .rqs] s t ∧
        t.rqs = { s.rqs with inService := some { id := 0x76, requester := 15 } } ∧
        (s.odo.resolved = false → t.sru = { s.sru with heldReset := some i }) ∧
        (s.odo.resolved = true →
          t.item i =
            { record := ResetRecord s i (KmOf s.odo.total), awaiting := false, dirty := true } ∧
          WithStore t i ∧
          (∀ j, j ≠ i → t.item j = s.item j) ∧
          (t.sru.oilReset = true ↔ s.sru.oilReset = true ∨
            (i = .engineOil ∧ s.sru.drive.isSome = true)))) ∧
    (∀ k, HandsOn s 0x7B f rest → f.data = [] → s.power.state = .run →
      ∃ t, Answers (.gaugeTest k) s t ∧ Touches [.link, .gdu, .wnu, .msc, .seq, .draw] s t ∧
        t.gdu.parkInForce = s.gdu.parkInForce ∧
        (∀ g, (s.gauge g).state = .tracking →
          (t.gauge g).state = .sweep ∧ (t.gauge g).phase = .toSpan ∨
            (t.gauge g).state = .sweep ∧ (s.gauge g).position = s.span g) ∧
        (∀ g, (s.gauge g).state = .homing → t.gauge g = { s.gauge g with testMark := true }) ∧
        (∀ g, (s.gauge g).state = .faulted → k.getLsbD g.ix.val = false →
          t.gauge g =
            { s.gauge g with
              state := .homing, motion := .atRest, ramp := 0, position := s.span g, rest := 0
              attempt := 1, steps := 0, lift := none, testMark := true
              sweepMark := s.settings.sweepEnable }) ∧
        (∀ g, (s.gauge g).state = .faulted → k.getLsbD g.ix.val = true →
          (t.gauge g).position = 0 ∧ (t.gauge g).state ≠ .faulted) ∧
        (∀ g, (s.gauge g).state ∉ [GaugeState.tracking, .homing, .faulted] →
          t.gauge g = s.gauge g) ∧
        WarningsMoved [.gaugeFault] [] s t ∧
        Queued t (responseTo s f [0x00])) ∧
    (∀ (b : Byte) (p : Pattern), HandsOn s 0x7C f rest → f.data = [b] →
      Pattern.ofNat? b.toNat = some p → s.awake = true → s.power.endPhase = .none →
      ∃ t, Answers .chimeTest s t ∧ Touches [.link, .wnu, .msc, .seq] s t ∧
        t.wnu = { s.wnu with tone := t.wnu.tone, chimes := t.wnu.chimes } ∧
        (s.wnu.tone = .idle → s.wnu.chimes = [] →
          ∃ n, t.wnu.tone =
            .sounding { source := .station 15, pattern := p, cls := 1, entered := n }) ∧
        Queued t (responseTo s f [0x00]))
end

