-- ==== Sys2Proof/Laws/State.lean ====
section
/-! SUPPORT. One lemma for each field of `State` under each block update, so that no proof unfolds a
record update. -/

namespace Sys2Proof.Machine

open Sys2Proof

@[simp] theorem State.setPower_power (s : State) (v : PowerUnit) : (s.setPower v).power = v := rfl
@[simp] theorem State.setPower_link (s : State) (v : PowerUnit) : (s.setPower v).link = s.link := rfl
@[simp] theorem State.setPower_signals (s : State) (v : PowerUnit) : (s.setPower v).signals = s.signals := rfl
@[simp] theorem State.setPower_input (s : State) (v : PowerUnit) : (s.setPower v).input = s.input := rfl
@[simp] theorem State.setPower_gdu (s : State) (v : PowerUnit) : (s.setPower v).gdu = s.gdu := rfl
@[simp] theorem State.setPower_trc (s : State) (v : PowerUnit) : (s.setPower v).trc = s.trc := rfl
@[simp] theorem State.setPower_odo (s : State) (v : PowerUnit) : (s.setPower v).odo = s.odo := rfl
@[simp] theorem State.setPower_stc (s : State) (v : PowerUnit) : (s.setPower v).stc = s.stc := rfl
@[simp] theorem State.setPower_wnu (s : State) (v : PowerUnit) : (s.setPower v).wnu = s.wnu := rfl
@[simp] theorem State.setPower_sru (s : State) (v : PowerUnit) : (s.setPower v).sru = s.sru := rfl
@[simp] theorem State.setPower_clock (s : State) (v : PowerUnit) : (s.setPower v).clock = s.clock := rfl
@[simp] theorem State.setPower_msc (s : State) (v : PowerUnit) : (s.setPower v).msc = s.msc := rfl
@[simp] theorem State.setPower_rqs (s : State) (v : PowerUnit) : (s.setPower v).rqs = s.rqs := rfl
@[simp] theorem State.setPower_settings (s : State) (v : PowerUnit) : (s.setPower v).settings = s.settings := rfl
@[simp] theorem State.setPower_store (s : State) (v : PowerUnit) : (s.setPower v).store = s.store := rfl
@[simp] theorem State.setPower_seq (s : State) (v : PowerUnit) : (s.setPower v).seq = s.seq := rfl
@[simp] theorem State.setPower_draw (s : State) (v : PowerUnit) : (s.setPower v).draw = s.draw := rfl
@[simp] theorem State.setPower_pending (s : State) (v : PowerUnit) : (s.setPower v).pending = s.pending := rfl

@[simp] theorem State.setLink_power (s : State) (v : Link) : (s.setLink v).power = s.power := rfl
@[simp] theorem State.setLink_link (s : State) (v : Link) : (s.setLink v).link = v := rfl
@[simp] theorem State.setLink_signals (s : State) (v : Link) : (s.setLink v).signals = s.signals := rfl
@[simp] theorem State.setLink_input (s : State) (v : Link) : (s.setLink v).input = s.input := rfl
@[simp] theorem State.setLink_gdu (s : State) (v : Link) : (s.setLink v).gdu = s.gdu := rfl
@[simp] theorem State.setLink_trc (s : State) (v : Link) : (s.setLink v).trc = s.trc := rfl
@[simp] theorem State.setLink_odo (s : State) (v : Link) : (s.setLink v).odo = s.odo := rfl
@[simp] theorem State.setLink_stc (s : State) (v : Link) : (s.setLink v).stc = s.stc := rfl
@[simp] theorem State.setLink_wnu (s : State) (v : Link) : (s.setLink v).wnu = s.wnu := rfl
@[simp] theorem State.setLink_sru (s : State) (v : Link) : (s.setLink v).sru = s.sru := rfl
@[simp] theorem State.setLink_clock (s : State) (v : Link) : (s.setLink v).clock = s.clock := rfl
@[simp] theorem State.setLink_msc (s : State) (v : Link) : (s.setLink v).msc = s.msc := rfl
@[simp] theorem State.setLink_rqs (s : State) (v : Link) : (s.setLink v).rqs = s.rqs := rfl
@[simp] theorem State.setLink_settings (s : State) (v : Link) : (s.setLink v).settings = s.settings := rfl
@[simp] theorem State.setLink_store (s : State) (v : Link) : (s.setLink v).store = s.store := rfl
@[simp] theorem State.setLink_seq (s : State) (v : Link) : (s.setLink v).seq = s.seq := rfl
@[simp] theorem State.setLink_draw (s : State) (v : Link) : (s.setLink v).draw = s.draw := rfl
@[simp] theorem State.setLink_pending (s : State) (v : Link) : (s.setLink v).pending = s.pending := rfl

@[simp] theorem State.setSignals_power (s : State) (v : Vector SignalRecord 18) : (s.setSignals v).power = s.power := rfl
@[simp] theorem State.setSignals_link (s : State) (v : Vector SignalRecord 18) : (s.setSignals v).link = s.link := rfl
@[simp] theorem State.setSignals_signals (s : State) (v : Vector SignalRecord 18) : (s.setSignals v).signals = v := rfl
@[simp] theorem State.setSignals_input (s : State) (v : Vector SignalRecord 18) : (s.setSignals v).input = s.input := rfl
@[simp] theorem State.setSignals_gdu (s : State) (v : Vector SignalRecord 18) : (s.setSignals v).gdu = s.gdu := rfl
@[simp] theorem State.setSignals_trc (s : State) (v : Vector SignalRecord 18) : (s.setSignals v).trc = s.trc := rfl
@[simp] theorem State.setSignals_odo (s : State) (v : Vector SignalRecord 18) : (s.setSignals v).odo = s.odo := rfl
@[simp] theorem State.setSignals_stc (s : State) (v : Vector SignalRecord 18) : (s.setSignals v).stc = s.stc := rfl
@[simp] theorem State.setSignals_wnu (s : State) (v : Vector SignalRecord 18) : (s.setSignals v).wnu = s.wnu := rfl
@[simp] theorem State.setSignals_sru (s : State) (v : Vector SignalRecord 18) : (s.setSignals v).sru = s.sru := rfl
@[simp] theorem State.setSignals_clock (s : State) (v : Vector SignalRecord 18) : (s.setSignals v).clock = s.clock := rfl
@[simp] theorem State.setSignals_msc (s : State) (v : Vector SignalRecord 18) : (s.setSignals v).msc = s.msc := rfl
@[simp] theorem State.setSignals_rqs (s : State) (v : Vector SignalRecord 18) : (s.setSignals v).rqs = s.rqs := rfl
@[simp] theorem State.setSignals_settings (s : State) (v : Vector SignalRecord 18) : (s.setSignals v).settings = s.settings := rfl
@[simp] theorem State.setSignals_store (s : State) (v : Vector SignalRecord 18) : (s.setSignals v).store = s.store := rfl
@[simp] theorem State.setSignals_seq (s : State) (v : Vector SignalRecord 18) : (s.setSignals v).seq = s.seq := rfl
@[simp] theorem State.setSignals_draw (s : State) (v : Vector SignalRecord 18) : (s.setSignals v).draw = s.draw := rfl
@[simp] theorem State.setSignals_pending (s : State) (v : Vector SignalRecord 18) : (s.setSignals v).pending = s.pending := rfl

@[simp] theorem State.setInput_power (s : State) (v : Input) : (s.setInput v).power = s.power := rfl
@[simp] theorem State.setInput_link (s : State) (v : Input) : (s.setInput v).link = s.link := rfl
@[simp] theorem State.setInput_signals (s : State) (v : Input) : (s.setInput v).signals = s.signals := rfl
@[simp] theorem State.setInput_input (s : State) (v : Input) : (s.setInput v).input = v := rfl
@[simp] theorem State.setInput_gdu (s : State) (v : Input) : (s.setInput v).gdu = s.gdu := rfl
@[simp] theorem State.setInput_trc (s : State) (v : Input) : (s.setInput v).trc = s.trc := rfl
@[simp] theorem State.setInput_odo (s : State) (v : Input) : (s.setInput v).odo = s.odo := rfl
@[simp] theorem State.setInput_stc (s : State) (v : Input) : (s.setInput v).stc = s.stc := rfl
@[simp] theorem State.setInput_wnu (s : State) (v : Input) : (s.setInput v).wnu = s.wnu := rfl
@[simp] theorem State.setInput_sru (s : State) (v : Input) : (s.setInput v).sru = s.sru := rfl
@[simp] theorem State.setInput_clock (s : State) (v : Input) : (s.setInput v).clock = s.clock := rfl
@[simp] theorem State.setInput_msc (s : State) (v : Input) : (s.setInput v).msc = s.msc := rfl
@[simp] theorem State.setInput_rqs (s : State) (v : Input) : (s.setInput v).rqs = s.rqs := rfl
@[simp] theorem State.setInput_settings (s : State) (v : Input) : (s.setInput v).settings = s.settings := rfl
@[simp] theorem State.setInput_store (s : State) (v : Input) : (s.setInput v).store = s.store := rfl
@[simp] theorem State.setInput_seq (s : State) (v : Input) : (s.setInput v).seq = s.seq := rfl
@[simp] theorem State.setInput_draw (s : State) (v : Input) : (s.setInput v).draw = s.draw := rfl
@[simp] theorem State.setInput_pending (s : State) (v : Input) : (s.setInput v).pending = s.pending := rfl

@[simp] theorem State.setGdu_power (s : State) (v : GaugeDrive) : (s.setGdu v).power = s.power := rfl
@[simp] theorem State.setGdu_link (s : State) (v : GaugeDrive) : (s.setGdu v).link = s.link := rfl
@[simp] theorem State.setGdu_signals (s : State) (v : GaugeDrive) : (s.setGdu v).signals = s.signals := rfl
@[simp] theorem State.setGdu_input (s : State) (v : GaugeDrive) : (s.setGdu v).input = s.input := rfl
@[simp] theorem State.setGdu_gdu (s : State) (v : GaugeDrive) : (s.setGdu v).gdu = v := rfl
@[simp] theorem State.setGdu_trc (s : State) (v : GaugeDrive) : (s.setGdu v).trc = s.trc := rfl
@[simp] theorem State.setGdu_odo (s : State) (v : GaugeDrive) : (s.setGdu v).odo = s.odo := rfl
@[simp] theorem State.setGdu_stc (s : State) (v : GaugeDrive) : (s.setGdu v).stc = s.stc := rfl
@[simp] theorem State.setGdu_wnu (s : State) (v : GaugeDrive) : (s.setGdu v).wnu = s.wnu := rfl
@[simp] theorem State.setGdu_sru (s : State) (v : GaugeDrive) : (s.setGdu v).sru = s.sru := rfl
@[simp] theorem State.setGdu_clock (s : State) (v : GaugeDrive) : (s.setGdu v).clock = s.clock := rfl
@[simp] theorem State.setGdu_msc (s : State) (v : GaugeDrive) : (s.setGdu v).msc = s.msc := rfl
@[simp] theorem State.setGdu_rqs (s : State) (v : GaugeDrive) : (s.setGdu v).rqs = s.rqs := rfl
@[simp] theorem State.setGdu_settings (s : State) (v : GaugeDrive) : (s.setGdu v).settings = s.settings := rfl
@[simp] theorem State.setGdu_store (s : State) (v : GaugeDrive) : (s.setGdu v).store = s.store := rfl
@[simp] theorem State.setGdu_seq (s : State) (v : GaugeDrive) : (s.setGdu v).seq = s.seq := rfl
@[simp] theorem State.setGdu_draw (s : State) (v : GaugeDrive) : (s.setGdu v).draw = s.draw := rfl
@[simp] theorem State.setGdu_pending (s : State) (v : GaugeDrive) : (s.setGdu v).pending = s.pending := rfl

@[simp] theorem State.setTrc_power (s : State) (v : TripComputer) : (s.setTrc v).power = s.power := rfl
@[simp] theorem State.setTrc_link (s : State) (v : TripComputer) : (s.setTrc v).link = s.link := rfl
@[simp] theorem State.setTrc_signals (s : State) (v : TripComputer) : (s.setTrc v).signals = s.signals := rfl
@[simp] theorem State.setTrc_input (s : State) (v : TripComputer) : (s.setTrc v).input = s.input := rfl
@[simp] theorem State.setTrc_gdu (s : State) (v : TripComputer) : (s.setTrc v).gdu = s.gdu := rfl
@[simp] theorem State.setTrc_trc (s : State) (v : TripComputer) : (s.setTrc v).trc = v := rfl
@[simp] theorem State.setTrc_odo (s : State) (v : TripComputer) : (s.setTrc v).odo = s.odo := rfl
@[simp] theorem State.setTrc_stc (s : State) (v : TripComputer) : (s.setTrc v).stc = s.stc := rfl
@[simp] theorem State.setTrc_wnu (s : State) (v : TripComputer) : (s.setTrc v).wnu = s.wnu := rfl
@[simp] theorem State.setTrc_sru (s : State) (v : TripComputer) : (s.setTrc v).sru = s.sru := rfl
@[simp] theorem State.setTrc_clock (s : State) (v : TripComputer) : (s.setTrc v).clock = s.clock := rfl
@[simp] theorem State.setTrc_msc (s : State) (v : TripComputer) : (s.setTrc v).msc = s.msc := rfl
@[simp] theorem State.setTrc_rqs (s : State) (v : TripComputer) : (s.setTrc v).rqs = s.rqs := rfl
@[simp] theorem State.setTrc_settings (s : State) (v : TripComputer) : (s.setTrc v).settings = s.settings := rfl
@[simp] theorem State.setTrc_store (s : State) (v : TripComputer) : (s.setTrc v).store = s.store := rfl
@[simp] theorem State.setTrc_seq (s : State) (v : TripComputer) : (s.setTrc v).seq = s.seq := rfl
@[simp] theorem State.setTrc_draw (s : State) (v : TripComputer) : (s.setTrc v).draw = s.draw := rfl
@[simp] theorem State.setTrc_pending (s : State) (v : TripComputer) : (s.setTrc v).pending = s.pending := rfl

@[simp] theorem State.setOdo_power (s : State) (v : Odometer) : (s.setOdo v).power = s.power := rfl
@[simp] theorem State.setOdo_link (s : State) (v : Odometer) : (s.setOdo v).link = s.link := rfl
@[simp] theorem State.setOdo_signals (s : State) (v : Odometer) : (s.setOdo v).signals = s.signals := rfl
@[simp] theorem State.setOdo_input (s : State) (v : Odometer) : (s.setOdo v).input = s.input := rfl
@[simp] theorem State.setOdo_gdu (s : State) (v : Odometer) : (s.setOdo v).gdu = s.gdu := rfl
@[simp] theorem State.setOdo_trc (s : State) (v : Odometer) : (s.setOdo v).trc = s.trc := rfl
@[simp] theorem State.setOdo_odo (s : State) (v : Odometer) : (s.setOdo v).odo = v := rfl
@[simp] theorem State.setOdo_stc (s : State) (v : Odometer) : (s.setOdo v).stc = s.stc := rfl
@[simp] theorem State.setOdo_wnu (s : State) (v : Odometer) : (s.setOdo v).wnu = s.wnu := rfl
@[simp] theorem State.setOdo_sru (s : State) (v : Odometer) : (s.setOdo v).sru = s.sru := rfl
@[simp] theorem State.setOdo_clock (s : State) (v : Odometer) : (s.setOdo v).clock = s.clock := rfl
@[simp] theorem State.setOdo_msc (s : State) (v : Odometer) : (s.setOdo v).msc = s.msc := rfl
@[simp] theorem State.setOdo_rqs (s : State) (v : Odometer) : (s.setOdo v).rqs = s.rqs := rfl
@[simp] theorem State.setOdo_settings (s : State) (v : Odometer) : (s.setOdo v).settings = s.settings := rfl
@[simp] theorem State.setOdo_store (s : State) (v : Odometer) : (s.setOdo v).store = s.store := rfl
@[simp] theorem State.setOdo_seq (s : State) (v : Odometer) : (s.setOdo v).seq = s.seq := rfl
@[simp] theorem State.setOdo_draw (s : State) (v : Odometer) : (s.setOdo v).draw = s.draw := rfl
@[simp] theorem State.setOdo_pending (s : State) (v : Odometer) : (s.setOdo v).pending = s.pending := rfl

@[simp] theorem State.setStc_power (s : State) (v : StoreController) : (s.setStc v).power = s.power := rfl
@[simp] theorem State.setStc_link (s : State) (v : StoreController) : (s.setStc v).link = s.link := rfl
@[simp] theorem State.setStc_signals (s : State) (v : StoreController) : (s.setStc v).signals = s.signals := rfl
@[simp] theorem State.setStc_input (s : State) (v : StoreController) : (s.setStc v).input = s.input := rfl
@[simp] theorem State.setStc_gdu (s : State) (v : StoreController) : (s.setStc v).gdu = s.gdu := rfl
@[simp] theorem State.setStc_trc (s : State) (v : StoreController) : (s.setStc v).trc = s.trc := rfl
@[simp] theorem State.setStc_odo (s : State) (v : StoreController) : (s.setStc v).odo = s.odo := rfl
@[simp] theorem State.setStc_stc (s : State) (v : StoreController) : (s.setStc v).stc = v := rfl
@[simp] theorem State.setStc_wnu (s : State) (v : StoreController) : (s.setStc v).wnu = s.wnu := rfl
@[simp] theorem State.setStc_sru (s : State) (v : StoreController) : (s.setStc v).sru = s.sru := rfl
@[simp] theorem State.setStc_clock (s : State) (v : StoreController) : (s.setStc v).clock = s.clock := rfl
@[simp] theorem State.setStc_msc (s : State) (v : StoreController) : (s.setStc v).msc = s.msc := rfl
@[simp] theorem State.setStc_rqs (s : State) (v : StoreController) : (s.setStc v).rqs = s.rqs := rfl
@[simp] theorem State.setStc_settings (s : State) (v : StoreController) : (s.setStc v).settings = s.settings := rfl
@[simp] theorem State.setStc_store (s : State) (v : StoreController) : (s.setStc v).store = s.store := rfl
@[simp] theorem State.setStc_seq (s : State) (v : StoreController) : (s.setStc v).seq = s.seq := rfl
@[simp] theorem State.setStc_draw (s : State) (v : StoreController) : (s.setStc v).draw = s.draw := rfl
@[simp] theorem State.setStc_pending (s : State) (v : StoreController) : (s.setStc v).pending = s.pending := rfl

@[simp] theorem State.setWnu_power (s : State) (v : WarningUnit) : (s.setWnu v).power = s.power := rfl
@[simp] theorem State.setWnu_link (s : State) (v : WarningUnit) : (s.setWnu v).link = s.link := rfl
@[simp] theorem State.setWnu_signals (s : State) (v : WarningUnit) : (s.setWnu v).signals = s.signals := rfl
@[simp] theorem State.setWnu_input (s : State) (v : WarningUnit) : (s.setWnu v).input = s.input := rfl
@[simp] theorem State.setWnu_gdu (s : State) (v : WarningUnit) : (s.setWnu v).gdu = s.gdu := rfl
@[simp] theorem State.setWnu_trc (s : State) (v : WarningUnit) : (s.setWnu v).trc = s.trc := rfl
@[simp] theorem State.setWnu_odo (s : State) (v : WarningUnit) : (s.setWnu v).odo = s.odo := rfl
@[simp] theorem State.setWnu_stc (s : State) (v : WarningUnit) : (s.setWnu v).stc = s.stc := rfl
@[simp] theorem State.setWnu_wnu (s : State) (v : WarningUnit) : (s.setWnu v).wnu = v := rfl
@[simp] theorem State.setWnu_sru (s : State) (v : WarningUnit) : (s.setWnu v).sru = s.sru := rfl
@[simp] theorem State.setWnu_clock (s : State) (v : WarningUnit) : (s.setWnu v).clock = s.clock := rfl
@[simp] theorem State.setWnu_msc (s : State) (v : WarningUnit) : (s.setWnu v).msc = s.msc := rfl
@[simp] theorem State.setWnu_rqs (s : State) (v : WarningUnit) : (s.setWnu v).rqs = s.rqs := rfl
@[simp] theorem State.setWnu_settings (s : State) (v : WarningUnit) : (s.setWnu v).settings = s.settings := rfl
@[simp] theorem State.setWnu_store (s : State) (v : WarningUnit) : (s.setWnu v).store = s.store := rfl
@[simp] theorem State.setWnu_seq (s : State) (v : WarningUnit) : (s.setWnu v).seq = s.seq := rfl
@[simp] theorem State.setWnu_draw (s : State) (v : WarningUnit) : (s.setWnu v).draw = s.draw := rfl
@[simp] theorem State.setWnu_pending (s : State) (v : WarningUnit) : (s.setWnu v).pending = s.pending := rfl

@[simp] theorem State.setSru_power (s : State) (v : ServiceUnit) : (s.setSru v).power = s.power := rfl
@[simp] theorem State.setSru_link (s : State) (v : ServiceUnit) : (s.setSru v).link = s.link := rfl
@[simp] theorem State.setSru_signals (s : State) (v : ServiceUnit) : (s.setSru v).signals = s.signals := rfl
@[simp] theorem State.setSru_input (s : State) (v : ServiceUnit) : (s.setSru v).input = s.input := rfl
@[simp] theorem State.setSru_gdu (s : State) (v : ServiceUnit) : (s.setSru v).gdu = s.gdu := rfl
@[simp] theorem State.setSru_trc (s : State) (v : ServiceUnit) : (s.setSru v).trc = s.trc := rfl
@[simp] theorem State.setSru_odo (s : State) (v : ServiceUnit) : (s.setSru v).odo = s.odo := rfl
@[simp] theorem State.setSru_stc (s : State) (v : ServiceUnit) : (s.setSru v).stc = s.stc := rfl
@[simp] theorem State.setSru_wnu (s : State) (v : ServiceUnit) : (s.setSru v).wnu = s.wnu := rfl
@[simp] theorem State.setSru_sru (s : State) (v : ServiceUnit) : (s.setSru v).sru = v := rfl
@[simp] theorem State.setSru_clock (s : State) (v : ServiceUnit) : (s.setSru v).clock = s.clock := rfl
@[simp] theorem State.setSru_msc (s : State) (v : ServiceUnit) : (s.setSru v).msc = s.msc := rfl
@[simp] theorem State.setSru_rqs (s : State) (v : ServiceUnit) : (s.setSru v).rqs = s.rqs := rfl
@[simp] theorem State.setSru_settings (s : State) (v : ServiceUnit) : (s.setSru v).settings = s.settings := rfl
@[simp] theorem State.setSru_store (s : State) (v : ServiceUnit) : (s.setSru v).store = s.store := rfl
@[simp] theorem State.setSru_seq (s : State) (v : ServiceUnit) : (s.setSru v).seq = s.seq := rfl
@[simp] theorem State.setSru_draw (s : State) (v : ServiceUnit) : (s.setSru v).draw = s.draw := rfl
@[simp] theorem State.setSru_pending (s : State) (v : ServiceUnit) : (s.setSru v).pending = s.pending := rfl

@[simp] theorem State.setClock_power (s : State) (v : Clock) : (s.setClock v).power = s.power := rfl
@[simp] theorem State.setClock_link (s : State) (v : Clock) : (s.setClock v).link = s.link := rfl
@[simp] theorem State.setClock_signals (s : State) (v : Clock) : (s.setClock v).signals = s.signals := rfl
@[simp] theorem State.setClock_input (s : State) (v : Clock) : (s.setClock v).input = s.input := rfl
@[simp] theorem State.setClock_gdu (s : State) (v : Clock) : (s.setClock v).gdu = s.gdu := rfl
@[simp] theorem State.setClock_trc (s : State) (v : Clock) : (s.setClock v).trc = s.trc := rfl
@[simp] theorem State.setClock_odo (s : State) (v : Clock) : (s.setClock v).odo = s.odo := rfl
@[simp] theorem State.setClock_stc (s : State) (v : Clock) : (s.setClock v).stc = s.stc := rfl
@[simp] theorem State.setClock_wnu (s : State) (v : Clock) : (s.setClock v).wnu = s.wnu := rfl
@[simp] theorem State.setClock_sru (s : State) (v : Clock) : (s.setClock v).sru = s.sru := rfl
@[simp] theorem State.setClock_clock (s : State) (v : Clock) : (s.setClock v).clock = v := rfl
@[simp] theorem State.setClock_msc (s : State) (v : Clock) : (s.setClock v).msc = s.msc := rfl
@[simp] theorem State.setClock_rqs (s : State) (v : Clock) : (s.setClock v).rqs = s.rqs := rfl
@[simp] theorem State.setClock_settings (s : State) (v : Clock) : (s.setClock v).settings = s.settings := rfl
@[simp] theorem State.setClock_store (s : State) (v : Clock) : (s.setClock v).store = s.store := rfl
@[simp] theorem State.setClock_seq (s : State) (v : Clock) : (s.setClock v).seq = s.seq := rfl
@[simp] theorem State.setClock_draw (s : State) (v : Clock) : (s.setClock v).draw = s.draw := rfl
@[simp] theorem State.setClock_pending (s : State) (v : Clock) : (s.setClock v).pending = s.pending := rfl

@[simp] theorem State.setMsc_power (s : State) (v : MessageCentre) : (s.setMsc v).power = s.power := rfl
@[simp] theorem State.setMsc_link (s : State) (v : MessageCentre) : (s.setMsc v).link = s.link := rfl
@[simp] theorem State.setMsc_signals (s : State) (v : MessageCentre) : (s.setMsc v).signals = s.signals := rfl
@[simp] theorem State.setMsc_input (s : State) (v : MessageCentre) : (s.setMsc v).input = s.input := rfl
@[simp] theorem State.setMsc_gdu (s : State) (v : MessageCentre) : (s.setMsc v).gdu = s.gdu := rfl
@[simp] theorem State.setMsc_trc (s : State) (v : MessageCentre) : (s.setMsc v).trc = s.trc := rfl
@[simp] theorem State.setMsc_odo (s : State) (v : MessageCentre) : (s.setMsc v).odo = s.odo := rfl
@[simp] theorem State.setMsc_stc (s : State) (v : MessageCentre) : (s.setMsc v).stc = s.stc := rfl
@[simp] theorem State.setMsc_wnu (s : State) (v : MessageCentre) : (s.setMsc v).wnu = s.wnu := rfl
@[simp] theorem State.setMsc_sru (s : State) (v : MessageCentre) : (s.setMsc v).sru = s.sru := rfl
@[simp] theorem State.setMsc_clock (s : State) (v : MessageCentre) : (s.setMsc v).clock = s.clock := rfl
@[simp] theorem State.setMsc_msc (s : State) (v : MessageCentre) : (s.setMsc v).msc = v := rfl
@[simp] theorem State.setMsc_rqs (s : State) (v : MessageCentre) : (s.setMsc v).rqs = s.rqs := rfl
@[simp] theorem State.setMsc_settings (s : State) (v : MessageCentre) : (s.setMsc v).settings = s.settings := rfl
@[simp] theorem State.setMsc_store (s : State) (v : MessageCentre) : (s.setMsc v).store = s.store := rfl
@[simp] theorem State.setMsc_seq (s : State) (v : MessageCentre) : (s.setMsc v).seq = s.seq := rfl
@[simp] theorem State.setMsc_draw (s : State) (v : MessageCentre) : (s.setMsc v).draw = s.draw := rfl
@[simp] theorem State.setMsc_pending (s : State) (v : MessageCentre) : (s.setMsc v).pending = s.pending := rfl

@[simp] theorem State.setRqs_power (s : State) (v : RequestServer) : (s.setRqs v).power = s.power := rfl
@[simp] theorem State.setRqs_link (s : State) (v : RequestServer) : (s.setRqs v).link = s.link := rfl
@[simp] theorem State.setRqs_signals (s : State) (v : RequestServer) : (s.setRqs v).signals = s.signals := rfl
@[simp] theorem State.setRqs_input (s : State) (v : RequestServer) : (s.setRqs v).input = s.input := rfl
@[simp] theorem State.setRqs_gdu (s : State) (v : RequestServer) : (s.setRqs v).gdu = s.gdu := rfl
@[simp] theorem State.setRqs_trc (s : State) (v : RequestServer) : (s.setRqs v).trc = s.trc := rfl
@[simp] theorem State.setRqs_odo (s : State) (v : RequestServer) : (s.setRqs v).odo = s.odo := rfl
@[simp] theorem State.setRqs_stc (s : State) (v : RequestServer) : (s.setRqs v).stc = s.stc := rfl
@[simp] theorem State.setRqs_wnu (s : State) (v : RequestServer) : (s.setRqs v).wnu = s.wnu := rfl
@[simp] theorem State.setRqs_sru (s : State) (v : RequestServer) : (s.setRqs v).sru = s.sru := rfl
@[simp] theorem State.setRqs_clock (s : State) (v : RequestServer) : (s.setRqs v).clock = s.clock := rfl
@[simp] theorem State.setRqs_msc (s : State) (v : RequestServer) : (s.setRqs v).msc = s.msc := rfl
@[simp] theorem State.setRqs_rqs (s : State) (v : RequestServer) : (s.setRqs v).rqs = v := rfl
@[simp] theorem State.setRqs_settings (s : State) (v : RequestServer) : (s.setRqs v).settings = s.settings := rfl
@[simp] theorem State.setRqs_store (s : State) (v : RequestServer) : (s.setRqs v).store = s.store := rfl
@[simp] theorem State.setRqs_seq (s : State) (v : RequestServer) : (s.setRqs v).seq = s.seq := rfl
@[simp] theorem State.setRqs_draw (s : State) (v : RequestServer) : (s.setRqs v).draw = s.draw := rfl
@[simp] theorem State.setRqs_pending (s : State) (v : RequestServer) : (s.setRqs v).pending = s.pending := rfl

@[simp] theorem State.setSettings_power (s : State) (v : Settings) : (s.setSettings v).power = s.power := rfl
@[simp] theorem State.setSettings_link (s : State) (v : Settings) : (s.setSettings v).link = s.link := rfl
@[simp] theorem State.setSettings_signals (s : State) (v : Settings) : (s.setSettings v).signals = s.signals := rfl
@[simp] theorem State.setSettings_input (s : State) (v : Settings) : (s.setSettings v).input = s.input := rfl
@[simp] theorem State.setSettings_gdu (s : State) (v : Settings) : (s.setSettings v).gdu = s.gdu := rfl
@[simp] theorem State.setSettings_trc (s : State) (v : Settings) : (s.setSettings v).trc = s.trc := rfl
@[simp] theorem State.setSettings_odo (s : State) (v : Settings) : (s.setSettings v).odo = s.odo := rfl
@[simp] theorem State.setSettings_stc (s : State) (v : Settings) : (s.setSettings v).stc = s.stc := rfl
@[simp] theorem State.setSettings_wnu (s : State) (v : Settings) : (s.setSettings v).wnu = s.wnu := rfl
@[simp] theorem State.setSettings_sru (s : State) (v : Settings) : (s.setSettings v).sru = s.sru := rfl
@[simp] theorem State.setSettings_clock (s : State) (v : Settings) : (s.setSettings v).clock = s.clock := rfl
@[simp] theorem State.setSettings_msc (s : State) (v : Settings) : (s.setSettings v).msc = s.msc := rfl
@[simp] theorem State.setSettings_rqs (s : State) (v : Settings) : (s.setSettings v).rqs = s.rqs := rfl
@[simp] theorem State.setSettings_settings (s : State) (v : Settings) : (s.setSettings v).settings = v := rfl
@[simp] theorem State.setSettings_store (s : State) (v : Settings) : (s.setSettings v).store = s.store := rfl
@[simp] theorem State.setSettings_seq (s : State) (v : Settings) : (s.setSettings v).seq = s.seq := rfl
@[simp] theorem State.setSettings_draw (s : State) (v : Settings) : (s.setSettings v).draw = s.draw := rfl
@[simp] theorem State.setSettings_pending (s : State) (v : Settings) : (s.setSettings v).pending = s.pending := rfl

@[simp] theorem State.setStore_power (s : State) (v : Memory) : (s.setStore v).power = s.power := rfl
@[simp] theorem State.setStore_link (s : State) (v : Memory) : (s.setStore v).link = s.link := rfl
@[simp] theorem State.setStore_signals (s : State) (v : Memory) : (s.setStore v).signals = s.signals := rfl
@[simp] theorem State.setStore_input (s : State) (v : Memory) : (s.setStore v).input = s.input := rfl
@[simp] theorem State.setStore_gdu (s : State) (v : Memory) : (s.setStore v).gdu = s.gdu := rfl
@[simp] theorem State.setStore_trc (s : State) (v : Memory) : (s.setStore v).trc = s.trc := rfl
@[simp] theorem State.setStore_odo (s : State) (v : Memory) : (s.setStore v).odo = s.odo := rfl
@[simp] theorem State.setStore_stc (s : State) (v : Memory) : (s.setStore v).stc = s.stc := rfl
@[simp] theorem State.setStore_wnu (s : State) (v : Memory) : (s.setStore v).wnu = s.wnu := rfl
@[simp] theorem State.setStore_sru (s : State) (v : Memory) : (s.setStore v).sru = s.sru := rfl
@[simp] theorem State.setStore_clock (s : State) (v : Memory) : (s.setStore v).clock = s.clock := rfl
@[simp] theorem State.setStore_msc (s : State) (v : Memory) : (s.setStore v).msc = s.msc := rfl
@[simp] theorem State.setStore_rqs (s : State) (v : Memory) : (s.setStore v).rqs = s.rqs := rfl
@[simp] theorem State.setStore_settings (s : State) (v : Memory) : (s.setStore v).settings = s.settings := rfl
@[simp] theorem State.setStore_store (s : State) (v : Memory) : (s.setStore v).store = v := rfl
@[simp] theorem State.setStore_seq (s : State) (v : Memory) : (s.setStore v).seq = s.seq := rfl
@[simp] theorem State.setStore_draw (s : State) (v : Memory) : (s.setStore v).draw = s.draw := rfl
@[simp] theorem State.setStore_pending (s : State) (v : Memory) : (s.setStore v).pending = s.pending := rfl

@[simp] theorem State.setSeq_power (s : State) (v : Nat) : (s.setSeq v).power = s.power := rfl
@[simp] theorem State.setSeq_link (s : State) (v : Nat) : (s.setSeq v).link = s.link := rfl
@[simp] theorem State.setSeq_signals (s : State) (v : Nat) : (s.setSeq v).signals = s.signals := rfl
@[simp] theorem State.setSeq_input (s : State) (v : Nat) : (s.setSeq v).input = s.input := rfl
@[simp] theorem State.setSeq_gdu (s : State) (v : Nat) : (s.setSeq v).gdu = s.gdu := rfl
@[simp] theorem State.setSeq_trc (s : State) (v : Nat) : (s.setSeq v).trc = s.trc := rfl
@[simp] theorem State.setSeq_odo (s : State) (v : Nat) : (s.setSeq v).odo = s.odo := rfl
@[simp] theorem State.setSeq_stc (s : State) (v : Nat) : (s.setSeq v).stc = s.stc := rfl
@[simp] theorem State.setSeq_wnu (s : State) (v : Nat) : (s.setSeq v).wnu = s.wnu := rfl
@[simp] theorem State.setSeq_sru (s : State) (v : Nat) : (s.setSeq v).sru = s.sru := rfl
@[simp] theorem State.setSeq_clock (s : State) (v : Nat) : (s.setSeq v).clock = s.clock := rfl
@[simp] theorem State.setSeq_msc (s : State) (v : Nat) : (s.setSeq v).msc = s.msc := rfl
@[simp] theorem State.setSeq_rqs (s : State) (v : Nat) : (s.setSeq v).rqs = s.rqs := rfl
@[simp] theorem State.setSeq_settings (s : State) (v : Nat) : (s.setSeq v).settings = s.settings := rfl
@[simp] theorem State.setSeq_store (s : State) (v : Nat) : (s.setSeq v).store = s.store := rfl
@[simp] theorem State.setSeq_seq (s : State) (v : Nat) : (s.setSeq v).seq = v := rfl
@[simp] theorem State.setSeq_draw (s : State) (v : Nat) : (s.setSeq v).draw = s.draw := rfl
@[simp] theorem State.setSeq_pending (s : State) (v : Nat) : (s.setSeq v).pending = s.pending := rfl

@[simp] theorem State.setDraw_power (s : State) (v : Nat) : (s.setDraw v).power = s.power := rfl
@[simp] theorem State.setDraw_link (s : State) (v : Nat) : (s.setDraw v).link = s.link := rfl
@[simp] theorem State.setDraw_signals (s : State) (v : Nat) : (s.setDraw v).signals = s.signals := rfl
@[simp] theorem State.setDraw_input (s : State) (v : Nat) : (s.setDraw v).input = s.input := rfl
@[simp] theorem State.setDraw_gdu (s : State) (v : Nat) : (s.setDraw v).gdu = s.gdu := rfl
@[simp] theorem State.setDraw_trc (s : State) (v : Nat) : (s.setDraw v).trc = s.trc := rfl
@[simp] theorem State.setDraw_odo (s : State) (v : Nat) : (s.setDraw v).odo = s.odo := rfl
@[simp] theorem State.setDraw_stc (s : State) (v : Nat) : (s.setDraw v).stc = s.stc := rfl
@[simp] theorem State.setDraw_wnu (s : State) (v : Nat) : (s.setDraw v).wnu = s.wnu := rfl
@[simp] theorem State.setDraw_sru (s : State) (v : Nat) : (s.setDraw v).sru = s.sru := rfl
@[simp] theorem State.setDraw_clock (s : State) (v : Nat) : (s.setDraw v).clock = s.clock := rfl
@[simp] theorem State.setDraw_msc (s : State) (v : Nat) : (s.setDraw v).msc = s.msc := rfl
@[simp] theorem State.setDraw_rqs (s : State) (v : Nat) : (s.setDraw v).rqs = s.rqs := rfl
@[simp] theorem State.setDraw_settings (s : State) (v : Nat) : (s.setDraw v).settings = s.settings := rfl
@[simp] theorem State.setDraw_store (s : State) (v : Nat) : (s.setDraw v).store = s.store := rfl
@[simp] theorem State.setDraw_seq (s : State) (v : Nat) : (s.setDraw v).seq = s.seq := rfl
@[simp] theorem State.setDraw_draw (s : State) (v : Nat) : (s.setDraw v).draw = v := rfl
@[simp] theorem State.setDraw_pending (s : State) (v : Nat) : (s.setDraw v).pending = s.pending := rfl

@[simp] theorem State.setPending_power (s : State) (v : List Instr) : (s.setPending v).power = s.power := rfl
@[simp] theorem State.setPending_link (s : State) (v : List Instr) : (s.setPending v).link = s.link := rfl
@[simp] theorem State.setPending_signals (s : State) (v : List Instr) : (s.setPending v).signals = s.signals := rfl
@[simp] theorem State.setPending_input (s : State) (v : List Instr) : (s.setPending v).input = s.input := rfl
@[simp] theorem State.setPending_gdu (s : State) (v : List Instr) : (s.setPending v).gdu = s.gdu := rfl
@[simp] theorem State.setPending_trc (s : State) (v : List Instr) : (s.setPending v).trc = s.trc := rfl
@[simp] theorem State.setPending_odo (s : State) (v : List Instr) : (s.setPending v).odo = s.odo := rfl
@[simp] theorem State.setPending_stc (s : State) (v : List Instr) : (s.setPending v).stc = s.stc := rfl
@[simp] theorem State.setPending_wnu (s : State) (v : List Instr) : (s.setPending v).wnu = s.wnu := rfl
@[simp] theorem State.setPending_sru (s : State) (v : List Instr) : (s.setPending v).sru = s.sru := rfl
@[simp] theorem State.setPending_clock (s : State) (v : List Instr) : (s.setPending v).clock = s.clock := rfl
@[simp] theorem State.setPending_msc (s : State) (v : List Instr) : (s.setPending v).msc = s.msc := rfl
@[simp] theorem State.setPending_rqs (s : State) (v : List Instr) : (s.setPending v).rqs = s.rqs := rfl
@[simp] theorem State.setPending_settings (s : State) (v : List Instr) : (s.setPending v).settings = s.settings := rfl
@[simp] theorem State.setPending_store (s : State) (v : List Instr) : (s.setPending v).store = s.store := rfl
@[simp] theorem State.setPending_seq (s : State) (v : List Instr) : (s.setPending v).seq = s.seq := rfl
@[simp] theorem State.setPending_draw (s : State) (v : List Instr) : (s.setPending v).draw = s.draw := rfl
@[simp] theorem State.setPending_pending (s : State) (v : List Instr) : (s.setPending v).pending = v := rfl

end Sys2Proof.Machine
end

