-- ==== Sys2Proof/Laws/Lists.lean ====
section
/-! SUPPORT. A fold keeps what each of its steps keeps. -/

namespace Sys2Proof.Machine

open Sys2Proof

/-- A left fold keeps a view of the state that every step keeps. -/
theorem foldl_keeps {α β σ : Type} (p : σ → β) (f : σ → α → σ) (h : ∀ s x, p (f s x) = p s)
    (l : List α) (s : σ) : p (l.foldl f s) = p s := by
  induction l generalizing s with
  | nil => rfl
  | cons x xs ih => rw [List.foldl_cons, ih, h]

/-- A left fold keeps a property that every step keeps. -/
theorem foldl_inv {α σ : Type} (P : σ → Prop) (f : σ → α → σ) (h : ∀ s x, P s → P (f s x))
    (l : List α) (s : σ) (hs : P s) : P (l.foldl f s) := by
  induction l generalizing s with
  | nil => exact hs
  | cons x xs ih => exact ih _ (h s x hs)

end Sys2Proof.Machine
end

