-- ==== Sys2Proof/Laws/FramesCore.lean ====
section
/-! SUPPORT. What each shared operation of the counters, the transmit queue, the warnings, the store and the trips leaves
alone: one lemma for each, a conjunction of the fields it keeps. -/

namespace Sys2Proof.Machine

open Sys2Proof

@[simp] theorem State.nextMoment_frame (s : State) :
    (State.nextMoment s).power = s.power ∧ (State.nextMoment s).link = s.link ∧
    (State.nextMoment s).signals = s.signals ∧ (State.nextMoment s).input = s.input ∧
    (State.nextMoment s).gdu = s.gdu ∧ (State.nextMoment s).trc = s.trc ∧
    (State.nextMoment s).odo = s.odo ∧ (State.nextMoment s).stc = s.stc ∧
    (State.nextMoment s).wnu = s.wnu ∧ (State.nextMoment s).sru = s.sru ∧
    (State.nextMoment s).clock = s.clock ∧ (State.nextMoment s).msc = s.msc ∧
    (State.nextMoment s).rqs = s.rqs ∧ (State.nextMoment s).settings = s.settings ∧
    (State.nextMoment s).store = s.store ∧ (State.nextMoment s).draw = s.draw ∧
    (State.nextMoment s).pending = s.pending := by
  simp [State.nextMoment]

@[simp] theorem State.nextDraw_frame (s : State) :
    (State.nextDraw s).power = s.power ∧ (State.nextDraw s).link = s.link ∧
    (State.nextDraw s).signals = s.signals ∧ (State.nextDraw s).input = s.input ∧
    (State.nextDraw s).gdu = s.gdu ∧ (State.nextDraw s).trc = s.trc ∧
    (State.nextDraw s).odo = s.odo ∧ (State.nextDraw s).stc = s.stc ∧
    (State.nextDraw s).wnu = s.wnu ∧ (State.nextDraw s).sru = s.sru ∧
    (State.nextDraw s).clock = s.clock ∧ (State.nextDraw s).msc = s.msc ∧
    (State.nextDraw s).rqs = s.rqs ∧ (State.nextDraw s).settings = s.settings ∧
    (State.nextDraw s).store = s.store ∧ (State.nextDraw s).seq = s.seq ∧
    (State.nextDraw s).pending = s.pending := by
  simp [State.nextDraw]

@[simp] theorem recordCode_frame (c : Byte) (s : State) :
    (recordCode c s).power = s.power ∧ (recordCode c s).link = s.link ∧
    (recordCode c s).signals = s.signals ∧ (recordCode c s).input = s.input ∧
    (recordCode c s).gdu = s.gdu ∧ (recordCode c s).trc = s.trc ∧ (recordCode c s).odo = s.odo ∧
    (recordCode c s).stc = s.stc ∧ (recordCode c s).wnu = s.wnu ∧ (recordCode c s).sru = s.sru ∧
    (recordCode c s).clock = s.clock ∧ (recordCode c s).msc = s.msc ∧
    (recordCode c s).settings = s.settings ∧ (recordCode c s).store = s.store ∧
    (recordCode c s).seq = s.seq ∧ (recordCode c s).draw = s.draw ∧
    (recordCode c s).pending = s.pending := by
  simp [recordCode]

@[simp] theorem offer_frame (f : Frame) (s : State) :
    (offer f s).power = s.power ∧ (offer f s).signals = s.signals ∧ (offer f s).input = s.input ∧
    (offer f s).gdu = s.gdu ∧ (offer f s).trc = s.trc ∧ (offer f s).odo = s.odo ∧
    (offer f s).stc = s.stc ∧ (offer f s).wnu = s.wnu ∧ (offer f s).sru = s.sru ∧
    (offer f s).clock = s.clock ∧ (offer f s).msc = s.msc ∧ (offer f s).rqs = s.rqs ∧
    (offer f s).settings = s.settings ∧ (offer f s).store = s.store ∧ (offer f s).draw = s.draw ∧
    (offer f s).pending = s.pending := by
  simp [offer]

@[simp] theorem offerBroadcast_frame (cls : Nat) (id : Byte) (data : List Byte) (s : State) :
    (offerBroadcast cls id data s).power = s.power ∧
    (offerBroadcast cls id data s).signals = s.signals ∧
    (offerBroadcast cls id data s).input = s.input ∧ (offerBroadcast cls id data s).gdu = s.gdu ∧
    (offerBroadcast cls id data s).trc = s.trc ∧ (offerBroadcast cls id data s).odo = s.odo ∧
    (offerBroadcast cls id data s).stc = s.stc ∧ (offerBroadcast cls id data s).wnu = s.wnu ∧
    (offerBroadcast cls id data s).sru = s.sru ∧ (offerBroadcast cls id data s).clock = s.clock ∧
    (offerBroadcast cls id data s).msc = s.msc ∧ (offerBroadcast cls id data s).rqs = s.rqs ∧
    (offerBroadcast cls id data s).settings = s.settings ∧
    (offerBroadcast cls id data s).store = s.store ∧
    (offerBroadcast cls id data s).draw = s.draw ∧
    (offerBroadcast cls id data s).pending = s.pending := by
  simp [offerBroadcast]

@[simp] theorem respond_frame (id : Byte) (requester : Nat) (data : List Byte) (s : State) :
    (respond id requester data s).power = s.power ∧
    (respond id requester data s).signals = s.signals ∧
    (respond id requester data s).input = s.input ∧ (respond id requester data s).gdu = s.gdu ∧
    (respond id requester data s).trc = s.trc ∧ (respond id requester data s).odo = s.odo ∧
    (respond id requester data s).stc = s.stc ∧ (respond id requester data s).wnu = s.wnu ∧
    (respond id requester data s).sru = s.sru ∧ (respond id requester data s).clock = s.clock ∧
    (respond id requester data s).msc = s.msc ∧ (respond id requester data s).rqs = s.rqs ∧
    (respond id requester data s).settings = s.settings ∧
    (respond id requester data s).store = s.store ∧ (respond id requester data s).draw = s.draw ∧
    (respond id requester data s).pending = s.pending := by
  simp [respond]

@[simp] theorem offerTime_frame (s : State) :
    (offerTime s).power = s.power ∧ (offerTime s).signals = s.signals ∧
    (offerTime s).input = s.input ∧ (offerTime s).gdu = s.gdu ∧ (offerTime s).trc = s.trc ∧
    (offerTime s).odo = s.odo ∧ (offerTime s).stc = s.stc ∧ (offerTime s).wnu = s.wnu ∧
    (offerTime s).sru = s.sru ∧ (offerTime s).clock = s.clock ∧ (offerTime s).msc = s.msc ∧
    (offerTime s).rqs = s.rqs ∧ (offerTime s).settings = s.settings ∧
    (offerTime s).store = s.store ∧ (offerTime s).draw = s.draw ∧
    (offerTime s).pending = s.pending := by
  simp [offerTime]

@[simp] theorem State.setSignal_frame (s : State) (g : Signal) (r : SignalRecord) :
    (State.setSignal s g r).power = s.power ∧ (State.setSignal s g r).link = s.link ∧
    (State.setSignal s g r).input = s.input ∧ (State.setSignal s g r).gdu = s.gdu ∧
    (State.setSignal s g r).trc = s.trc ∧ (State.setSignal s g r).odo = s.odo ∧
    (State.setSignal s g r).stc = s.stc ∧ (State.setSignal s g r).wnu = s.wnu ∧
    (State.setSignal s g r).sru = s.sru ∧ (State.setSignal s g r).clock = s.clock ∧
    (State.setSignal s g r).msc = s.msc ∧ (State.setSignal s g r).rqs = s.rqs ∧
    (State.setSignal s g r).settings = s.settings ∧ (State.setSignal s g r).store = s.store ∧
    (State.setSignal s g r).seq = s.seq ∧ (State.setSignal s g r).draw = s.draw ∧
    (State.setSignal s g r).pending = s.pending := by
  simp [State.setSignal]

@[simp] theorem offerDistance_frame (s : State) :
    (offerDistance s).power = s.power ∧ (offerDistance s).signals = s.signals ∧
    (offerDistance s).input = s.input ∧ (offerDistance s).gdu = s.gdu ∧
    (offerDistance s).trc = s.trc ∧ (offerDistance s).odo = s.odo ∧
    (offerDistance s).stc = s.stc ∧ (offerDistance s).wnu = s.wnu ∧
    (offerDistance s).sru = s.sru ∧ (offerDistance s).clock = s.clock ∧
    (offerDistance s).msc = s.msc ∧ (offerDistance s).rqs = s.rqs ∧
    (offerDistance s).settings = s.settings ∧ (offerDistance s).store = s.store ∧
    (offerDistance s).draw = s.draw ∧ (offerDistance s).pending = s.pending := by
  simp [offerDistance]

@[simp] theorem offerWarnings_frame (s : State) :
    (offerWarnings s).power = s.power ∧ (offerWarnings s).signals = s.signals ∧
    (offerWarnings s).input = s.input ∧ (offerWarnings s).gdu = s.gdu ∧
    (offerWarnings s).trc = s.trc ∧ (offerWarnings s).odo = s.odo ∧
    (offerWarnings s).stc = s.stc ∧ (offerWarnings s).wnu = s.wnu ∧
    (offerWarnings s).sru = s.sru ∧ (offerWarnings s).clock = s.clock ∧
    (offerWarnings s).msc = s.msc ∧ (offerWarnings s).rqs = s.rqs ∧
    (offerWarnings s).settings = s.settings ∧ (offerWarnings s).store = s.store ∧
    (offerWarnings s).draw = s.draw ∧ (offerWarnings s).pending = s.pending := by
  simp [offerWarnings]

@[simp] theorem noteHead_frame (s : State) :
    (noteHead s).power = s.power ∧ (noteHead s).link = s.link ∧ (noteHead s).signals = s.signals ∧
    (noteHead s).input = s.input ∧ (noteHead s).gdu = s.gdu ∧ (noteHead s).trc = s.trc ∧
    (noteHead s).odo = s.odo ∧ (noteHead s).stc = s.stc ∧ (noteHead s).sru = s.sru ∧
    (noteHead s).clock = s.clock ∧ (noteHead s).msc = s.msc ∧ (noteHead s).rqs = s.rqs ∧
    (noteHead s).settings = s.settings ∧ (noteHead s).store = s.store ∧ (noteHead s).seq = s.seq ∧
    (noteHead s).draw = s.draw ∧ (noteHead s).pending = s.pending := by
  simp [noteHead]

@[simp] theorem chimeForWarning_frame (n : Warning) (s : State) :
    (chimeForWarning n s).power = s.power ∧ (chimeForWarning n s).link = s.link ∧
    (chimeForWarning n s).signals = s.signals ∧ (chimeForWarning n s).input = s.input ∧
    (chimeForWarning n s).gdu = s.gdu ∧ (chimeForWarning n s).trc = s.trc ∧
    (chimeForWarning n s).odo = s.odo ∧ (chimeForWarning n s).stc = s.stc ∧
    (chimeForWarning n s).sru = s.sru ∧ (chimeForWarning n s).clock = s.clock ∧
    (chimeForWarning n s).msc = s.msc ∧ (chimeForWarning n s).rqs = s.rqs ∧
    (chimeForWarning n s).settings = s.settings ∧ (chimeForWarning n s).store = s.store ∧
    (chimeForWarning n s).draw = s.draw ∧ (chimeForWarning n s).pending = s.pending := by
  unfold chimeForWarning; (repeat' split) <;> simp

@[simp] theorem logAppend_frame (n : Warning) (s : State) :
    (logAppend n s).power = s.power ∧ (logAppend n s).link = s.link ∧
    (logAppend n s).signals = s.signals ∧ (logAppend n s).input = s.input ∧
    (logAppend n s).gdu = s.gdu ∧ (logAppend n s).trc = s.trc ∧ (logAppend n s).odo = s.odo ∧
    (logAppend n s).stc = s.stc ∧ (logAppend n s).sru = s.sru ∧ (logAppend n s).clock = s.clock ∧
    (logAppend n s).msc = s.msc ∧ (logAppend n s).rqs = s.rqs ∧
    (logAppend n s).settings = s.settings ∧ (logAppend n s).store = s.store ∧
    (logAppend n s).seq = s.seq ∧ (logAppend n s).draw = s.draw ∧
    (logAppend n s).pending = s.pending := by
  unfold logAppend; (try dsimp only); (repeat' split) <;> simp

@[simp] theorem countOccurrence_frame (n : Warning) (s : State) :
    (countOccurrence n s).power = s.power ∧ (countOccurrence n s).link = s.link ∧
    (countOccurrence n s).signals = s.signals ∧ (countOccurrence n s).input = s.input ∧
    (countOccurrence n s).gdu = s.gdu ∧ (countOccurrence n s).trc = s.trc ∧
    (countOccurrence n s).odo = s.odo ∧ (countOccurrence n s).stc = s.stc ∧
    (countOccurrence n s).sru = s.sru ∧ (countOccurrence n s).clock = s.clock ∧
    (countOccurrence n s).msc = s.msc ∧ (countOccurrence n s).rqs = s.rqs ∧
    (countOccurrence n s).settings = s.settings ∧ (countOccurrence n s).store = s.store ∧
    (countOccurrence n s).seq = s.seq ∧ (countOccurrence n s).draw = s.draw ∧
    (countOccurrence n s).pending = s.pending := by
  simp [countOccurrence]

@[simp] theorem announce_frame (n : Warning) (s : State) :
    (announce n s).power = s.power ∧ (announce n s).signals = s.signals ∧
    (announce n s).input = s.input ∧ (announce n s).gdu = s.gdu ∧ (announce n s).trc = s.trc ∧
    (announce n s).odo = s.odo ∧ (announce n s).stc = s.stc ∧ (announce n s).sru = s.sru ∧
    (announce n s).clock = s.clock ∧ (announce n s).msc = s.msc ∧ (announce n s).rqs = s.rqs ∧
    (announce n s).settings = s.settings ∧ (announce n s).store = s.store ∧
    (announce n s).draw = s.draw ∧ (announce n s).pending = s.pending := by
  simp [announce]

@[simp] theorem leaveList_frame (n : Warning) (s : State) :
    (leaveList n s).power = s.power ∧ (leaveList n s).signals = s.signals ∧
    (leaveList n s).input = s.input ∧ (leaveList n s).gdu = s.gdu ∧ (leaveList n s).trc = s.trc ∧
    (leaveList n s).odo = s.odo ∧ (leaveList n s).stc = s.stc ∧ (leaveList n s).sru = s.sru ∧
    (leaveList n s).clock = s.clock ∧ (leaveList n s).msc = s.msc ∧ (leaveList n s).rqs = s.rqs ∧
    (leaveList n s).settings = s.settings ∧ (leaveList n s).store = s.store ∧
    (leaveList n s).draw = s.draw ∧ (leaveList n s).pending = s.pending := by
  simp [leaveList]

@[simp] theorem acknowledge_frame (n : Warning) (s : State) :
    (acknowledge n s).power = s.power ∧ (acknowledge n s).link = s.link ∧
    (acknowledge n s).signals = s.signals ∧ (acknowledge n s).input = s.input ∧
    (acknowledge n s).gdu = s.gdu ∧ (acknowledge n s).trc = s.trc ∧
    (acknowledge n s).odo = s.odo ∧ (acknowledge n s).stc = s.stc ∧
    (acknowledge n s).sru = s.sru ∧ (acknowledge n s).clock = s.clock ∧
    (acknowledge n s).msc = s.msc ∧ (acknowledge n s).rqs = s.rqs ∧
    (acknowledge n s).settings = s.settings ∧ (acknowledge n s).store = s.store ∧
    (acknowledge n s).seq = s.seq ∧ (acknowledge n s).draw = s.draw ∧
    (acknowledge n s).pending = s.pending := by
  unfold acknowledge; (try dsimp only); (repeat' split) <;> simp

@[simp] theorem acknowledgeHead_frame (s : State) :
    (acknowledgeHead s).power = s.power ∧ (acknowledgeHead s).link = s.link ∧
    (acknowledgeHead s).signals = s.signals ∧ (acknowledgeHead s).input = s.input ∧
    (acknowledgeHead s).gdu = s.gdu ∧ (acknowledgeHead s).trc = s.trc ∧
    (acknowledgeHead s).odo = s.odo ∧ (acknowledgeHead s).stc = s.stc ∧
    (acknowledgeHead s).sru = s.sru ∧ (acknowledgeHead s).clock = s.clock ∧
    (acknowledgeHead s).msc = s.msc ∧ (acknowledgeHead s).rqs = s.rqs ∧
    (acknowledgeHead s).settings = s.settings ∧ (acknowledgeHead s).store = s.store ∧
    (acknowledgeHead s).seq = s.seq ∧ (acknowledgeHead s).draw = s.draw ∧
    (acknowledgeHead s).pending = s.pending := by
  unfold acknowledgeHead; (repeat' split) <;> simp

@[simp] theorem applyMove_frame (n : Warning) (s : State) :
    (applyMove n s).power = s.power ∧ (applyMove n s).signals = s.signals ∧
    (applyMove n s).input = s.input ∧ (applyMove n s).gdu = s.gdu ∧ (applyMove n s).trc = s.trc ∧
    (applyMove n s).odo = s.odo ∧ (applyMove n s).stc = s.stc ∧ (applyMove n s).sru = s.sru ∧
    (applyMove n s).clock = s.clock ∧ (applyMove n s).msc = s.msc ∧ (applyMove n s).rqs = s.rqs ∧
    (applyMove n s).settings = s.settings ∧ (applyMove n s).store = s.store ∧
    (applyMove n s).draw = s.draw ∧ (applyMove n s).pending = s.pending := by
  unfold applyMove; (try dsimp only); (repeat' split) <;> simp

@[simp] theorem applyLoud_frame (raised : List Warning) (n : Warning) (s : State) :
    (applyLoud raised n s).power = s.power ∧ (applyLoud raised n s).signals = s.signals ∧
    (applyLoud raised n s).input = s.input ∧ (applyLoud raised n s).gdu = s.gdu ∧
    (applyLoud raised n s).trc = s.trc ∧ (applyLoud raised n s).odo = s.odo ∧
    (applyLoud raised n s).stc = s.stc ∧ (applyLoud raised n s).sru = s.sru ∧
    (applyLoud raised n s).clock = s.clock ∧ (applyLoud raised n s).msc = s.msc ∧
    (applyLoud raised n s).rqs = s.rqs ∧ (applyLoud raised n s).settings = s.settings ∧
    (applyLoud raised n s).store = s.store ∧ (applyLoud raised n s).draw = s.draw ∧
    (applyLoud raised n s).pending = s.pending := by
  unfold applyLoud; (repeat' split) <;> simp

@[simp] theorem applyTogether_frame (raised loud : List Warning) (s : State) :
    (applyTogether raised loud s).power = s.power ∧
    (applyTogether raised loud s).signals = s.signals ∧
    (applyTogether raised loud s).input = s.input ∧ (applyTogether raised loud s).gdu = s.gdu ∧
    (applyTogether raised loud s).trc = s.trc ∧ (applyTogether raised loud s).odo = s.odo ∧
    (applyTogether raised loud s).stc = s.stc ∧ (applyTogether raised loud s).sru = s.sru ∧
    (applyTogether raised loud s).clock = s.clock ∧ (applyTogether raised loud s).msc = s.msc ∧
    (applyTogether raised loud s).rqs = s.rqs ∧
    (applyTogether raised loud s).settings = s.settings ∧
    (applyTogether raised loud s).store = s.store ∧
    (applyTogether raised loud s).pending = s.pending := by
  unfold applyTogether; (repeat' split) <;>
    simp [foldl_keeps State.power,
      foldl_keeps State.signals,
      foldl_keeps State.input,
      foldl_keeps State.gdu,
      foldl_keeps State.trc,
      foldl_keeps State.odo,
      foldl_keeps State.stc,
      foldl_keeps State.sru,
      foldl_keeps State.clock,
      foldl_keeps State.msc,
      foldl_keeps State.rqs,
      foldl_keeps State.settings,
      foldl_keeps State.store,
      foldl_keeps State.pending]

@[simp] theorem evalTogether_frame (raised ws : List Warning) (s : State) :
    (evalTogether raised ws s).power = s.power ∧ (evalTogether raised ws s).signals = s.signals ∧
    (evalTogether raised ws s).input = s.input ∧ (evalTogether raised ws s).gdu = s.gdu ∧
    (evalTogether raised ws s).trc = s.trc ∧ (evalTogether raised ws s).odo = s.odo ∧
    (evalTogether raised ws s).stc = s.stc ∧ (evalTogether raised ws s).sru = s.sru ∧
    (evalTogether raised ws s).clock = s.clock ∧ (evalTogether raised ws s).msc = s.msc ∧
    (evalTogether raised ws s).rqs = s.rqs ∧ (evalTogether raised ws s).settings = s.settings ∧
    (evalTogether raised ws s).store = s.store ∧ (evalTogether raised ws s).pending = s.pending := by
  unfold evalTogether; (try dsimp only); (repeat' split) <;>
    simp [foldl_keeps State.power,
      foldl_keeps State.signals,
      foldl_keeps State.input,
      foldl_keeps State.gdu,
      foldl_keeps State.trc,
      foldl_keeps State.odo,
      foldl_keeps State.stc,
      foldl_keeps State.sru,
      foldl_keeps State.clock,
      foldl_keeps State.msc,
      foldl_keeps State.rqs,
      foldl_keeps State.settings,
      foldl_keeps State.store,
      foldl_keeps State.pending]

@[simp] theorem evalWarnings_frame (ws : List Warning) (s : State) :
    (evalWarnings ws s).power = s.power ∧ (evalWarnings ws s).signals = s.signals ∧
    (evalWarnings ws s).input = s.input ∧ (evalWarnings ws s).gdu = s.gdu ∧
    (evalWarnings ws s).trc = s.trc ∧ (evalWarnings ws s).odo = s.odo ∧
    (evalWarnings ws s).stc = s.stc ∧ (evalWarnings ws s).sru = s.sru ∧
    (evalWarnings ws s).clock = s.clock ∧ (evalWarnings ws s).msc = s.msc ∧
    (evalWarnings ws s).rqs = s.rqs ∧ (evalWarnings ws s).settings = s.settings ∧
    (evalWarnings ws s).store = s.store ∧ (evalWarnings ws s).pending = s.pending := by
  simp [evalWarnings]

@[simp] theorem evalSpoiled_frame (ws : List Warning) (s : State) :
    (evalSpoiled ws s).power = s.power ∧ (evalSpoiled ws s).signals = s.signals ∧
    (evalSpoiled ws s).input = s.input ∧ (evalSpoiled ws s).gdu = s.gdu ∧
    (evalSpoiled ws s).trc = s.trc ∧ (evalSpoiled ws s).odo = s.odo ∧
    (evalSpoiled ws s).stc = s.stc ∧ (evalSpoiled ws s).sru = s.sru ∧
    (evalSpoiled ws s).clock = s.clock ∧ (evalSpoiled ws s).msc = s.msc ∧
    (evalSpoiled ws s).rqs = s.rqs ∧ (evalSpoiled ws s).settings = s.settings ∧
    (evalSpoiled ws s).store = s.store ∧ (evalSpoiled ws s).pending = s.pending := by
  unfold evalSpoiled; split <;> simp

@[simp] theorem followEngine_frame (s : State) :
    (followEngine s).power = s.power ∧ (followEngine s).link = s.link ∧
    (followEngine s).signals = s.signals ∧ (followEngine s).input = s.input ∧
    (followEngine s).gdu = s.gdu ∧ (followEngine s).trc = s.trc ∧ (followEngine s).odo = s.odo ∧
    (followEngine s).stc = s.stc ∧ (followEngine s).sru = s.sru ∧
    (followEngine s).clock = s.clock ∧ (followEngine s).msc = s.msc ∧
    (followEngine s).rqs = s.rqs ∧ (followEngine s).settings = s.settings ∧
    (followEngine s).store = s.store ∧ (followEngine s).seq = s.seq ∧
    (followEngine s).draw = s.draw ∧ (followEngine s).pending = s.pending := by
  unfold followEngine; (try dsimp only); (repeat' split) <;> simp

@[simp] theorem stcBegin_frame (s : State) :
    (stcBegin s).power = s.power ∧ (stcBegin s).link = s.link ∧ (stcBegin s).signals = s.signals ∧
    (stcBegin s).input = s.input ∧ (stcBegin s).gdu = s.gdu ∧ (stcBegin s).trc = s.trc ∧
    (stcBegin s).wnu = s.wnu ∧ (stcBegin s).sru = s.sru ∧ (stcBegin s).clock = s.clock ∧
    (stcBegin s).msc = s.msc ∧ (stcBegin s).rqs = s.rqs ∧ (stcBegin s).settings = s.settings ∧
    (stcBegin s).store = s.store ∧ (stcBegin s).seq = s.seq ∧ (stcBegin s).draw = s.draw ∧
    (stcBegin s).pending = s.pending := by
  unfold stcBegin; (try dsimp only); (repeat' split) <;> simp

@[simp] theorem commitStart_frame (s : State) :
    (commitStart s).power = s.power ∧ (commitStart s).link = s.link ∧
    (commitStart s).signals = s.signals ∧ (commitStart s).input = s.input ∧
    (commitStart s).gdu = s.gdu ∧ (commitStart s).trc = s.trc ∧ (commitStart s).wnu = s.wnu ∧
    (commitStart s).sru = s.sru ∧ (commitStart s).clock = s.clock ∧ (commitStart s).msc = s.msc ∧
    (commitStart s).rqs = s.rqs ∧ (commitStart s).settings = s.settings ∧
    (commitStart s).store = s.store ∧ (commitStart s).seq = s.seq ∧
    (commitStart s).draw = s.draw ∧ (commitStart s).pending = s.pending := by
  simp [commitStart]

@[simp] theorem handService_frame (reset : Option ServiceItem) (s : State) :
    (handService reset s).power = s.power ∧ (handService reset s).link = s.link ∧
    (handService reset s).signals = s.signals ∧ (handService reset s).input = s.input ∧
    (handService reset s).gdu = s.gdu ∧ (handService reset s).trc = s.trc ∧
    (handService reset s).wnu = s.wnu ∧ (handService reset s).sru = s.sru ∧
    (handService reset s).clock = s.clock ∧ (handService reset s).msc = s.msc ∧
    (handService reset s).rqs = s.rqs ∧ (handService reset s).settings = s.settings ∧
    (handService reset s).store = s.store ∧ (handService reset s).seq = s.seq ∧
    (handService reset s).draw = s.draw ∧ (handService reset s).pending = s.pending := by
  simp [handService]

@[simp] theorem handDirty_frame (s : State) :
    (handDirty s).power = s.power ∧ (handDirty s).link = s.link ∧
    (handDirty s).signals = s.signals ∧ (handDirty s).input = s.input ∧
    (handDirty s).gdu = s.gdu ∧ (handDirty s).trc = s.trc ∧ (handDirty s).wnu = s.wnu ∧
    (handDirty s).sru = s.sru ∧ (handDirty s).clock = s.clock ∧ (handDirty s).msc = s.msc ∧
    (handDirty s).rqs = s.rqs ∧ (handDirty s).settings = s.settings ∧
    (handDirty s).store = s.store ∧ (handDirty s).seq = s.seq ∧ (handDirty s).draw = s.draw ∧
    (handDirty s).pending = s.pending := by
  unfold handDirty; (repeat' split) <;> simp

@[simp] theorem handConfiguration_frame (s : State) :
    (handConfiguration s).power = s.power ∧ (handConfiguration s).link = s.link ∧
    (handConfiguration s).signals = s.signals ∧ (handConfiguration s).input = s.input ∧
    (handConfiguration s).gdu = s.gdu ∧ (handConfiguration s).trc = s.trc ∧
    (handConfiguration s).wnu = s.wnu ∧ (handConfiguration s).sru = s.sru ∧
    (handConfiguration s).clock = s.clock ∧ (handConfiguration s).msc = s.msc ∧
    (handConfiguration s).rqs = s.rqs ∧ (handConfiguration s).settings = s.settings ∧
    (handConfiguration s).store = s.store ∧ (handConfiguration s).seq = s.seq ∧
    (handConfiguration s).draw = s.draw ∧ (handConfiguration s).pending = s.pending := by
  simp [handConfiguration]

@[simp] theorem saveOdometer_frame (s : State) :
    (saveOdometer s).power = s.power ∧ (saveOdometer s).link = s.link ∧
    (saveOdometer s).signals = s.signals ∧ (saveOdometer s).input = s.input ∧
    (saveOdometer s).gdu = s.gdu ∧ (saveOdometer s).trc = s.trc ∧ (saveOdometer s).wnu = s.wnu ∧
    (saveOdometer s).sru = s.sru ∧ (saveOdometer s).clock = s.clock ∧
    (saveOdometer s).msc = s.msc ∧ (saveOdometer s).rqs = s.rqs ∧
    (saveOdometer s).settings = s.settings ∧ (saveOdometer s).store = s.store ∧
    (saveOdometer s).seq = s.seq ∧ (saveOdometer s).draw = s.draw ∧
    (saveOdometer s).pending = s.pending := by
  unfold saveOdometer; (try dsimp only); (repeat' split) <;> simp

@[simp] theorem odometerVerified_frame (w : Nat) (s : State) :
    (odometerVerified w s).power = s.power ∧ (odometerVerified w s).link = s.link ∧
    (odometerVerified w s).signals = s.signals ∧ (odometerVerified w s).input = s.input ∧
    (odometerVerified w s).gdu = s.gdu ∧ (odometerVerified w s).trc = s.trc ∧
    (odometerVerified w s).wnu = s.wnu ∧ (odometerVerified w s).sru = s.sru ∧
    (odometerVerified w s).clock = s.clock ∧ (odometerVerified w s).msc = s.msc ∧
    (odometerVerified w s).rqs = s.rqs ∧ (odometerVerified w s).settings = s.settings ∧
    (odometerVerified w s).store = s.store ∧ (odometerVerified w s).seq = s.seq ∧
    (odometerVerified w s).draw = s.draw ∧ (odometerVerified w s).pending = s.pending := by
  unfold odometerVerified; (try dsimp only); (repeat' split) <;> simp

@[simp] theorem odometerFailed_frame (w : Nat) (s : State) :
    (odometerFailed w s).power = s.power ∧ (odometerFailed w s).link = s.link ∧
    (odometerFailed w s).signals = s.signals ∧ (odometerFailed w s).input = s.input ∧
    (odometerFailed w s).gdu = s.gdu ∧ (odometerFailed w s).trc = s.trc ∧
    (odometerFailed w s).stc = s.stc ∧ (odometerFailed w s).wnu = s.wnu ∧
    (odometerFailed w s).sru = s.sru ∧ (odometerFailed w s).clock = s.clock ∧
    (odometerFailed w s).msc = s.msc ∧ (odometerFailed w s).rqs = s.rqs ∧
    (odometerFailed w s).settings = s.settings ∧ (odometerFailed w s).store = s.store ∧
    (odometerFailed w s).seq = s.seq ∧ (odometerFailed w s).draw = s.draw ∧
    (odometerFailed w s).pending = s.pending := by
  simp [odometerFailed]

@[simp] theorem cutUnit_frame (s : State) :
    (cutUnit s).power = s.power ∧ (cutUnit s).link = s.link ∧ (cutUnit s).signals = s.signals ∧
    (cutUnit s).input = s.input ∧ (cutUnit s).gdu = s.gdu ∧ (cutUnit s).trc = s.trc ∧
    (cutUnit s).odo = s.odo ∧ (cutUnit s).stc = s.stc ∧ (cutUnit s).wnu = s.wnu ∧
    (cutUnit s).sru = s.sru ∧ (cutUnit s).clock = s.clock ∧ (cutUnit s).msc = s.msc ∧
    (cutUnit s).rqs = s.rqs ∧ (cutUnit s).settings = s.settings ∧ (cutUnit s).seq = s.seq ∧
    (cutUnit s).pending = s.pending := by
  unfold cutUnit; (repeat' split) <;> simp

@[simp] theorem resetTrip_frame (t : Trip) (s : State) :
    (resetTrip t s).power = s.power ∧ (resetTrip t s).link = s.link ∧
    (resetTrip t s).signals = s.signals ∧ (resetTrip t s).input = s.input ∧
    (resetTrip t s).gdu = s.gdu ∧ (resetTrip t s).odo = s.odo ∧ (resetTrip t s).stc = s.stc ∧
    (resetTrip t s).wnu = s.wnu ∧ (resetTrip t s).clock = s.clock ∧ (resetTrip t s).msc = s.msc ∧
    (resetTrip t s).rqs = s.rqs ∧ (resetTrip t s).settings = s.settings ∧
    (resetTrip t s).store = s.store ∧ (resetTrip t s).seq = s.seq ∧
    (resetTrip t s).draw = s.draw ∧ (resetTrip t s).pending = s.pending := by
  unfold resetTrip; (try dsimp only); (repeat' split) <;> simp

@[simp] theorem resetTrips_frame (p : TripRecord → Bool) (s : State) :
    (resetTrips p s).power = s.power ∧ (resetTrips p s).link = s.link ∧
    (resetTrips p s).signals = s.signals ∧ (resetTrips p s).input = s.input ∧
    (resetTrips p s).gdu = s.gdu ∧ (resetTrips p s).odo = s.odo ∧ (resetTrips p s).stc = s.stc ∧
    (resetTrips p s).wnu = s.wnu ∧ (resetTrips p s).clock = s.clock ∧
    (resetTrips p s).msc = s.msc ∧ (resetTrips p s).rqs = s.rqs ∧
    (resetTrips p s).settings = s.settings ∧ (resetTrips p s).store = s.store ∧
    (resetTrips p s).seq = s.seq ∧ (resetTrips p s).draw = s.draw ∧
    (resetTrips p s).pending = s.pending := by
  unfold resetTrips
  refine ⟨foldl_keeps State.power _ (fun s x => ?_) _ _,
    foldl_keeps State.link _ (fun s x => ?_) _ _,
    foldl_keeps State.signals _ (fun s x => ?_) _ _,
    foldl_keeps State.input _ (fun s x => ?_) _ _,
    foldl_keeps State.gdu _ (fun s x => ?_) _ _,
    foldl_keeps State.odo _ (fun s x => ?_) _ _,
    foldl_keeps State.stc _ (fun s x => ?_) _ _,
    foldl_keeps State.wnu _ (fun s x => ?_) _ _,
    foldl_keeps State.clock _ (fun s x => ?_) _ _,
    foldl_keeps State.msc _ (fun s x => ?_) _ _,
    foldl_keeps State.rqs _ (fun s x => ?_) _ _,
    foldl_keeps State.settings _ (fun s x => ?_) _ _,
    foldl_keeps State.store _ (fun s x => ?_) _ _,
    foldl_keeps State.seq _ (fun s x => ?_) _ _,
    foldl_keeps State.draw _ (fun s x => ?_) _ _,
    foldl_keeps State.pending _ (fun s x => ?_) _ _⟩ <;>
    (repeat' split) <;> simp

@[simp] theorem tripsResolved_frame (s : State) :
    (tripsResolved s).power = s.power ∧ (tripsResolved s).link = s.link ∧
    (tripsResolved s).signals = s.signals ∧ (tripsResolved s).input = s.input ∧
    (tripsResolved s).gdu = s.gdu ∧ (tripsResolved s).odo = s.odo ∧
    (tripsResolved s).stc = s.stc ∧ (tripsResolved s).wnu = s.wnu ∧
    (tripsResolved s).clock = s.clock ∧ (tripsResolved s).msc = s.msc ∧
    (tripsResolved s).rqs = s.rqs ∧ (tripsResolved s).settings = s.settings ∧
    (tripsResolved s).store = s.store ∧ (tripsResolved s).seq = s.seq ∧
    (tripsResolved s).draw = s.draw ∧ (tripsResolved s).pending = s.pending := by
  unfold tripsResolved; (repeat' split) <;> simp

@[simp] theorem journeyRule_frame (s : State) :
    (journeyRule s).power = s.power ∧ (journeyRule s).link = s.link ∧
    (journeyRule s).signals = s.signals ∧ (journeyRule s).input = s.input ∧
    (journeyRule s).gdu = s.gdu ∧ (journeyRule s).odo = s.odo ∧ (journeyRule s).stc = s.stc ∧
    (journeyRule s).wnu = s.wnu ∧ (journeyRule s).clock = s.clock ∧ (journeyRule s).msc = s.msc ∧
    (journeyRule s).rqs = s.rqs ∧ (journeyRule s).settings = s.settings ∧
    (journeyRule s).store = s.store ∧ (journeyRule s).seq = s.seq ∧
    (journeyRule s).draw = s.draw ∧ (journeyRule s).pending = s.pending := by
  unfold journeyRule; (try dsimp only); (repeat' split) <;> simp

@[simp] theorem recomputeRange_frame (s : State) :
    (recomputeRange s).power = s.power ∧ (recomputeRange s).link = s.link ∧
    (recomputeRange s).signals = s.signals ∧ (recomputeRange s).input = s.input ∧
    (recomputeRange s).gdu = s.gdu ∧ (recomputeRange s).odo = s.odo ∧
    (recomputeRange s).stc = s.stc ∧ (recomputeRange s).wnu = s.wnu ∧
    (recomputeRange s).sru = s.sru ∧ (recomputeRange s).clock = s.clock ∧
    (recomputeRange s).msc = s.msc ∧ (recomputeRange s).rqs = s.rqs ∧
    (recomputeRange s).settings = s.settings ∧ (recomputeRange s).store = s.store ∧
    (recomputeRange s).seq = s.seq ∧ (recomputeRange s).draw = s.draw ∧
    (recomputeRange s).pending = s.pending := by
  unfold recomputeRange; (try dsimp only); (repeat' split) <;> simp

@[simp] theorem tripMetre_frame (s : State) :
    (tripMetre s).power = s.power ∧ (tripMetre s).link = s.link ∧
    (tripMetre s).signals = s.signals ∧ (tripMetre s).input = s.input ∧
    (tripMetre s).gdu = s.gdu ∧ (tripMetre s).odo = s.odo ∧ (tripMetre s).stc = s.stc ∧
    (tripMetre s).wnu = s.wnu ∧ (tripMetre s).sru = s.sru ∧ (tripMetre s).clock = s.clock ∧
    (tripMetre s).msc = s.msc ∧ (tripMetre s).rqs = s.rqs ∧ (tripMetre s).settings = s.settings ∧
    (tripMetre s).store = s.store ∧ (tripMetre s).seq = s.seq ∧ (tripMetre s).draw = s.draw ∧
    (tripMetre s).pending = s.pending := by
  unfold tripMetre; (try dsimp only); (repeat' split) <;> simp

@[simp] theorem raiseWaiting_frame (s : State) :
    (raiseWaiting s).power = s.power ∧ (raiseWaiting s).link = s.link ∧
    (raiseWaiting s).signals = s.signals ∧ (raiseWaiting s).input = s.input ∧
    (raiseWaiting s).gdu = s.gdu ∧ (raiseWaiting s).trc = s.trc ∧ (raiseWaiting s).odo = s.odo ∧
    (raiseWaiting s).wnu = s.wnu ∧ (raiseWaiting s).sru = s.sru ∧
    (raiseWaiting s).clock = s.clock ∧ (raiseWaiting s).msc = s.msc ∧
    (raiseWaiting s).rqs = s.rqs ∧ (raiseWaiting s).settings = s.settings ∧
    (raiseWaiting s).store = s.store ∧ (raiseWaiting s).seq = s.seq ∧
    (raiseWaiting s).draw = s.draw ∧ (raiseWaiting s).pending = s.pending := by
  unfold raiseWaiting; (try dsimp only); (repeat' split) <;> simp

@[simp] theorem odometerMetre_frame (s : State) :
    (odometerMetre s).power = s.power ∧ (odometerMetre s).link = s.link ∧
    (odometerMetre s).signals = s.signals ∧ (odometerMetre s).input = s.input ∧
    (odometerMetre s).gdu = s.gdu ∧ (odometerMetre s).trc = s.trc ∧
    (odometerMetre s).wnu = s.wnu ∧ (odometerMetre s).sru = s.sru ∧
    (odometerMetre s).clock = s.clock ∧ (odometerMetre s).msc = s.msc ∧
    (odometerMetre s).rqs = s.rqs ∧ (odometerMetre s).settings = s.settings ∧
    (odometerMetre s).store = s.store ∧ (odometerMetre s).seq = s.seq ∧
    (odometerMetre s).draw = s.draw ∧ (odometerMetre s).pending = s.pending := by
  unfold odometerMetre; (try dsimp only); (repeat' split) <;> simp

@[simp] theorem metreEvent_frame (s : State) :
    (metreEvent s).power = s.power ∧ (metreEvent s).link = s.link ∧
    (metreEvent s).signals = s.signals ∧ (metreEvent s).input = s.input ∧
    (metreEvent s).gdu = s.gdu ∧ (metreEvent s).wnu = s.wnu ∧ (metreEvent s).sru = s.sru ∧
    (metreEvent s).clock = s.clock ∧ (metreEvent s).msc = s.msc ∧ (metreEvent s).rqs = s.rqs ∧
    (metreEvent s).settings = s.settings ∧ (metreEvent s).store = s.store ∧
    (metreEvent s).seq = s.seq ∧ (metreEvent s).draw = s.draw ∧ (metreEvent s).pending = s.pending := by
  simp [metreEvent]

@[simp] theorem fuelHandOn_frame (count : Nat) (s : State) :
    (fuelHandOn count s).power = s.power ∧ (fuelHandOn count s).link = s.link ∧
    (fuelHandOn count s).signals = s.signals ∧ (fuelHandOn count s).input = s.input ∧
    (fuelHandOn count s).gdu = s.gdu ∧ (fuelHandOn count s).odo = s.odo ∧
    (fuelHandOn count s).stc = s.stc ∧ (fuelHandOn count s).wnu = s.wnu ∧
    (fuelHandOn count s).sru = s.sru ∧ (fuelHandOn count s).clock = s.clock ∧
    (fuelHandOn count s).msc = s.msc ∧ (fuelHandOn count s).rqs = s.rqs ∧
    (fuelHandOn count s).settings = s.settings ∧ (fuelHandOn count s).store = s.store ∧
    (fuelHandOn count s).seq = s.seq ∧ (fuelHandOn count s).draw = s.draw ∧
    (fuelHandOn count s).pending = s.pending := by
  unfold fuelHandOn; (try dsimp only); (repeat' split) <;> simp

@[simp] theorem tripSecond_frame (s : State) :
    (tripSecond s).power = s.power ∧ (tripSecond s).link = s.link ∧
    (tripSecond s).signals = s.signals ∧ (tripSecond s).input = s.input ∧
    (tripSecond s).gdu = s.gdu ∧ (tripSecond s).odo = s.odo ∧ (tripSecond s).stc = s.stc ∧
    (tripSecond s).wnu = s.wnu ∧ (tripSecond s).sru = s.sru ∧ (tripSecond s).clock = s.clock ∧
    (tripSecond s).msc = s.msc ∧ (tripSecond s).rqs = s.rqs ∧
    (tripSecond s).settings = s.settings ∧ (tripSecond s).store = s.store ∧
    (tripSecond s).seq = s.seq ∧ (tripSecond s).draw = s.draw ∧ (tripSecond s).pending = s.pending := by
  simp [tripSecond]

end Sys2Proof.Machine
end

