-- ==== Sys2Proof/Laws/FramesUnits.lean ====
section
/-! SUPPORT. What each shared operation of the service reminder, the gauges, the signal table, the clock and the display leaves
alone: one lemma for each, a conjunction of the fields it keeps. -/

namespace Sys2Proof.Machine

open Sys2Proof

@[simp] theorem State.setItem_frame (s : State) (i : ServiceItem) (v : ServiceState) :
    (State.setItem s i v).power = s.power ∧ (State.setItem s i v).link = s.link ∧
    (State.setItem s i v).signals = s.signals ∧ (State.setItem s i v).input = s.input ∧
    (State.setItem s i v).gdu = s.gdu ∧ (State.setItem s i v).trc = s.trc ∧
    (State.setItem s i v).odo = s.odo ∧ (State.setItem s i v).stc = s.stc ∧
    (State.setItem s i v).wnu = s.wnu ∧ (State.setItem s i v).clock = s.clock ∧
    (State.setItem s i v).msc = s.msc ∧ (State.setItem s i v).rqs = s.rqs ∧
    (State.setItem s i v).settings = s.settings ∧ (State.setItem s i v).store = s.store ∧
    (State.setItem s i v).seq = s.seq ∧ (State.setItem s i v).draw = s.draw ∧
    (State.setItem s i v).pending = s.pending := by
  simp [State.setItem]

@[simp] theorem resetItem_frame (i : ServiceItem) (km : Nat) (s : State) :
    (resetItem i km s).power = s.power ∧ (resetItem i km s).link = s.link ∧
    (resetItem i km s).signals = s.signals ∧ (resetItem i km s).input = s.input ∧
    (resetItem i km s).gdu = s.gdu ∧ (resetItem i km s).trc = s.trc ∧
    (resetItem i km s).odo = s.odo ∧ (resetItem i km s).stc = s.stc ∧
    (resetItem i km s).wnu = s.wnu ∧ (resetItem i km s).clock = s.clock ∧
    (resetItem i km s).msc = s.msc ∧ (resetItem i km s).rqs = s.rqs ∧
    (resetItem i km s).settings = s.settings ∧ (resetItem i km s).store = s.store ∧
    (resetItem i km s).seq = s.seq ∧ (resetItem i km s).draw = s.draw ∧
    (resetItem i km s).pending = s.pending := by
  simp [resetItem]

@[simp] theorem markOilReset_frame (i : ServiceItem) (s : State) :
    (markOilReset i s).power = s.power ∧ (markOilReset i s).link = s.link ∧
    (markOilReset i s).signals = s.signals ∧ (markOilReset i s).input = s.input ∧
    (markOilReset i s).gdu = s.gdu ∧ (markOilReset i s).trc = s.trc ∧
    (markOilReset i s).odo = s.odo ∧ (markOilReset i s).stc = s.stc ∧
    (markOilReset i s).wnu = s.wnu ∧ (markOilReset i s).clock = s.clock ∧
    (markOilReset i s).msc = s.msc ∧ (markOilReset i s).rqs = s.rqs ∧
    (markOilReset i s).settings = s.settings ∧ (markOilReset i s).store = s.store ∧
    (markOilReset i s).seq = s.seq ∧ (markOilReset i s).draw = s.draw ∧
    (markOilReset i s).pending = s.pending := by
  unfold markOilReset; split <;> simp

@[simp] theorem serviceReset_frame (i : ServiceItem) (km : Nat) (s : State) :
    (serviceReset i km s).power = s.power ∧ (serviceReset i km s).link = s.link ∧
    (serviceReset i km s).signals = s.signals ∧ (serviceReset i km s).input = s.input ∧
    (serviceReset i km s).gdu = s.gdu ∧ (serviceReset i km s).trc = s.trc ∧
    (serviceReset i km s).wnu = s.wnu ∧ (serviceReset i km s).clock = s.clock ∧
    (serviceReset i km s).msc = s.msc ∧ (serviceReset i km s).rqs = s.rqs ∧
    (serviceReset i km s).settings = s.settings ∧ (serviceReset i km s).store = s.store ∧
    (serviceReset i km s).seq = s.seq ∧ (serviceReset i km s).draw = s.draw ∧
    (serviceReset i km s).pending = s.pending := by
  simp [serviceReset]

@[simp] theorem fillItem_frame (s : State) (i : ServiceItem) :
    (fillItem s i).power = s.power ∧ (fillItem s i).link = s.link ∧
    (fillItem s i).signals = s.signals ∧ (fillItem s i).input = s.input ∧
    (fillItem s i).gdu = s.gdu ∧ (fillItem s i).trc = s.trc ∧ (fillItem s i).odo = s.odo ∧
    (fillItem s i).stc = s.stc ∧ (fillItem s i).wnu = s.wnu ∧ (fillItem s i).clock = s.clock ∧
    (fillItem s i).msc = s.msc ∧ (fillItem s i).rqs = s.rqs ∧
    (fillItem s i).settings = s.settings ∧ (fillItem s i).store = s.store ∧
    (fillItem s i).seq = s.seq ∧ (fillItem s i).draw = s.draw ∧ (fillItem s i).pending = s.pending := by
  unfold fillItem; (try dsimp only); (repeat' split) <;> simp

@[simp] theorem fillDueDays_frame (s : State) :
    (fillDueDays s).power = s.power ∧ (fillDueDays s).link = s.link ∧
    (fillDueDays s).signals = s.signals ∧ (fillDueDays s).input = s.input ∧
    (fillDueDays s).gdu = s.gdu ∧ (fillDueDays s).trc = s.trc ∧ (fillDueDays s).wnu = s.wnu ∧
    (fillDueDays s).clock = s.clock ∧ (fillDueDays s).msc = s.msc ∧ (fillDueDays s).rqs = s.rqs ∧
    (fillDueDays s).settings = s.settings ∧ (fillDueDays s).store = s.store ∧
    (fillDueDays s).seq = s.seq ∧ (fillDueDays s).draw = s.draw ∧
    (fillDueDays s).pending = s.pending := by
  unfold fillDueDays; (repeat' split) <;>
    simp [foldl_keeps State.power,
      foldl_keeps State.link,
      foldl_keeps State.signals,
      foldl_keeps State.input,
      foldl_keeps State.gdu,
      foldl_keeps State.trc,
      foldl_keeps State.wnu,
      foldl_keeps State.clock,
      foldl_keeps State.msc,
      foldl_keeps State.rqs,
      foldl_keeps State.settings,
      foldl_keeps State.store,
      foldl_keeps State.seq,
      foldl_keeps State.draw,
      foldl_keeps State.pending]

@[simp] theorem takeRecord_frame (s : State) (i : ServiceItem) :
    (takeRecord s i).power = s.power ∧ (takeRecord s i).link = s.link ∧
    (takeRecord s i).signals = s.signals ∧ (takeRecord s i).input = s.input ∧
    (takeRecord s i).gdu = s.gdu ∧ (takeRecord s i).trc = s.trc ∧ (takeRecord s i).odo = s.odo ∧
    (takeRecord s i).stc = s.stc ∧ (takeRecord s i).wnu = s.wnu ∧
    (takeRecord s i).clock = s.clock ∧ (takeRecord s i).msc = s.msc ∧
    (takeRecord s i).settings = s.settings ∧ (takeRecord s i).store = s.store ∧
    (takeRecord s i).seq = s.seq ∧ (takeRecord s i).draw = s.draw ∧
    (takeRecord s i).pending = s.pending := by
  unfold takeRecord; (repeat' split) <;> simp

@[simp] theorem takeRecords_frame (s : State) :
    (takeRecords s).power = s.power ∧ (takeRecords s).link = s.link ∧
    (takeRecords s).signals = s.signals ∧ (takeRecords s).input = s.input ∧
    (takeRecords s).gdu = s.gdu ∧ (takeRecords s).trc = s.trc ∧ (takeRecords s).wnu = s.wnu ∧
    (takeRecords s).clock = s.clock ∧ (takeRecords s).msc = s.msc ∧
    (takeRecords s).settings = s.settings ∧ (takeRecords s).store = s.store ∧
    (takeRecords s).seq = s.seq ∧ (takeRecords s).draw = s.draw ∧
    (takeRecords s).pending = s.pending := by
  unfold takeRecords;
    simp [foldl_keeps State.power,
      foldl_keeps State.link,
      foldl_keeps State.signals,
      foldl_keeps State.input,
      foldl_keeps State.gdu,
      foldl_keeps State.trc,
      foldl_keeps State.wnu,
      foldl_keeps State.clock,
      foldl_keeps State.msc,
      foldl_keeps State.settings,
      foldl_keeps State.store,
      foldl_keeps State.seq,
      foldl_keeps State.draw,
      foldl_keeps State.pending]

@[simp] theorem repairItem_frame (km : Nat) (s : State) (i : ServiceItem) :
    (repairItem km s i).power = s.power ∧ (repairItem km s i).link = s.link ∧
    (repairItem km s i).signals = s.signals ∧ (repairItem km s i).input = s.input ∧
    (repairItem km s i).gdu = s.gdu ∧ (repairItem km s i).trc = s.trc ∧
    (repairItem km s i).odo = s.odo ∧ (repairItem km s i).stc = s.stc ∧
    (repairItem km s i).wnu = s.wnu ∧ (repairItem km s i).clock = s.clock ∧
    (repairItem km s i).msc = s.msc ∧ (repairItem km s i).rqs = s.rqs ∧
    (repairItem km s i).settings = s.settings ∧ (repairItem km s i).store = s.store ∧
    (repairItem km s i).seq = s.seq ∧ (repairItem km s i).draw = s.draw ∧
    (repairItem km s i).pending = s.pending := by
  unfold repairItem; (try dsimp only); (repeat' split) <;> simp

@[simp] theorem serviceHandOver_frame (km : Nat) (s : State) :
    (serviceHandOver km s).power = s.power ∧ (serviceHandOver km s).link = s.link ∧
    (serviceHandOver km s).signals = s.signals ∧ (serviceHandOver km s).input = s.input ∧
    (serviceHandOver km s).gdu = s.gdu ∧ (serviceHandOver km s).trc = s.trc ∧
    (serviceHandOver km s).wnu = s.wnu ∧ (serviceHandOver km s).clock = s.clock ∧
    (serviceHandOver km s).msc = s.msc ∧ (serviceHandOver km s).rqs = s.rqs ∧
    (serviceHandOver km s).settings = s.settings ∧ (serviceHandOver km s).store = s.store ∧
    (serviceHandOver km s).seq = s.seq ∧ (serviceHandOver km s).draw = s.draw ∧
    (serviceHandOver km s).pending = s.pending := by
  unfold serviceHandOver; (try dsimp only); (repeat' split) <;>
    simp [foldl_keeps State.power,
      foldl_keeps State.link,
      foldl_keeps State.signals,
      foldl_keeps State.input,
      foldl_keeps State.gdu,
      foldl_keeps State.trc,
      foldl_keeps State.wnu,
      foldl_keeps State.clock,
      foldl_keeps State.msc,
      foldl_keeps State.rqs,
      foldl_keeps State.settings,
      foldl_keeps State.store,
      foldl_keeps State.seq,
      foldl_keeps State.draw,
      foldl_keeps State.pending]

@[simp] theorem openDrive_frame (s : State) :
    (openDrive s).power = s.power ∧ (openDrive s).link = s.link ∧
    (openDrive s).signals = s.signals ∧ (openDrive s).input = s.input ∧
    (openDrive s).gdu = s.gdu ∧ (openDrive s).trc = s.trc ∧ (openDrive s).odo = s.odo ∧
    (openDrive s).stc = s.stc ∧ (openDrive s).wnu = s.wnu ∧ (openDrive s).clock = s.clock ∧
    (openDrive s).msc = s.msc ∧ (openDrive s).rqs = s.rqs ∧ (openDrive s).settings = s.settings ∧
    (openDrive s).store = s.store ∧ (openDrive s).seq = s.seq ∧ (openDrive s).draw = s.draw ∧
    (openDrive s).pending = s.pending := by
  unfold openDrive; (try dsimp only); (repeat' split) <;> simp

@[simp] theorem noteCoolant_frame (s : State) :
    (noteCoolant s).power = s.power ∧ (noteCoolant s).link = s.link ∧
    (noteCoolant s).signals = s.signals ∧ (noteCoolant s).input = s.input ∧
    (noteCoolant s).gdu = s.gdu ∧ (noteCoolant s).trc = s.trc ∧ (noteCoolant s).odo = s.odo ∧
    (noteCoolant s).stc = s.stc ∧ (noteCoolant s).wnu = s.wnu ∧ (noteCoolant s).clock = s.clock ∧
    (noteCoolant s).msc = s.msc ∧ (noteCoolant s).rqs = s.rqs ∧
    (noteCoolant s).settings = s.settings ∧ (noteCoolant s).store = s.store ∧
    (noteCoolant s).seq = s.seq ∧ (noteCoolant s).draw = s.draw ∧
    (noteCoolant s).pending = s.pending := by
  unfold noteCoolant; (try dsimp only); (repeat' split) <;> simp

@[simp] theorem applyPenalty_frame (s : State) :
    (applyPenalty s).power = s.power ∧ (applyPenalty s).link = s.link ∧
    (applyPenalty s).signals = s.signals ∧ (applyPenalty s).input = s.input ∧
    (applyPenalty s).gdu = s.gdu ∧ (applyPenalty s).trc = s.trc ∧ (applyPenalty s).odo = s.odo ∧
    (applyPenalty s).stc = s.stc ∧ (applyPenalty s).wnu = s.wnu ∧
    (applyPenalty s).clock = s.clock ∧ (applyPenalty s).msc = s.msc ∧
    (applyPenalty s).rqs = s.rqs ∧ (applyPenalty s).settings = s.settings ∧
    (applyPenalty s).store = s.store ∧ (applyPenalty s).seq = s.seq ∧
    (applyPenalty s).draw = s.draw ∧ (applyPenalty s).pending = s.pending := by
  unfold applyPenalty; (try dsimp only); (repeat' split) <;> simp

@[simp] theorem closeDrive_frame (s : State) :
    (closeDrive s).power = s.power ∧ (closeDrive s).link = s.link ∧
    (closeDrive s).signals = s.signals ∧ (closeDrive s).input = s.input ∧
    (closeDrive s).gdu = s.gdu ∧ (closeDrive s).trc = s.trc ∧ (closeDrive s).odo = s.odo ∧
    (closeDrive s).stc = s.stc ∧ (closeDrive s).wnu = s.wnu ∧ (closeDrive s).clock = s.clock ∧
    (closeDrive s).msc = s.msc ∧ (closeDrive s).rqs = s.rqs ∧
    (closeDrive s).settings = s.settings ∧ (closeDrive s).store = s.store ∧
    (closeDrive s).seq = s.seq ∧ (closeDrive s).draw = s.draw ∧ (closeDrive s).pending = s.pending := by
  simp [closeDrive]

@[simp] theorem saveService_frame (s : State) :
    (saveService s).power = s.power ∧ (saveService s).link = s.link ∧
    (saveService s).signals = s.signals ∧ (saveService s).input = s.input ∧
    (saveService s).gdu = s.gdu ∧ (saveService s).trc = s.trc ∧ (saveService s).wnu = s.wnu ∧
    (saveService s).clock = s.clock ∧ (saveService s).msc = s.msc ∧ (saveService s).rqs = s.rqs ∧
    (saveService s).settings = s.settings ∧ (saveService s).store = s.store ∧
    (saveService s).seq = s.seq ∧ (saveService s).draw = s.draw ∧
    (saveService s).pending = s.pending := by
  simp [saveService]

@[simp] theorem cleanItem_frame (s : State) (e : ServiceEntry) :
    (cleanItem s e).power = s.power ∧ (cleanItem s e).link = s.link ∧
    (cleanItem s e).signals = s.signals ∧ (cleanItem s e).input = s.input ∧
    (cleanItem s e).gdu = s.gdu ∧ (cleanItem s e).trc = s.trc ∧ (cleanItem s e).odo = s.odo ∧
    (cleanItem s e).stc = s.stc ∧ (cleanItem s e).wnu = s.wnu ∧ (cleanItem s e).clock = s.clock ∧
    (cleanItem s e).msc = s.msc ∧ (cleanItem s e).rqs = s.rqs ∧
    (cleanItem s e).settings = s.settings ∧ (cleanItem s e).store = s.store ∧
    (cleanItem s e).seq = s.seq ∧ (cleanItem s e).draw = s.draw ∧
    (cleanItem s e).pending = s.pending := by
  unfold cleanItem; (try dsimp only); (repeat' split) <;> simp

@[simp] theorem serviceReport_frame (verified : List ServiceEntry) (s : State) :
    (serviceReport verified s).power = s.power ∧ (serviceReport verified s).link = s.link ∧
    (serviceReport verified s).signals = s.signals ∧ (serviceReport verified s).input = s.input ∧
    (serviceReport verified s).gdu = s.gdu ∧ (serviceReport verified s).trc = s.trc ∧
    (serviceReport verified s).odo = s.odo ∧ (serviceReport verified s).stc = s.stc ∧
    (serviceReport verified s).wnu = s.wnu ∧ (serviceReport verified s).clock = s.clock ∧
    (serviceReport verified s).msc = s.msc ∧ (serviceReport verified s).rqs = s.rqs ∧
    (serviceReport verified s).settings = s.settings ∧
    (serviceReport verified s).store = s.store ∧ (serviceReport verified s).seq = s.seq ∧
    (serviceReport verified s).draw = s.draw ∧ (serviceReport verified s).pending = s.pending := by
  unfold serviceReport;
    simp [foldl_keeps State.power,
      foldl_keeps State.link,
      foldl_keeps State.signals,
      foldl_keeps State.input,
      foldl_keeps State.gdu,
      foldl_keeps State.trc,
      foldl_keeps State.odo,
      foldl_keeps State.stc,
      foldl_keeps State.wnu,
      foldl_keeps State.clock,
      foldl_keeps State.msc,
      foldl_keeps State.rqs,
      foldl_keeps State.settings,
      foldl_keeps State.store,
      foldl_keeps State.seq,
      foldl_keeps State.draw,
      foldl_keeps State.pending]

@[simp] theorem State.setGauge_frame (s : State) (g : GaugeId) (r : Gauge) :
    (State.setGauge s g r).power = s.power ∧ (State.setGauge s g r).link = s.link ∧
    (State.setGauge s g r).signals = s.signals ∧ (State.setGauge s g r).input = s.input ∧
    (State.setGauge s g r).trc = s.trc ∧ (State.setGauge s g r).odo = s.odo ∧
    (State.setGauge s g r).stc = s.stc ∧ (State.setGauge s g r).wnu = s.wnu ∧
    (State.setGauge s g r).sru = s.sru ∧ (State.setGauge s g r).clock = s.clock ∧
    (State.setGauge s g r).msc = s.msc ∧ (State.setGauge s g r).rqs = s.rqs ∧
    (State.setGauge s g r).settings = s.settings ∧ (State.setGauge s g r).store = s.store ∧
    (State.setGauge s g r).seq = s.seq ∧ (State.setGauge s g r).draw = s.draw ∧
    (State.setGauge s g r).pending = s.pending := by
  simp [State.setGauge]

@[simp] theorem decideTarget_frame (s : State) (g : GaugeId) :
    (decideTarget s g).power = s.power ∧ (decideTarget s g).link = s.link ∧
    (decideTarget s g).signals = s.signals ∧ (decideTarget s g).input = s.input ∧
    (decideTarget s g).trc = s.trc ∧ (decideTarget s g).odo = s.odo ∧
    (decideTarget s g).stc = s.stc ∧ (decideTarget s g).wnu = s.wnu ∧
    (decideTarget s g).sru = s.sru ∧ (decideTarget s g).clock = s.clock ∧
    (decideTarget s g).msc = s.msc ∧ (decideTarget s g).rqs = s.rqs ∧
    (decideTarget s g).settings = s.settings ∧ (decideTarget s g).store = s.store ∧
    (decideTarget s g).seq = s.seq ∧ (decideTarget s g).draw = s.draw ∧
    (decideTarget s g).pending = s.pending := by
  unfold decideTarget; (try dsimp only); (repeat' split) <;> simp

@[simp] theorem decideTargets_frame (sig : Signal) (s : State) :
    (decideTargets sig s).power = s.power ∧ (decideTargets sig s).link = s.link ∧
    (decideTargets sig s).signals = s.signals ∧ (decideTargets sig s).input = s.input ∧
    (decideTargets sig s).trc = s.trc ∧ (decideTargets sig s).odo = s.odo ∧
    (decideTargets sig s).stc = s.stc ∧ (decideTargets sig s).wnu = s.wnu ∧
    (decideTargets sig s).sru = s.sru ∧ (decideTargets sig s).clock = s.clock ∧
    (decideTargets sig s).msc = s.msc ∧ (decideTargets sig s).rqs = s.rqs ∧
    (decideTargets sig s).settings = s.settings ∧ (decideTargets sig s).store = s.store ∧
    (decideTargets sig s).seq = s.seq ∧ (decideTargets sig s).draw = s.draw ∧
    (decideTargets sig s).pending = s.pending := by
  unfold decideTargets;
    simp [foldl_keeps State.power,
      foldl_keeps State.link,
      foldl_keeps State.signals,
      foldl_keeps State.input,
      foldl_keeps State.trc,
      foldl_keeps State.odo,
      foldl_keeps State.stc,
      foldl_keeps State.wnu,
      foldl_keeps State.sru,
      foldl_keeps State.clock,
      foldl_keeps State.msc,
      foldl_keeps State.rqs,
      foldl_keeps State.settings,
      foldl_keeps State.store,
      foldl_keeps State.seq,
      foldl_keeps State.draw,
      foldl_keeps State.pending]

@[simp] theorem holdTargets_frame (sig : Signal) (s : State) :
    (holdTargets sig s).power = s.power ∧ (holdTargets sig s).link = s.link ∧
    (holdTargets sig s).signals = s.signals ∧ (holdTargets sig s).input = s.input ∧
    (holdTargets sig s).trc = s.trc ∧ (holdTargets sig s).odo = s.odo ∧
    (holdTargets sig s).stc = s.stc ∧ (holdTargets sig s).wnu = s.wnu ∧
    (holdTargets sig s).sru = s.sru ∧ (holdTargets sig s).clock = s.clock ∧
    (holdTargets sig s).msc = s.msc ∧ (holdTargets sig s).rqs = s.rqs ∧
    (holdTargets sig s).settings = s.settings ∧ (holdTargets sig s).store = s.store ∧
    (holdTargets sig s).seq = s.seq ∧ (holdTargets sig s).draw = s.draw ∧
    (holdTargets sig s).pending = s.pending := by
  unfold holdTargets;
    simp [foldl_keeps State.power,
      foldl_keeps State.link,
      foldl_keeps State.signals,
      foldl_keeps State.input,
      foldl_keeps State.trc,
      foldl_keeps State.odo,
      foldl_keeps State.stc,
      foldl_keeps State.wnu,
      foldl_keeps State.sru,
      foldl_keeps State.clock,
      foldl_keeps State.msc,
      foldl_keeps State.rqs,
      foldl_keeps State.settings,
      foldl_keeps State.store,
      foldl_keeps State.seq,
      foldl_keeps State.draw,
      foldl_keeps State.pending]

@[simp] theorem closeGauge_frame (g : GaugeId) (r : Gauge) (s : State) :
    (closeGauge g r s).power = s.power ∧ (closeGauge g r s).link = s.link ∧
    (closeGauge g r s).signals = s.signals ∧ (closeGauge g r s).input = s.input ∧
    (closeGauge g r s).trc = s.trc ∧ (closeGauge g r s).odo = s.odo ∧
    (closeGauge g r s).stc = s.stc ∧ (closeGauge g r s).wnu = s.wnu ∧
    (closeGauge g r s).sru = s.sru ∧ (closeGauge g r s).clock = s.clock ∧
    (closeGauge g r s).msc = s.msc ∧ (closeGauge g r s).rqs = s.rqs ∧
    (closeGauge g r s).settings = s.settings ∧ (closeGauge g r s).store = s.store ∧
    (closeGauge g r s).seq = s.seq ∧ (closeGauge g r s).draw = s.draw ∧
    (closeGauge g r s).pending = s.pending := by
  simp [closeGauge]

@[simp] theorem homeGauge_frame (sweepMark testMark : Bool) (contacts : BitVec 6) (s : State) (g : GaugeId) :
    (homeGauge sweepMark testMark contacts s g).power = s.power ∧
    (homeGauge sweepMark testMark contacts s g).link = s.link ∧
    (homeGauge sweepMark testMark contacts s g).signals = s.signals ∧
    (homeGauge sweepMark testMark contacts s g).input = s.input ∧
    (homeGauge sweepMark testMark contacts s g).trc = s.trc ∧
    (homeGauge sweepMark testMark contacts s g).odo = s.odo ∧
    (homeGauge sweepMark testMark contacts s g).stc = s.stc ∧
    (homeGauge sweepMark testMark contacts s g).wnu = s.wnu ∧
    (homeGauge sweepMark testMark contacts s g).sru = s.sru ∧
    (homeGauge sweepMark testMark contacts s g).clock = s.clock ∧
    (homeGauge sweepMark testMark contacts s g).msc = s.msc ∧
    (homeGauge sweepMark testMark contacts s g).rqs = s.rqs ∧
    (homeGauge sweepMark testMark contacts s g).settings = s.settings ∧
    (homeGauge sweepMark testMark contacts s g).store = s.store ∧
    (homeGauge sweepMark testMark contacts s g).seq = s.seq ∧
    (homeGauge sweepMark testMark contacts s g).draw = s.draw ∧
    (homeGauge sweepMark testMark contacts s g).pending = s.pending := by
  simp [homeGauge]

@[simp] theorem homeAll_frame (contacts : BitVec 6) (s : State) :
    (homeAll contacts s).power = s.power ∧ (homeAll contacts s).link = s.link ∧
    (homeAll contacts s).signals = s.signals ∧ (homeAll contacts s).input = s.input ∧
    (homeAll contacts s).trc = s.trc ∧ (homeAll contacts s).odo = s.odo ∧
    (homeAll contacts s).stc = s.stc ∧ (homeAll contacts s).wnu = s.wnu ∧
    (homeAll contacts s).sru = s.sru ∧ (homeAll contacts s).clock = s.clock ∧
    (homeAll contacts s).msc = s.msc ∧ (homeAll contacts s).rqs = s.rqs ∧
    (homeAll contacts s).settings = s.settings ∧ (homeAll contacts s).store = s.store ∧
    (homeAll contacts s).seq = s.seq ∧ (homeAll contacts s).draw = s.draw ∧
    (homeAll contacts s).pending = s.pending := by
  unfold homeAll;
    simp [foldl_keeps State.power,
      foldl_keeps State.link,
      foldl_keeps State.signals,
      foldl_keeps State.input,
      foldl_keeps State.trc,
      foldl_keeps State.odo,
      foldl_keeps State.stc,
      foldl_keeps State.wnu,
      foldl_keeps State.sru,
      foldl_keeps State.clock,
      foldl_keeps State.msc,
      foldl_keeps State.rqs,
      foldl_keeps State.settings,
      foldl_keeps State.store,
      foldl_keeps State.seq,
      foldl_keeps State.draw,
      foldl_keeps State.pending]

@[simp] theorem failAttempt_frame (g : GaugeId) (r : Gauge) (s : State) :
    (failAttempt g r s).power = s.power ∧ (failAttempt g r s).signals = s.signals ∧
    (failAttempt g r s).input = s.input ∧ (failAttempt g r s).trc = s.trc ∧
    (failAttempt g r s).odo = s.odo ∧ (failAttempt g r s).stc = s.stc ∧
    (failAttempt g r s).sru = s.sru ∧ (failAttempt g r s).clock = s.clock ∧
    (failAttempt g r s).msc = s.msc ∧ (failAttempt g r s).settings = s.settings ∧
    (failAttempt g r s).store = s.store ∧ (failAttempt g r s).pending = s.pending := by
  unfold failAttempt; (try dsimp only); (repeat' split) <;> simp

@[simp] theorem orderPark_frame (s : State) :
    (orderPark s).power = s.power ∧ (orderPark s).link = s.link ∧
    (orderPark s).signals = s.signals ∧ (orderPark s).input = s.input ∧
    (orderPark s).trc = s.trc ∧ (orderPark s).odo = s.odo ∧ (orderPark s).stc = s.stc ∧
    (orderPark s).wnu = s.wnu ∧ (orderPark s).sru = s.sru ∧ (orderPark s).clock = s.clock ∧
    (orderPark s).msc = s.msc ∧ (orderPark s).rqs = s.rqs ∧ (orderPark s).settings = s.settings ∧
    (orderPark s).store = s.store ∧ (orderPark s).seq = s.seq ∧ (orderPark s).draw = s.draw ∧
    (orderPark s).pending = s.pending := by
  simp [orderPark]

@[simp] theorem resumeGauge_frame (s : State) (g : GaugeId) :
    (resumeGauge s g).power = s.power ∧ (resumeGauge s g).link = s.link ∧
    (resumeGauge s g).signals = s.signals ∧ (resumeGauge s g).input = s.input ∧
    (resumeGauge s g).trc = s.trc ∧ (resumeGauge s g).odo = s.odo ∧
    (resumeGauge s g).stc = s.stc ∧ (resumeGauge s g).wnu = s.wnu ∧
    (resumeGauge s g).sru = s.sru ∧ (resumeGauge s g).clock = s.clock ∧
    (resumeGauge s g).msc = s.msc ∧ (resumeGauge s g).rqs = s.rqs ∧
    (resumeGauge s g).settings = s.settings ∧ (resumeGauge s g).store = s.store ∧
    (resumeGauge s g).seq = s.seq ∧ (resumeGauge s g).draw = s.draw ∧
    (resumeGauge s g).pending = s.pending := by
  unfold resumeGauge; (try dsimp only); (repeat' split) <;> simp

@[simp] theorem withdrawPark_frame (s : State) :
    (withdrawPark s).power = s.power ∧ (withdrawPark s).link = s.link ∧
    (withdrawPark s).signals = s.signals ∧ (withdrawPark s).input = s.input ∧
    (withdrawPark s).trc = s.trc ∧ (withdrawPark s).odo = s.odo ∧ (withdrawPark s).stc = s.stc ∧
    (withdrawPark s).wnu = s.wnu ∧ (withdrawPark s).sru = s.sru ∧
    (withdrawPark s).clock = s.clock ∧ (withdrawPark s).msc = s.msc ∧
    (withdrawPark s).rqs = s.rqs ∧ (withdrawPark s).settings = s.settings ∧
    (withdrawPark s).store = s.store ∧ (withdrawPark s).seq = s.seq ∧
    (withdrawPark s).draw = s.draw ∧ (withdrawPark s).pending = s.pending := by
  unfold withdrawPark; (try dsimp only); (repeat' split) <;>
    simp [foldl_keeps State.power,
      foldl_keeps State.link,
      foldl_keeps State.signals,
      foldl_keeps State.input,
      foldl_keeps State.trc,
      foldl_keeps State.odo,
      foldl_keeps State.stc,
      foldl_keeps State.wnu,
      foldl_keeps State.sru,
      foldl_keeps State.clock,
      foldl_keeps State.msc,
      foldl_keeps State.rqs,
      foldl_keeps State.settings,
      foldl_keeps State.store,
      foldl_keeps State.seq,
      foldl_keeps State.draw,
      foldl_keeps State.pending]

@[simp] theorem testGauge_frame (contacts : BitVec 6) (s : State) (g : GaugeId) :
    (testGauge contacts s g).power = s.power ∧ (testGauge contacts s g).link = s.link ∧
    (testGauge contacts s g).signals = s.signals ∧ (testGauge contacts s g).input = s.input ∧
    (testGauge contacts s g).trc = s.trc ∧ (testGauge contacts s g).odo = s.odo ∧
    (testGauge contacts s g).stc = s.stc ∧ (testGauge contacts s g).wnu = s.wnu ∧
    (testGauge contacts s g).sru = s.sru ∧ (testGauge contacts s g).clock = s.clock ∧
    (testGauge contacts s g).msc = s.msc ∧ (testGauge contacts s g).rqs = s.rqs ∧
    (testGauge contacts s g).settings = s.settings ∧ (testGauge contacts s g).store = s.store ∧
    (testGauge contacts s g).seq = s.seq ∧ (testGauge contacts s g).draw = s.draw ∧
    (testGauge contacts s g).pending = s.pending := by
  unfold testGauge; (try dsimp only); (repeat' split) <;> simp

@[simp] theorem testGauges_frame (contacts : BitVec 6) (s : State) :
    (testGauges contacts s).power = s.power ∧ (testGauges contacts s).signals = s.signals ∧
    (testGauges contacts s).input = s.input ∧ (testGauges contacts s).trc = s.trc ∧
    (testGauges contacts s).odo = s.odo ∧ (testGauges contacts s).stc = s.stc ∧
    (testGauges contacts s).sru = s.sru ∧ (testGauges contacts s).clock = s.clock ∧
    (testGauges contacts s).msc = s.msc ∧ (testGauges contacts s).rqs = s.rqs ∧
    (testGauges contacts s).settings = s.settings ∧ (testGauges contacts s).store = s.store ∧
    (testGauges contacts s).pending = s.pending := by
  unfold testGauges;
    simp [foldl_keeps State.power,
      foldl_keeps State.signals,
      foldl_keeps State.input,
      foldl_keeps State.trc,
      foldl_keeps State.odo,
      foldl_keeps State.stc,
      foldl_keeps State.sru,
      foldl_keeps State.clock,
      foldl_keeps State.msc,
      foldl_keeps State.rqs,
      foldl_keeps State.settings,
      foldl_keeps State.store,
      foldl_keeps State.pending]

@[simp] theorem signalsChanged_frame (sigs : List Signal) (s : State) :
    (signalsChanged sigs s).power = s.power ∧ (signalsChanged sigs s).signals = s.signals ∧
    (signalsChanged sigs s).input = s.input ∧ (signalsChanged sigs s).trc = s.trc ∧
    (signalsChanged sigs s).odo = s.odo ∧ (signalsChanged sigs s).stc = s.stc ∧
    (signalsChanged sigs s).clock = s.clock ∧ (signalsChanged sigs s).msc = s.msc ∧
    (signalsChanged sigs s).rqs = s.rqs ∧ (signalsChanged sigs s).settings = s.settings ∧
    (signalsChanged sigs s).store = s.store ∧ (signalsChanged sigs s).pending = s.pending := by
  unfold signalsChanged; (try dsimp only); (repeat' split) <;>
    simp [foldl_keeps State.power,
      foldl_keeps State.signals,
      foldl_keeps State.input,
      foldl_keeps State.trc,
      foldl_keeps State.odo,
      foldl_keeps State.stc,
      foldl_keeps State.clock,
      foldl_keeps State.msc,
      foldl_keeps State.rqs,
      foldl_keeps State.settings,
      foldl_keeps State.store,
      foldl_keeps State.pending]

@[simp] theorem arrive_frame (s : State) (a : Signal × Option Int) :
    (arrive s a).power = s.power ∧ (arrive s a).link = s.link ∧ (arrive s a).input = s.input ∧
    (arrive s a).gdu = s.gdu ∧ (arrive s a).trc = s.trc ∧ (arrive s a).odo = s.odo ∧
    (arrive s a).stc = s.stc ∧ (arrive s a).wnu = s.wnu ∧ (arrive s a).sru = s.sru ∧
    (arrive s a).clock = s.clock ∧ (arrive s a).msc = s.msc ∧ (arrive s a).rqs = s.rqs ∧
    (arrive s a).settings = s.settings ∧ (arrive s a).store = s.store ∧ (arrive s a).seq = s.seq ∧
    (arrive s a).draw = s.draw ∧ (arrive s a).pending = s.pending := by
  simp [arrive]

@[simp] theorem arriveAll_frame (arrivals : List (Signal × Option Int)) (s : State) :
    (arriveAll arrivals s).power = s.power ∧ (arriveAll arrivals s).input = s.input ∧
    (arriveAll arrivals s).trc = s.trc ∧ (arriveAll arrivals s).odo = s.odo ∧
    (arriveAll arrivals s).stc = s.stc ∧ (arriveAll arrivals s).clock = s.clock ∧
    (arriveAll arrivals s).msc = s.msc ∧ (arriveAll arrivals s).rqs = s.rqs ∧
    (arriveAll arrivals s).settings = s.settings ∧ (arriveAll arrivals s).store = s.store ∧
    (arriveAll arrivals s).pending = s.pending := by
  unfold arriveAll;
    simp [foldl_keeps State.power,
      foldl_keeps State.input,
      foldl_keeps State.trc,
      foldl_keeps State.odo,
      foldl_keeps State.stc,
      foldl_keeps State.clock,
      foldl_keeps State.msc,
      foldl_keeps State.rqs,
      foldl_keeps State.settings,
      foldl_keeps State.store,
      foldl_keeps State.pending]

@[simp] theorem writeLocal_frame (sig : Signal) (v : Option Int) (s : State) :
    (writeLocal sig v s).power = s.power ∧ (writeLocal sig v s).input = s.input ∧
    (writeLocal sig v s).trc = s.trc ∧ (writeLocal sig v s).odo = s.odo ∧
    (writeLocal sig v s).stc = s.stc ∧ (writeLocal sig v s).clock = s.clock ∧
    (writeLocal sig v s).msc = s.msc ∧ (writeLocal sig v s).rqs = s.rqs ∧
    (writeLocal sig v s).settings = s.settings ∧ (writeLocal sig v s).store = s.store ∧
    (writeLocal sig v s).pending = s.pending := by
  simp [writeLocal]

@[simp] theorem writeFuelLevel_frame (level : Nat) (s : State) :
    (writeFuelLevel level s).power = s.power ∧ (writeFuelLevel level s).input = s.input ∧
    (writeFuelLevel level s).odo = s.odo ∧ (writeFuelLevel level s).stc = s.stc ∧
    (writeFuelLevel level s).clock = s.clock ∧ (writeFuelLevel level s).msc = s.msc ∧
    (writeFuelLevel level s).rqs = s.rqs ∧ (writeFuelLevel level s).settings = s.settings ∧
    (writeFuelLevel level s).store = s.store ∧ (writeFuelLevel level s).pending = s.pending := by
  unfold writeFuelLevel; (try dsimp only); (repeat' split) <;> simp

@[simp] theorem restartCourtesy_frame (s : State) :
    (restartCourtesy s).link = s.link ∧ (restartCourtesy s).signals = s.signals ∧
    (restartCourtesy s).input = s.input ∧ (restartCourtesy s).gdu = s.gdu ∧
    (restartCourtesy s).trc = s.trc ∧ (restartCourtesy s).odo = s.odo ∧
    (restartCourtesy s).stc = s.stc ∧ (restartCourtesy s).wnu = s.wnu ∧
    (restartCourtesy s).sru = s.sru ∧ (restartCourtesy s).clock = s.clock ∧
    (restartCourtesy s).msc = s.msc ∧ (restartCourtesy s).rqs = s.rqs ∧
    (restartCourtesy s).settings = s.settings ∧ (restartCourtesy s).store = s.store ∧
    (restartCourtesy s).seq = s.seq ∧ (restartCourtesy s).draw = s.draw ∧
    (restartCourtesy s).pending = s.pending := by
  unfold restartCourtesy; (try dsimp only); (repeat' split) <;> simp

@[simp] theorem countForeign_frame (s : State) :
    (countForeign s).power = s.power ∧ (countForeign s).signals = s.signals ∧
    (countForeign s).input = s.input ∧ (countForeign s).gdu = s.gdu ∧
    (countForeign s).trc = s.trc ∧ (countForeign s).odo = s.odo ∧ (countForeign s).stc = s.stc ∧
    (countForeign s).wnu = s.wnu ∧ (countForeign s).sru = s.sru ∧
    (countForeign s).clock = s.clock ∧ (countForeign s).msc = s.msc ∧
    (countForeign s).rqs = s.rqs ∧ (countForeign s).settings = s.settings ∧
    (countForeign s).store = s.store ∧ (countForeign s).seq = s.seq ∧
    (countForeign s).draw = s.draw ∧ (countForeign s).pending = s.pending := by
  simp [countForeign]

@[simp] theorem passSecond_frame (s : State) :
    (passSecond s).power = s.power ∧ (passSecond s).signals = s.signals ∧
    (passSecond s).input = s.input ∧ (passSecond s).gdu = s.gdu ∧ (passSecond s).odo = s.odo ∧
    (passSecond s).stc = s.stc ∧ (passSecond s).wnu = s.wnu ∧ (passSecond s).sru = s.sru ∧
    (passSecond s).msc = s.msc ∧ (passSecond s).rqs = s.rqs ∧
    (passSecond s).settings = s.settings ∧ (passSecond s).store = s.store ∧
    (passSecond s).draw = s.draw ∧ (passSecond s).pending = s.pending := by
  unfold passSecond; (try dsimp only); (repeat' split) <;> simp

@[simp] theorem setTime_frame (hour minute second day : Nat) (s : State) :
    (setTime hour minute second day s).power = s.power ∧
    (setTime hour minute second day s).signals = s.signals ∧
    (setTime hour minute second day s).input = s.input ∧
    (setTime hour minute second day s).gdu = s.gdu ∧
    (setTime hour minute second day s).trc = s.trc ∧
    (setTime hour minute second day s).msc = s.msc ∧
    (setTime hour minute second day s).rqs = s.rqs ∧
    (setTime hour minute second day s).settings = s.settings ∧
    (setTime hour minute second day s).store = s.store ∧
    (setTime hour minute second day s).pending = s.pending := by
  unfold setTime; (try dsimp only); (repeat' split) <;> simp

@[simp] theorem refresh_frame (s : State) :
    (refresh s).power = s.power ∧ (refresh s).link = s.link ∧ (refresh s).signals = s.signals ∧
    (refresh s).input = s.input ∧ (refresh s).gdu = s.gdu ∧ (refresh s).trc = s.trc ∧
    (refresh s).odo = s.odo ∧ (refresh s).stc = s.stc ∧ (refresh s).wnu = s.wnu ∧
    (refresh s).sru = s.sru ∧ (refresh s).clock = s.clock ∧ (refresh s).rqs = s.rqs ∧
    (refresh s).settings = s.settings ∧ (refresh s).store = s.store ∧ (refresh s).seq = s.seq ∧
    (refresh s).draw = s.draw ∧ (refresh s).pending = s.pending := by
  unfold refresh; (try dsimp only); (repeat' split) <;> simp

@[simp] theorem beginLampTest_frame (s : State) :
    (beginLampTest s).power = s.power ∧ (beginLampTest s).link = s.link ∧
    (beginLampTest s).signals = s.signals ∧ (beginLampTest s).input = s.input ∧
    (beginLampTest s).gdu = s.gdu ∧ (beginLampTest s).trc = s.trc ∧
    (beginLampTest s).odo = s.odo ∧ (beginLampTest s).stc = s.stc ∧
    (beginLampTest s).wnu = s.wnu ∧ (beginLampTest s).sru = s.sru ∧
    (beginLampTest s).clock = s.clock ∧ (beginLampTest s).rqs = s.rqs ∧
    (beginLampTest s).settings = s.settings ∧ (beginLampTest s).store = s.store ∧
    (beginLampTest s).seq = s.seq ∧ (beginLampTest s).draw = s.draw ∧
    (beginLampTest s).pending = s.pending := by
  unfold beginLampTest; (try dsimp only); (repeat' split) <;> simp

@[simp] theorem giveNotice_frame (s : State) :
    (giveNotice s).power = s.power ∧ (giveNotice s).link = s.link ∧
    (giveNotice s).signals = s.signals ∧ (giveNotice s).gdu = s.gdu ∧ (giveNotice s).trc = s.trc ∧
    (giveNotice s).odo = s.odo ∧ (giveNotice s).stc = s.stc ∧ (giveNotice s).wnu = s.wnu ∧
    (giveNotice s).sru = s.sru ∧ (giveNotice s).clock = s.clock ∧ (giveNotice s).rqs = s.rqs ∧
    (giveNotice s).settings = s.settings ∧ (giveNotice s).store = s.store ∧
    (giveNotice s).seq = s.seq ∧ (giveNotice s).draw = s.draw ∧ (giveNotice s).pending = s.pending := by
  simp [giveNotice]

@[simp] theorem overrunNotice_frame (s : State) :
    (overrunNotice s).power = s.power ∧ (overrunNotice s).link = s.link ∧
    (overrunNotice s).signals = s.signals ∧ (overrunNotice s).gdu = s.gdu ∧
    (overrunNotice s).trc = s.trc ∧ (overrunNotice s).odo = s.odo ∧
    (overrunNotice s).stc = s.stc ∧ (overrunNotice s).wnu = s.wnu ∧
    (overrunNotice s).sru = s.sru ∧ (overrunNotice s).clock = s.clock ∧
    (overrunNotice s).rqs = s.rqs ∧ (overrunNotice s).settings = s.settings ∧
    (overrunNotice s).store = s.store ∧ (overrunNotice s).seq = s.seq ∧
    (overrunNotice s).draw = s.draw ∧ (overrunNotice s).pending = s.pending := by
  unfold overrunNotice; (repeat' split) <;> simp

@[simp] theorem takeEvent_frame (e : ButtonEvent) (rest : List ButtonEvent) (s : State) :
    (takeEvent e rest s).power = s.power ∧ (takeEvent e rest s).link = s.link ∧
    (takeEvent e rest s).signals = s.signals ∧ (takeEvent e rest s).gdu = s.gdu ∧
    (takeEvent e rest s).trc = s.trc ∧ (takeEvent e rest s).odo = s.odo ∧
    (takeEvent e rest s).stc = s.stc ∧ (takeEvent e rest s).wnu = s.wnu ∧
    (takeEvent e rest s).sru = s.sru ∧ (takeEvent e rest s).clock = s.clock ∧
    (takeEvent e rest s).rqs = s.rqs ∧ (takeEvent e rest s).settings = s.settings ∧
    (takeEvent e rest s).store = s.store ∧ (takeEvent e rest s).seq = s.seq ∧
    (takeEvent e rest s).draw = s.draw ∧ (takeEvent e rest s).pending = s.pending := by
  unfold takeEvent; (try dsimp only); (repeat' split) <;> simp

@[simp] theorem markEvent_frame (e : ButtonEvent) (s : State) :
    (markEvent e s).power = s.power ∧ (markEvent e s).link = s.link ∧
    (markEvent e s).signals = s.signals ∧ (markEvent e s).input = s.input ∧
    (markEvent e s).gdu = s.gdu ∧ (markEvent e s).trc = s.trc ∧ (markEvent e s).odo = s.odo ∧
    (markEvent e s).stc = s.stc ∧ (markEvent e s).wnu = s.wnu ∧ (markEvent e s).sru = s.sru ∧
    (markEvent e s).clock = s.clock ∧ (markEvent e s).rqs = s.rqs ∧
    (markEvent e s).settings = s.settings ∧ (markEvent e s).store = s.store ∧
    (markEvent e s).seq = s.seq ∧ (markEvent e s).draw = s.draw ∧
    (markEvent e s).pending = s.pending := by
  unfold markEvent; (try dsimp only); (repeat' split) <;> simp

@[simp] theorem endReview_frame (s : State) :
    (endReview s).power = s.power ∧ (endReview s).link = s.link ∧
    (endReview s).signals = s.signals ∧ (endReview s).input = s.input ∧
    (endReview s).gdu = s.gdu ∧ (endReview s).trc = s.trc ∧ (endReview s).odo = s.odo ∧
    (endReview s).stc = s.stc ∧ (endReview s).wnu = s.wnu ∧ (endReview s).sru = s.sru ∧
    (endReview s).clock = s.clock ∧ (endReview s).rqs = s.rqs ∧
    (endReview s).settings = s.settings ∧ (endReview s).store = s.store ∧
    (endReview s).seq = s.seq ∧ (endReview s).draw = s.draw ∧ (endReview s).pending = s.pending := by
  simp [endReview]

@[simp] theorem startReview_frame (s : State) :
    (startReview s).power = s.power ∧ (startReview s).link = s.link ∧
    (startReview s).signals = s.signals ∧ (startReview s).input = s.input ∧
    (startReview s).gdu = s.gdu ∧ (startReview s).trc = s.trc ∧ (startReview s).odo = s.odo ∧
    (startReview s).stc = s.stc ∧ (startReview s).wnu = s.wnu ∧ (startReview s).sru = s.sru ∧
    (startReview s).clock = s.clock ∧ (startReview s).rqs = s.rqs ∧
    (startReview s).settings = s.settings ∧ (startReview s).store = s.store ∧
    (startReview s).seq = s.seq ∧ (startReview s).draw = s.draw ∧
    (startReview s).pending = s.pending := by
  simp [startReview]

end Sys2Proof.Machine
end

