-- ==== Sys2Proof/Laws/FramesPower.lean ====
section
/-! SUPPORT. What each shared operation of the power transitions and the steps of the commands leaves
alone: one lemma for each, a conjunction of the fields it keeps. -/

namespace Sys2Proof.Machine

open Sys2Proof

@[simp] theorem startAfresh_frame (kind : StartKind) (step : StartStep) (hold : Timer) (s : State) :
    (startAfresh kind step hold s).store = s.store ∧ (startAfresh kind step hold s).seq = s.seq ∧
    (startAfresh kind step hold s).draw = s.draw ∧
    (startAfresh kind step hold s).pending = s.pending := by
  exact ⟨rfl, rfl, rfl, rfl⟩

@[simp] theorem beginSteps_frame (s : State) :
    (beginSteps s).link = s.link ∧ (beginSteps s).signals = s.signals ∧
    (beginSteps s).input = s.input ∧ (beginSteps s).gdu = s.gdu ∧ (beginSteps s).trc = s.trc ∧
    (beginSteps s).odo = s.odo ∧ (beginSteps s).stc = s.stc ∧ (beginSteps s).wnu = s.wnu ∧
    (beginSteps s).sru = s.sru ∧ (beginSteps s).clock = s.clock ∧ (beginSteps s).rqs = s.rqs ∧
    (beginSteps s).settings = s.settings ∧ (beginSteps s).store = s.store ∧
    (beginSteps s).seq = s.seq ∧ (beginSteps s).draw = s.draw ∧ (beginSteps s).pending = s.pending := by
  unfold beginSteps; (try dsimp only); (repeat' split) <;> simp

@[simp] theorem wakeStart_frame (s : State) :
    (wakeStart s).store = s.store ∧ (wakeStart s).seq = s.seq ∧ (wakeStart s).draw = s.draw ∧
    (wakeStart s).pending = s.pending := by
  simp [wakeStart]

@[simp] theorem wakeEvent_frame (s : State) :
    (wakeEvent s).store = s.store ∧ (wakeEvent s).seq = s.seq ∧ (wakeEvent s).draw = s.draw ∧
    (wakeEvent s).pending = s.pending := by
  unfold wakeEvent; (repeat' split) <;> simp

@[simp] theorem panelRestart_frame (s : State) :
    (panelRestart s).seq = s.seq ∧ (panelRestart s).pending = s.pending := by
  simp [panelRestart]

@[simp] theorem coldKeepAlive_frame (s : State) :
    (coldKeepAlive s).signals = s.signals ∧ (coldKeepAlive s).gdu = s.gdu ∧
    (coldKeepAlive s).stc = s.stc ∧ (coldKeepAlive s).sru = s.sru ∧
    (coldKeepAlive s).settings = s.settings ∧ (coldKeepAlive s).store = s.store ∧
    (coldKeepAlive s).seq = s.seq ∧ (coldKeepAlive s).draw = s.draw ∧
    (coldKeepAlive s).pending = s.pending := by
  simp [coldKeepAlive]

@[simp] theorem keepAliveCheck_frame (found : Option (BitVec 16)) (ram : List (Vector Byte 8)) (s : State) :
    (keepAliveCheck found ram s).signals = s.signals ∧
    (keepAliveCheck found ram s).gdu = s.gdu ∧ (keepAliveCheck found ram s).stc = s.stc ∧
    (keepAliveCheck found ram s).sru = s.sru ∧
    (keepAliveCheck found ram s).settings = s.settings ∧
    (keepAliveCheck found ram s).store = s.store ∧
    (keepAliveCheck found ram s).pending = s.pending := by
  unfold keepAliveCheck; dsimp only; simp only [State.setPower_signals, State.setPower_gdu,
    State.setPower_stc, State.setPower_sru, State.setPower_settings, State.setPower_store,
    State.setPower_pending]
  (repeat' split) <;> simp

@[simp] theorem recordConfigResult_frame (r : ConfigResult) (s : State) :
    (recordConfigResult r s).power = s.power ∧ (recordConfigResult r s).link = s.link ∧
    (recordConfigResult r s).signals = s.signals ∧ (recordConfigResult r s).input = s.input ∧
    (recordConfigResult r s).gdu = s.gdu ∧ (recordConfigResult r s).trc = s.trc ∧
    (recordConfigResult r s).odo = s.odo ∧ (recordConfigResult r s).stc = s.stc ∧
    (recordConfigResult r s).wnu = s.wnu ∧ (recordConfigResult r s).sru = s.sru ∧
    (recordConfigResult r s).clock = s.clock ∧ (recordConfigResult r s).msc = s.msc ∧
    (recordConfigResult r s).settings = s.settings ∧ (recordConfigResult r s).store = s.store ∧
    (recordConfigResult r s).seq = s.seq ∧ (recordConfigResult r s).draw = s.draw ∧
    (recordConfigResult r s).pending = s.pending := by
  unfold recordConfigResult; (repeat' split) <;> simp

@[simp] theorem takeConfiguration_frame (bytes : List Byte) (c : Settings) (r : ConfigResult) (s : State) :
    (takeConfiguration bytes c r s).trc = s.trc ∧ (takeConfiguration bytes c r s).odo = s.odo ∧
    (takeConfiguration bytes c r s).stc = s.stc ∧ (takeConfiguration bytes c r s).sru = s.sru ∧
    (takeConfiguration bytes c r s).msc = s.msc ∧
    (takeConfiguration bytes c r s).store = s.store ∧
    (takeConfiguration bytes c r s).seq = s.seq ∧ (takeConfiguration bytes c r s).draw = s.draw ∧
    (takeConfiguration bytes c r s).pending = s.pending := by
  simp [takeConfiguration]

@[simp] theorem readConfigurationStep_frame (s : State) :
    (readConfigurationStep s).trc = s.trc ∧ (readConfigurationStep s).odo = s.odo ∧
    (readConfigurationStep s).stc = s.stc ∧ (readConfigurationStep s).sru = s.sru ∧
    (readConfigurationStep s).msc = s.msc ∧ (readConfigurationStep s).store = s.store ∧
    (readConfigurationStep s).pending = s.pending := by
  simp [readConfigurationStep]

@[simp] theorem takeRing_frame (s : State) :
    (takeRing s).power = s.power ∧ (takeRing s).link = s.link ∧ (takeRing s).signals = s.signals ∧
    (takeRing s).input = s.input ∧ (takeRing s).gdu = s.gdu ∧ (takeRing s).trc = s.trc ∧
    (takeRing s).wnu = s.wnu ∧ (takeRing s).sru = s.sru ∧ (takeRing s).clock = s.clock ∧
    (takeRing s).msc = s.msc ∧ (takeRing s).settings = s.settings ∧ (takeRing s).store = s.store ∧
    (takeRing s).seq = s.seq ∧ (takeRing s).draw = s.draw ∧ (takeRing s).pending = s.pending := by
  unfold takeRing; (try dsimp only); (repeat' split) <;> simp

@[simp] theorem openPort_frame (s : State) :
    (openPort s).power = s.power ∧ (openPort s).link = s.link ∧ (openPort s).signals = s.signals ∧
    (openPort s).input = s.input ∧ (openPort s).gdu = s.gdu ∧ (openPort s).trc = s.trc ∧
    (openPort s).wnu = s.wnu ∧ (openPort s).sru = s.sru ∧ (openPort s).clock = s.clock ∧
    (openPort s).msc = s.msc ∧ (openPort s).rqs = s.rqs ∧ (openPort s).settings = s.settings ∧
    (openPort s).store = s.store ∧ (openPort s).seq = s.seq ∧ (openPort s).draw = s.draw ∧
    (openPort s).pending = s.pending := by
  simp [openPort]

@[simp] theorem leaveStarting_frame (contacts : BitVec 6) (s : State) :
    (leaveStarting contacts s).power = s.power ∧ (leaveStarting contacts s).signals = s.signals ∧
    (leaveStarting contacts s).trc = s.trc ∧ (leaveStarting contacts s).stc = s.stc ∧
    (leaveStarting contacts s).sru = s.sru ∧ (leaveStarting contacts s).clock = s.clock ∧
    (leaveStarting contacts s).msc = s.msc ∧ (leaveStarting contacts s).rqs = s.rqs ∧
    (leaveStarting contacts s).settings = s.settings ∧
    (leaveStarting contacts s).store = s.store ∧ (leaveStarting contacts s).seq = s.seq ∧
    (leaveStarting contacts s).draw = s.draw ∧ (leaveStarting contacts s).pending = s.pending := by
  simp [leaveStarting]

@[simp] theorem enterRun_frame (s : State) :
    (enterRun s).signals = s.signals ∧ (enterRun s).input = s.input ∧ (enterRun s).stc = s.stc ∧
    (enterRun s).clock = s.clock ∧ (enterRun s).msc = s.msc ∧ (enterRun s).rqs = s.rqs ∧
    (enterRun s).settings = s.settings ∧ (enterRun s).store = s.store ∧
    (enterRun s).pending = s.pending := by
  simp [enterRun]

@[simp] theorem enterCourtesy_frame (s : State) :
    (enterCourtesy s).signals = s.signals ∧ (enterCourtesy s).input = s.input ∧
    (enterCourtesy s).gdu = s.gdu ∧ (enterCourtesy s).stc = s.stc ∧
    (enterCourtesy s).sru = s.sru ∧ (enterCourtesy s).clock = s.clock ∧
    (enterCourtesy s).rqs = s.rqs ∧ (enterCourtesy s).settings = s.settings ∧
    (enterCourtesy s).store = s.store ∧ (enterCourtesy s).pending = s.pending := by
  unfold enterCourtesy; (try dsimp only); (repeat' split) <;> simp

@[simp] theorem endStarting_frame (contacts : BitVec 6) (s : State) :
    (endStarting contacts s).signals = s.signals ∧ (endStarting contacts s).stc = s.stc ∧
    (endStarting contacts s).clock = s.clock ∧ (endStarting contacts s).rqs = s.rqs ∧
    (endStarting contacts s).settings = s.settings ∧ (endStarting contacts s).store = s.store ∧
    (endStarting contacts s).pending = s.pending := by
  unfold endStarting; (try dsimp only); (repeat' split) <;> simp

@[simp] theorem maybeEndStarting_frame (contacts : BitVec 6) (s : State) :
    (maybeEndStarting contacts s).signals = s.signals ∧
    (maybeEndStarting contacts s).stc = s.stc ∧ (maybeEndStarting contacts s).clock = s.clock ∧
    (maybeEndStarting contacts s).rqs = s.rqs ∧
    (maybeEndStarting contacts s).settings = s.settings ∧
    (maybeEndStarting contacts s).store = s.store ∧
    (maybeEndStarting contacts s).pending = s.pending := by
  unfold maybeEndStarting; (repeat' split) <;> simp

@[simp] theorem endWarnings_frame (s : State) :
    (endWarnings s).power = s.power ∧ (endWarnings s).signals = s.signals ∧
    (endWarnings s).input = s.input ∧ (endWarnings s).gdu = s.gdu ∧
    (endWarnings s).trc = s.trc ∧ (endWarnings s).odo = s.odo ∧
    (endWarnings s).stc = s.stc ∧ (endWarnings s).sru = s.sru ∧
    (endWarnings s).clock = s.clock ∧ (endWarnings s).msc = s.msc ∧
    (endWarnings s).rqs = s.rqs ∧ (endWarnings s).settings = s.settings ∧
    (endWarnings s).store = s.store ∧ (endWarnings s).draw = s.draw ∧
    (endWarnings s).pending = s.pending := by
  unfold endWarnings
  refine ⟨foldl_keeps State.power _ (fun s x => ?_) _ _,
    foldl_keeps State.signals _ (fun s x => ?_) _ _,
    foldl_keeps State.input _ (fun s x => ?_) _ _,
    foldl_keeps State.gdu _ (fun s x => ?_) _ _,
    foldl_keeps State.trc _ (fun s x => ?_) _ _,
    foldl_keeps State.odo _ (fun s x => ?_) _ _,
    foldl_keeps State.stc _ (fun s x => ?_) _ _,
    foldl_keeps State.sru _ (fun s x => ?_) _ _,
    foldl_keeps State.clock _ (fun s x => ?_) _ _,
    foldl_keeps State.msc _ (fun s x => ?_) _ _,
    foldl_keeps State.rqs _ (fun s x => ?_) _ _,
    foldl_keeps State.settings _ (fun s x => ?_) _ _,
    foldl_keeps State.store _ (fun s x => ?_) _ _,
    foldl_keeps State.draw _ (fun s x => ?_) _ _,
    foldl_keeps State.pending _ (fun s x => ?_) _ _⟩ <;>
    (repeat' split) <;> simp

@[simp] theorem silenceWarnings_frame (s : State) :
    (silenceWarnings s).power = s.power ∧ (silenceWarnings s).signals = s.signals ∧
    (silenceWarnings s).input = s.input ∧ (silenceWarnings s).gdu = s.gdu ∧
    (silenceWarnings s).trc = s.trc ∧ (silenceWarnings s).odo = s.odo ∧
    (silenceWarnings s).stc = s.stc ∧ (silenceWarnings s).sru = s.sru ∧
    (silenceWarnings s).clock = s.clock ∧ (silenceWarnings s).msc = s.msc ∧
    (silenceWarnings s).rqs = s.rqs ∧ (silenceWarnings s).settings = s.settings ∧
    (silenceWarnings s).store = s.store ∧ (silenceWarnings s).pending = s.pending := by
  simp [silenceWarnings]

@[simp] theorem beginPark_frame (s : State) :
    (beginPark s).link = s.link ∧ (beginPark s).signals = s.signals ∧
    (beginPark s).input = s.input ∧ (beginPark s).trc = s.trc ∧ (beginPark s).odo = s.odo ∧
    (beginPark s).stc = s.stc ∧ (beginPark s).wnu = s.wnu ∧ (beginPark s).sru = s.sru ∧
    (beginPark s).clock = s.clock ∧ (beginPark s).msc = s.msc ∧ (beginPark s).rqs = s.rqs ∧
    (beginPark s).settings = s.settings ∧ (beginPark s).store = s.store ∧
    (beginPark s).seq = s.seq ∧ (beginPark s).draw = s.draw ∧ (beginPark s).pending = s.pending := by
  simp [beginPark]

@[simp] theorem sleepReport_frame (j : Job) (n : Nat) (done failed : Bool) (s : State) :
    (sleepReport j n done failed s).power = s.power ∧
    (sleepReport j n done failed s).link = s.link ∧
    (sleepReport j n done failed s).signals = s.signals ∧
    (sleepReport j n done failed s).input = s.input ∧
    (sleepReport j n done failed s).gdu = s.gdu ∧ (sleepReport j n done failed s).trc = s.trc ∧
    (sleepReport j n done failed s).wnu = s.wnu ∧
    (sleepReport j n done failed s).clock = s.clock ∧
    (sleepReport j n done failed s).msc = s.msc ∧
    (sleepReport j n done failed s).settings = s.settings ∧
    (sleepReport j n done failed s).store = s.store ∧
    (sleepReport j n done failed s).seq = s.seq ∧ (sleepReport j n done failed s).draw = s.draw ∧
    (sleepReport j n done failed s).pending = s.pending := by
  unfold sleepReport; (try dsimp only); (repeat' split) <;> simp

@[simp] theorem finishUnit_frame (s : State) :
    (finishUnit s).power = s.power ∧ (finishUnit s).link = s.link ∧
    (finishUnit s).signals = s.signals ∧ (finishUnit s).input = s.input ∧
    (finishUnit s).gdu = s.gdu ∧ (finishUnit s).trc = s.trc ∧ (finishUnit s).wnu = s.wnu ∧
    (finishUnit s).clock = s.clock ∧ (finishUnit s).msc = s.msc ∧
    (finishUnit s).settings = s.settings ∧ (finishUnit s).seq = s.seq ∧
    (finishUnit s).pending = s.pending := by
  unfold finishUnit; (try dsimp only); (repeat' split) <;> simp

@[simp] theorem closePort_frame (s : State) :
    (closePort s).power = s.power ∧ (closePort s).link = s.link ∧
    (closePort s).signals = s.signals ∧ (closePort s).input = s.input ∧
    (closePort s).gdu = s.gdu ∧ (closePort s).trc = s.trc ∧ (closePort s).wnu = s.wnu ∧
    (closePort s).clock = s.clock ∧ (closePort s).msc = s.msc ∧
    (closePort s).settings = s.settings ∧ (closePort s).seq = s.seq ∧
    (closePort s).pending = s.pending := by
  simp [closePort]

@[simp] theorem closeLink_frame (s : State) :
    (closeLink s).power = s.power ∧ (closeLink s).signals = s.signals ∧
    (closeLink s).input = s.input ∧ (closeLink s).gdu = s.gdu ∧ (closeLink s).trc = s.trc ∧
    (closeLink s).odo = s.odo ∧ (closeLink s).stc = s.stc ∧ (closeLink s).wnu = s.wnu ∧
    (closeLink s).sru = s.sru ∧ (closeLink s).clock = s.clock ∧ (closeLink s).msc = s.msc ∧
    (closeLink s).settings = s.settings ∧ (closeLink s).store = s.store ∧
    (closeLink s).seq = s.seq ∧ (closeLink s).pending = s.pending := by
  unfold closeLink; (try dsimp only); (repeat' split) <;> simp

@[simp] theorem closeInputs_frame (s : State) :
    (closeInputs s).power = s.power ∧ (closeInputs s).link = s.link ∧
    (closeInputs s).gdu = s.gdu ∧ (closeInputs s).trc = s.trc ∧ (closeInputs s).odo = s.odo ∧
    (closeInputs s).stc = s.stc ∧ (closeInputs s).wnu = s.wnu ∧ (closeInputs s).sru = s.sru ∧
    (closeInputs s).clock = s.clock ∧ (closeInputs s).msc = s.msc ∧ (closeInputs s).rqs = s.rqs ∧
    (closeInputs s).settings = s.settings ∧ (closeInputs s).store = s.store ∧
    (closeInputs s).seq = s.seq ∧ (closeInputs s).draw = s.draw ∧
    (closeInputs s).pending = s.pending := by
  simp [closeInputs]

@[simp] theorem enterSleep_frame (s : State) :
    (enterSleep s).seq = s.seq ∧ (enterSleep s).pending = s.pending := by
  unfold enterSleep; (try dsimp only); (repeat' split) <;> simp

@[simp] theorem finishPark_frame (s : State) :
    (finishPark s).seq = s.seq ∧ (finishPark s).pending = s.pending := by
  unfold finishPark; (repeat' split) <;> simp

@[simp] theorem finishSave_frame (s : State) :
    (finishSave s).seq = s.seq ∧ (finishSave s).pending = s.pending := by
  unfold finishSave; (repeat' split) <;> simp

@[simp] theorem endCourtesy_frame (s : State) :
    (endCourtesy s).pending = s.pending := by
  simp [endCourtesy]

@[simp] theorem raiseRestored_frame (s : State) :
    (raiseRestored s).power = s.power ∧ (raiseRestored s).signals = s.signals ∧
    (raiseRestored s).input = s.input ∧ (raiseRestored s).gdu = s.gdu ∧
    (raiseRestored s).trc = s.trc ∧ (raiseRestored s).odo = s.odo ∧
    (raiseRestored s).stc = s.stc ∧ (raiseRestored s).sru = s.sru ∧
    (raiseRestored s).clock = s.clock ∧ (raiseRestored s).msc = s.msc ∧
    (raiseRestored s).rqs = s.rqs ∧ (raiseRestored s).settings = s.settings ∧
    (raiseRestored s).store = s.store ∧ (raiseRestored s).pending = s.pending := by
  simp [raiseRestored]

@[simp] theorem handOverKm_frame (s : State) :
    (handOverKm s).power = s.power ∧ (handOverKm s).signals = s.signals ∧
    (handOverKm s).input = s.input ∧ (handOverKm s).gdu = s.gdu ∧ (handOverKm s).trc = s.trc ∧
    (handOverKm s).clock = s.clock ∧ (handOverKm s).msc = s.msc ∧ (handOverKm s).rqs = s.rqs ∧
    (handOverKm s).settings = s.settings ∧ (handOverKm s).store = s.store ∧
    (handOverKm s).pending = s.pending := by
  unfold handOverKm; (try dsimp only); (repeat' split) <;> simp

@[simp] theorem handOverAndRaise_frame (restored : Bool) (s : State) :
    (handOverAndRaise restored s).power = s.power ∧
    (handOverAndRaise restored s).signals = s.signals ∧
    (handOverAndRaise restored s).input = s.input ∧ (handOverAndRaise restored s).gdu = s.gdu ∧
    (handOverAndRaise restored s).trc = s.trc ∧ (handOverAndRaise restored s).clock = s.clock ∧
    (handOverAndRaise restored s).msc = s.msc ∧ (handOverAndRaise restored s).rqs = s.rqs ∧
    (handOverAndRaise restored s).settings = s.settings ∧
    (handOverAndRaise restored s).store = s.store ∧
    (handOverAndRaise restored s).pending = s.pending := by
  unfold handOverAndRaise; (repeat' split) <;> simp

@[simp] theorem offerCourtesyDistance_frame (s : State) :
    (offerCourtesyDistance s).power = s.power ∧ (offerCourtesyDistance s).signals = s.signals ∧
    (offerCourtesyDistance s).input = s.input ∧ (offerCourtesyDistance s).gdu = s.gdu ∧
    (offerCourtesyDistance s).trc = s.trc ∧ (offerCourtesyDistance s).stc = s.stc ∧
    (offerCourtesyDistance s).wnu = s.wnu ∧ (offerCourtesyDistance s).sru = s.sru ∧
    (offerCourtesyDistance s).clock = s.clock ∧ (offerCourtesyDistance s).msc = s.msc ∧
    (offerCourtesyDistance s).rqs = s.rqs ∧ (offerCourtesyDistance s).settings = s.settings ∧
    (offerCourtesyDistance s).store = s.store ∧ (offerCourtesyDistance s).draw = s.draw ∧
    (offerCourtesyDistance s).pending = s.pending := by
  unfold offerCourtesyDistance; (try dsimp only); (repeat' split) <;> simp

@[simp] theorem resolveOdometer_frame (echo : Option Nat) (s : State) :
    (resolveOdometer echo s).power = s.power ∧ (resolveOdometer echo s).signals = s.signals ∧
    (resolveOdometer echo s).input = s.input ∧ (resolveOdometer echo s).gdu = s.gdu ∧
    (resolveOdometer echo s).clock = s.clock ∧ (resolveOdometer echo s).msc = s.msc ∧
    (resolveOdometer echo s).rqs = s.rqs ∧ (resolveOdometer echo s).settings = s.settings ∧
    (resolveOdometer echo s).store = s.store ∧ (resolveOdometer echo s).pending = s.pending := by
  unfold resolveOdometer; (try dsimp only); (repeat' split) <;> simp

@[simp] theorem refreshRoster_frame (source : Nat) (s : State) :
    (refreshRoster source s).power = s.power ∧ (refreshRoster source s).signals = s.signals ∧
    (refreshRoster source s).input = s.input ∧ (refreshRoster source s).gdu = s.gdu ∧
    (refreshRoster source s).trc = s.trc ∧ (refreshRoster source s).odo = s.odo ∧
    (refreshRoster source s).stc = s.stc ∧ (refreshRoster source s).sru = s.sru ∧
    (refreshRoster source s).clock = s.clock ∧ (refreshRoster source s).msc = s.msc ∧
    (refreshRoster source s).rqs = s.rqs ∧ (refreshRoster source s).settings = s.settings ∧
    (refreshRoster source s).store = s.store ∧ (refreshRoster source s).pending = s.pending := by
  unfold refreshRoster; (try dsimp only); (repeat' split) <;> simp

@[simp] theorem checkClash_frame (source : Nat) (s : State) :
    (checkClash source s).power = s.power ∧ (checkClash source s).signals = s.signals ∧
    (checkClash source s).input = s.input ∧ (checkClash source s).gdu = s.gdu ∧
    (checkClash source s).trc = s.trc ∧ (checkClash source s).odo = s.odo ∧
    (checkClash source s).stc = s.stc ∧ (checkClash source s).wnu = s.wnu ∧
    (checkClash source s).sru = s.sru ∧ (checkClash source s).clock = s.clock ∧
    (checkClash source s).msc = s.msc ∧ (checkClash source s).settings = s.settings ∧
    (checkClash source s).store = s.store ∧ (checkClash source s).seq = s.seq ∧
    (checkClash source s).draw = s.draw ∧ (checkClash source s).pending = s.pending := by
  unfold checkClash; (repeat' split) <;> simp

@[simp] theorem offerRing_frame (f : Frame) (s : State) :
    (offerRing f s).power = s.power ∧ (offerRing f s).signals = s.signals ∧
    (offerRing f s).input = s.input ∧ (offerRing f s).gdu = s.gdu ∧ (offerRing f s).trc = s.trc ∧
    (offerRing f s).odo = s.odo ∧ (offerRing f s).stc = s.stc ∧ (offerRing f s).wnu = s.wnu ∧
    (offerRing f s).sru = s.sru ∧ (offerRing f s).clock = s.clock ∧ (offerRing f s).msc = s.msc ∧
    (offerRing f s).settings = s.settings ∧ (offerRing f s).store = s.store ∧
    (offerRing f s).seq = s.seq ∧ (offerRing f s).draw = s.draw ∧
    (offerRing f s).pending = s.pending := by
  unfold offerRing; (try dsimp only); (repeat' split) <;> simp

@[simp] theorem acceptFrame_frame (f : Frame) (s : State) :
    (acceptFrame f s).power = s.power ∧ (acceptFrame f s).signals = s.signals ∧
    (acceptFrame f s).input = s.input ∧ (acceptFrame f s).gdu = s.gdu ∧
    (acceptFrame f s).trc = s.trc ∧ (acceptFrame f s).odo = s.odo ∧
    (acceptFrame f s).stc = s.stc ∧ (acceptFrame f s).sru = s.sru ∧
    (acceptFrame f s).clock = s.clock ∧ (acceptFrame f s).msc = s.msc ∧
    (acceptFrame f s).settings = s.settings ∧ (acceptFrame f s).store = s.store ∧
    (acceptFrame f s).pending = s.pending := by
  simp [acceptFrame]

@[simp] theorem takeCheck_frame (bytes : List Byte) (b : Byte) (s : State) :
    (takeCheck bytes b s).power = s.power ∧ (takeCheck bytes b s).signals = s.signals ∧
    (takeCheck bytes b s).input = s.input ∧ (takeCheck bytes b s).gdu = s.gdu ∧
    (takeCheck bytes b s).trc = s.trc ∧ (takeCheck bytes b s).odo = s.odo ∧
    (takeCheck bytes b s).stc = s.stc ∧ (takeCheck bytes b s).sru = s.sru ∧
    (takeCheck bytes b s).clock = s.clock ∧ (takeCheck bytes b s).msc = s.msc ∧
    (takeCheck bytes b s).settings = s.settings ∧ (takeCheck bytes b s).store = s.store ∧
    (takeCheck bytes b s).pending = s.pending := by
  unfold takeCheck; (try dsimp only); (repeat' split) <;> simp

@[simp] theorem takeByte_frame (framing : Bool) (b : Byte) (s : State) :
    (takeByte framing b s).power = s.power ∧ (takeByte framing b s).signals = s.signals ∧
    (takeByte framing b s).input = s.input ∧ (takeByte framing b s).gdu = s.gdu ∧
    (takeByte framing b s).trc = s.trc ∧ (takeByte framing b s).odo = s.odo ∧
    (takeByte framing b s).stc = s.stc ∧ (takeByte framing b s).sru = s.sru ∧
    (takeByte framing b s).clock = s.clock ∧ (takeByte framing b s).msc = s.msc ∧
    (takeByte framing b s).settings = s.settings ∧ (takeByte framing b s).store = s.store ∧
    (takeByte framing b s).pending = s.pending := by
  unfold takeByte; (try dsimp only); (repeat' split) <;> simp

@[simp] theorem abandonEntry_frame (s : State) :
    (abandonEntry s).power = s.power ∧ (abandonEntry s).signals = s.signals ∧
    (abandonEntry s).input = s.input ∧ (abandonEntry s).gdu = s.gdu ∧
    (abandonEntry s).trc = s.trc ∧ (abandonEntry s).odo = s.odo ∧ (abandonEntry s).stc = s.stc ∧
    (abandonEntry s).wnu = s.wnu ∧ (abandonEntry s).sru = s.sru ∧
    (abandonEntry s).clock = s.clock ∧ (abandonEntry s).msc = s.msc ∧
    (abandonEntry s).settings = s.settings ∧ (abandonEntry s).store = s.store ∧
    (abandonEntry s).seq = s.seq ∧ (abandonEntry s).draw = s.draw ∧
    (abandonEntry s).pending = s.pending := by
  simp [abandonEntry]

@[simp] theorem showPeerText_frame (text station : Nat) (s : State) :
    (showPeerText text station s).power = s.power ∧ (showPeerText text station s).link = s.link ∧
    (showPeerText text station s).signals = s.signals ∧
    (showPeerText text station s).input = s.input ∧ (showPeerText text station s).gdu = s.gdu ∧
    (showPeerText text station s).trc = s.trc ∧ (showPeerText text station s).odo = s.odo ∧
    (showPeerText text station s).stc = s.stc ∧ (showPeerText text station s).wnu = s.wnu ∧
    (showPeerText text station s).sru = s.sru ∧ (showPeerText text station s).clock = s.clock ∧
    (showPeerText text station s).rqs = s.rqs ∧
    (showPeerText text station s).settings = s.settings ∧
    (showPeerText text station s).store = s.store ∧ (showPeerText text station s).seq = s.seq ∧
    (showPeerText text station s).draw = s.draw ∧
    (showPeerText text station s).pending = s.pending := by
  simp [showPeerText]

@[simp] theorem giveStationChime_frame (r : ChimeRequest) (text station : Nat) (s : State) :
    (giveStationChime r text station s).power = s.power ∧
    (giveStationChime r text station s).link = s.link ∧
    (giveStationChime r text station s).signals = s.signals ∧
    (giveStationChime r text station s).input = s.input ∧
    (giveStationChime r text station s).gdu = s.gdu ∧
    (giveStationChime r text station s).trc = s.trc ∧
    (giveStationChime r text station s).odo = s.odo ∧
    (giveStationChime r text station s).stc = s.stc ∧
    (giveStationChime r text station s).sru = s.sru ∧
    (giveStationChime r text station s).clock = s.clock ∧
    (giveStationChime r text station s).rqs = s.rqs ∧
    (giveStationChime r text station s).settings = s.settings ∧
    (giveStationChime r text station s).store = s.store ∧
    (giveStationChime r text station s).draw = s.draw ∧
    (giveStationChime r text station s).pending = s.pending := by
  unfold giveStationChime; (try dsimp only); (repeat' split) <;> simp

@[simp] theorem cancelStation_frame (station : Nat) (s : State) :
    (cancelStation station s).power = s.power ∧ (cancelStation station s).link = s.link ∧
    (cancelStation station s).signals = s.signals ∧ (cancelStation station s).input = s.input ∧
    (cancelStation station s).gdu = s.gdu ∧ (cancelStation station s).trc = s.trc ∧
    (cancelStation station s).odo = s.odo ∧ (cancelStation station s).stc = s.stc ∧
    (cancelStation station s).sru = s.sru ∧ (cancelStation station s).clock = s.clock ∧
    (cancelStation station s).rqs = s.rqs ∧ (cancelStation station s).settings = s.settings ∧
    (cancelStation station s).store = s.store ∧ (cancelStation station s).seq = s.seq ∧
    (cancelStation station s).draw = s.draw ∧ (cancelStation station s).pending = s.pending := by
  unfold cancelStation; (try dsimp only); (repeat' split) <;> simp

@[simp] theorem countLost_frame (s : State) :
    (countLost s).power = s.power ∧ (countLost s).link = s.link ∧
    (countLost s).signals = s.signals ∧ (countLost s).input = s.input ∧
    (countLost s).gdu = s.gdu ∧ (countLost s).odo = s.odo ∧ (countLost s).stc = s.stc ∧
    (countLost s).wnu = s.wnu ∧ (countLost s).sru = s.sru ∧ (countLost s).clock = s.clock ∧
    (countLost s).msc = s.msc ∧ (countLost s).rqs = s.rqs ∧ (countLost s).settings = s.settings ∧
    (countLost s).store = s.store ∧ (countLost s).seq = s.seq ∧ (countLost s).draw = s.draw ∧
    (countLost s).pending = s.pending := by
  simp [countLost]

@[simp] theorem takePulse_frame (s : State) :
    (takePulse s).power = s.power ∧ (takePulse s).link = s.link ∧
    (takePulse s).signals = s.signals ∧ (takePulse s).gdu = s.gdu ∧ (takePulse s).wnu = s.wnu ∧
    (takePulse s).sru = s.sru ∧ (takePulse s).clock = s.clock ∧ (takePulse s).msc = s.msc ∧
    (takePulse s).rqs = s.rqs ∧ (takePulse s).settings = s.settings ∧
    (takePulse s).store = s.store ∧ (takePulse s).seq = s.seq ∧ (takePulse s).draw = s.draw ∧
    (takePulse s).pending = s.pending := by
  unfold takePulse; (try dsimp only); (repeat' split) <;> simp

@[simp] theorem badReading_frame (s : State) :
    (badReading s).power = s.power ∧ (badReading s).trc = s.trc ∧ (badReading s).odo = s.odo ∧
    (badReading s).stc = s.stc ∧ (badReading s).clock = s.clock ∧ (badReading s).msc = s.msc ∧
    (badReading s).rqs = s.rqs ∧ (badReading s).settings = s.settings ∧
    (badReading s).store = s.store ∧ (badReading s).pending = s.pending := by
  unfold badReading; (try dsimp only); (repeat' split) <;> simp

@[simp] theorem averageReading_frame (level : Nat) (s : State) :
    (averageReading level s).power = s.power ∧ (averageReading level s).odo = s.odo ∧
    (averageReading level s).stc = s.stc ∧ (averageReading level s).clock = s.clock ∧
    (averageReading level s).msc = s.msc ∧ (averageReading level s).rqs = s.rqs ∧
    (averageReading level s).settings = s.settings ∧ (averageReading level s).store = s.store ∧
    (averageReading level s).pending = s.pending := by
  unfold averageReading; (try dsimp only); (repeat' split) <;> simp

@[simp] theorem filterReading_frame (level : Nat) (s : State) :
    (filterReading level s).power = s.power ∧ (filterReading level s).odo = s.odo ∧
    (filterReading level s).stc = s.stc ∧ (filterReading level s).clock = s.clock ∧
    (filterReading level s).msc = s.msc ∧ (filterReading level s).rqs = s.rqs ∧
    (filterReading level s).settings = s.settings ∧ (filterReading level s).store = s.store ∧
    (filterReading level s).pending = s.pending := by
  simp [filterReading]

@[simp] theorem countSample_frame (line : SwitchLine) (l : Level) (s : State) :
    (countSample line l s).power = s.power ∧ (countSample line l s).link = s.link ∧
    (countSample line l s).signals = s.signals ∧ (countSample line l s).gdu = s.gdu ∧
    (countSample line l s).trc = s.trc ∧ (countSample line l s).odo = s.odo ∧
    (countSample line l s).stc = s.stc ∧ (countSample line l s).wnu = s.wnu ∧
    (countSample line l s).sru = s.sru ∧ (countSample line l s).clock = s.clock ∧
    (countSample line l s).msc = s.msc ∧ (countSample line l s).rqs = s.rqs ∧
    (countSample line l s).settings = s.settings ∧ (countSample line l s).store = s.store ∧
    (countSample line l s).seq = s.seq ∧ (countSample line l s).draw = s.draw ∧
    (countSample line l s).pending = s.pending := by
  simp [countSample]

@[simp] theorem ignitionActiveEdge_frame (contacts : BitVec 6) (s : State) :
    (ignitionActiveEdge contacts s).store = s.store ∧
    (ignitionActiveEdge contacts s).pending = s.pending := by
  unfold ignitionActiveEdge; (repeat' split) <;> simp

@[simp] theorem ignitionInactiveEdge_frame (contacts : BitVec 6) (s : State) :
    (ignitionInactiveEdge contacts s).store = s.store ∧
    (ignitionInactiveEdge contacts s).pending = s.pending := by
  unfold ignitionInactiveEdge; (repeat' split) <;> simp

@[simp] theorem doorEdge_frame (s : State) :
    (doorEdge s).store = s.store ∧ (doorEdge s).pending = s.pending := by
  unfold doorEdge; (try dsimp only); (repeat' split) <;> simp

@[simp] theorem readerTakes_frame (line : SwitchLine) (level : Level) (edge : Bool) (contacts : BitVec 6) (s : State) :
    (readerTakes line level edge contacts s).store = s.store ∧
    (readerTakes line level edge contacts s).pending = s.pending := by
  unfold readerTakes; (repeat' split) <;> simp

@[simp] theorem sampleLine_frame (line : SwitchLine) (contacts : BitVec 6) (s : State) (l : Level) :
    (sampleLine line contacts s l).store = s.store ∧
    (sampleLine line contacts s l).pending = s.pending := by
  unfold sampleLine; (try dsimp only); (repeat' split) <;> simp

@[simp] theorem giveEvent_frame (e : ButtonEvent) (s : State) :
    (giveEvent e s).power = s.power ∧ (giveEvent e s).link = s.link ∧
    (giveEvent e s).signals = s.signals ∧ (giveEvent e s).gdu = s.gdu ∧
    (giveEvent e s).trc = s.trc ∧ (giveEvent e s).odo = s.odo ∧ (giveEvent e s).stc = s.stc ∧
    (giveEvent e s).wnu = s.wnu ∧ (giveEvent e s).sru = s.sru ∧ (giveEvent e s).clock = s.clock ∧
    (giveEvent e s).msc = s.msc ∧ (giveEvent e s).rqs = s.rqs ∧
    (giveEvent e s).settings = s.settings ∧ (giveEvent e s).store = s.store ∧
    (giveEvent e s).seq = s.seq ∧ (giveEvent e s).draw = s.draw ∧
    (giveEvent e s).pending = s.pending := by
  unfold giveEvent; (try dsimp only); (repeat' split) <;> simp

@[simp] theorem State.setButton_frame (s : State) (b : Button) (d : Debouncer) :
    (State.setButton s b d).power = s.power ∧ (State.setButton s b d).link = s.link ∧
    (State.setButton s b d).signals = s.signals ∧ (State.setButton s b d).gdu = s.gdu ∧
    (State.setButton s b d).trc = s.trc ∧ (State.setButton s b d).odo = s.odo ∧
    (State.setButton s b d).stc = s.stc ∧ (State.setButton s b d).wnu = s.wnu ∧
    (State.setButton s b d).sru = s.sru ∧ (State.setButton s b d).clock = s.clock ∧
    (State.setButton s b d).msc = s.msc ∧ (State.setButton s b d).rqs = s.rqs ∧
    (State.setButton s b d).settings = s.settings ∧ (State.setButton s b d).store = s.store ∧
    (State.setButton s b d).seq = s.seq ∧ (State.setButton s b d).draw = s.draw ∧
    (State.setButton s b d).pending = s.pending := by
  simp [State.setButton]

@[simp] theorem giveUnlocked_frame (locked : Bool) (e : ButtonEvent) (s : State) :
    (giveUnlocked locked e s).power = s.power ∧ (giveUnlocked locked e s).link = s.link ∧
    (giveUnlocked locked e s).signals = s.signals ∧ (giveUnlocked locked e s).gdu = s.gdu ∧
    (giveUnlocked locked e s).trc = s.trc ∧ (giveUnlocked locked e s).odo = s.odo ∧
    (giveUnlocked locked e s).stc = s.stc ∧ (giveUnlocked locked e s).wnu = s.wnu ∧
    (giveUnlocked locked e s).sru = s.sru ∧ (giveUnlocked locked e s).clock = s.clock ∧
    (giveUnlocked locked e s).msc = s.msc ∧ (giveUnlocked locked e s).rqs = s.rqs ∧
    (giveUnlocked locked e s).settings = s.settings ∧ (giveUnlocked locked e s).store = s.store ∧
    (giveUnlocked locked e s).seq = s.seq ∧ (giveUnlocked locked e s).draw = s.draw ∧
    (giveUnlocked locked e s).pending = s.pending := by
  unfold giveUnlocked; split <;> simp

@[simp] theorem pressButton_frame (b : Button) (s : State) :
    (pressButton b s).power = s.power ∧ (pressButton b s).link = s.link ∧
    (pressButton b s).signals = s.signals ∧ (pressButton b s).gdu = s.gdu ∧
    (pressButton b s).trc = s.trc ∧ (pressButton b s).odo = s.odo ∧
    (pressButton b s).stc = s.stc ∧ (pressButton b s).wnu = s.wnu ∧
    (pressButton b s).sru = s.sru ∧ (pressButton b s).clock = s.clock ∧
    (pressButton b s).msc = s.msc ∧ (pressButton b s).rqs = s.rqs ∧
    (pressButton b s).settings = s.settings ∧ (pressButton b s).store = s.store ∧
    (pressButton b s).seq = s.seq ∧ (pressButton b s).draw = s.draw ∧
    (pressButton b s).pending = s.pending := by
  unfold pressButton; (try dsimp only); (repeat' split) <;> simp

@[simp] theorem releaseButton_frame (b : Button) (s : State) :
    (releaseButton b s).power = s.power ∧ (releaseButton b s).link = s.link ∧
    (releaseButton b s).signals = s.signals ∧ (releaseButton b s).gdu = s.gdu ∧
    (releaseButton b s).trc = s.trc ∧ (releaseButton b s).odo = s.odo ∧
    (releaseButton b s).stc = s.stc ∧ (releaseButton b s).wnu = s.wnu ∧
    (releaseButton b s).sru = s.sru ∧ (releaseButton b s).clock = s.clock ∧
    (releaseButton b s).msc = s.msc ∧ (releaseButton b s).rqs = s.rqs ∧
    (releaseButton b s).settings = s.settings ∧ (releaseButton b s).store = s.store ∧
    (releaseButton b s).seq = s.seq ∧ (releaseButton b s).draw = s.draw ∧
    (releaseButton b s).pending = s.pending := by
  unfold releaseButton; (try dsimp only); (repeat' split) <;> simp

@[simp] theorem sampleButton_frame (b : Button) (s : State) (c : Contact) :
    (sampleButton b s c).power = s.power ∧ (sampleButton b s c).link = s.link ∧
    (sampleButton b s c).signals = s.signals ∧ (sampleButton b s c).gdu = s.gdu ∧
    (sampleButton b s c).trc = s.trc ∧ (sampleButton b s c).odo = s.odo ∧
    (sampleButton b s c).stc = s.stc ∧ (sampleButton b s c).wnu = s.wnu ∧
    (sampleButton b s c).sru = s.sru ∧ (sampleButton b s c).clock = s.clock ∧
    (sampleButton b s c).msc = s.msc ∧ (sampleButton b s c).rqs = s.rqs ∧
    (sampleButton b s c).settings = s.settings ∧ (sampleButton b s c).store = s.store ∧
    (sampleButton b s c).seq = s.seq ∧ (sampleButton b s c).draw = s.draw ∧
    (sampleButton b s c).pending = s.pending := by
  unfold sampleButton; (try dsimp only); (repeat' split) <;> simp

@[simp] theorem modeAction_frame (s : State) :
    (modeAction s).power = s.power ∧ (modeAction s).link = s.link ∧
    (modeAction s).signals = s.signals ∧ (modeAction s).input = s.input ∧
    (modeAction s).gdu = s.gdu ∧ (modeAction s).trc = s.trc ∧ (modeAction s).odo = s.odo ∧
    (modeAction s).stc = s.stc ∧ (modeAction s).wnu = s.wnu ∧ (modeAction s).sru = s.sru ∧
    (modeAction s).clock = s.clock ∧ (modeAction s).rqs = s.rqs ∧
    (modeAction s).settings = s.settings ∧ (modeAction s).store = s.store ∧
    (modeAction s).seq = s.seq ∧ (modeAction s).draw = s.draw ∧ (modeAction s).pending = s.pending := by
  unfold modeAction; (try dsimp only); (repeat' split) <;> simp

@[simp] theorem setAction_frame (s : State) :
    (setAction s).power = s.power ∧ (setAction s).signals = s.signals ∧
    (setAction s).input = s.input ∧ (setAction s).gdu = s.gdu ∧ (setAction s).trc = s.trc ∧
    (setAction s).rqs = s.rqs ∧ (setAction s).settings = s.settings ∧
    (setAction s).store = s.store ∧ (setAction s).pending = s.pending := by
  unfold setAction; (try dsimp only); (repeat' split) <;> simp

@[simp] theorem setReleaseAction_frame (s : State) :
    (setReleaseAction s).power = s.power ∧ (setReleaseAction s).link = s.link ∧
    (setReleaseAction s).signals = s.signals ∧ (setReleaseAction s).input = s.input ∧
    (setReleaseAction s).gdu = s.gdu ∧ (setReleaseAction s).trc = s.trc ∧
    (setReleaseAction s).odo = s.odo ∧ (setReleaseAction s).stc = s.stc ∧
    (setReleaseAction s).wnu = s.wnu ∧ (setReleaseAction s).sru = s.sru ∧
    (setReleaseAction s).clock = s.clock ∧ (setReleaseAction s).rqs = s.rqs ∧
    (setReleaseAction s).settings = s.settings ∧ (setReleaseAction s).store = s.store ∧
    (setReleaseAction s).seq = s.seq ∧ (setReleaseAction s).draw = s.draw ∧
    (setReleaseAction s).pending = s.pending := by
  unfold setReleaseAction; (try dsimp only); (repeat' split) <;> simp

@[simp] theorem setHoldAction_frame (s : State) :
    (setHoldAction s).power = s.power ∧ (setHoldAction s).link = s.link ∧
    (setHoldAction s).signals = s.signals ∧ (setHoldAction s).input = s.input ∧
    (setHoldAction s).gdu = s.gdu ∧ (setHoldAction s).trc = s.trc ∧
    (setHoldAction s).odo = s.odo ∧ (setHoldAction s).stc = s.stc ∧
    (setHoldAction s).wnu = s.wnu ∧ (setHoldAction s).sru = s.sru ∧
    (setHoldAction s).clock = s.clock ∧ (setHoldAction s).rqs = s.rqs ∧
    (setHoldAction s).settings = s.settings ∧ (setHoldAction s).store = s.store ∧
    (setHoldAction s).seq = s.seq ∧ (setHoldAction s).draw = s.draw ∧
    (setHoldAction s).pending = s.pending := by
  unfold setHoldAction; (try dsimp only); (repeat' split) <;> simp

@[simp] theorem resetAction_frame (s : State) :
    (resetAction s).power = s.power ∧ (resetAction s).link = s.link ∧
    (resetAction s).signals = s.signals ∧ (resetAction s).input = s.input ∧
    (resetAction s).gdu = s.gdu ∧ (resetAction s).trc = s.trc ∧ (resetAction s).odo = s.odo ∧
    (resetAction s).stc = s.stc ∧ (resetAction s).wnu = s.wnu ∧ (resetAction s).sru = s.sru ∧
    (resetAction s).clock = s.clock ∧ (resetAction s).rqs = s.rqs ∧
    (resetAction s).settings = s.settings ∧ (resetAction s).store = s.store ∧
    (resetAction s).seq = s.seq ∧ (resetAction s).draw = s.draw ∧
    (resetAction s).pending = s.pending := by
  unfold resetAction; (try dsimp only); (repeat' split) <;> simp

@[simp] theorem resetHoldAction_frame (s : State) :
    (resetHoldAction s).power = s.power ∧ (resetHoldAction s).link = s.link ∧
    (resetHoldAction s).signals = s.signals ∧ (resetHoldAction s).input = s.input ∧
    (resetHoldAction s).gdu = s.gdu ∧ (resetHoldAction s).odo = s.odo ∧
    (resetHoldAction s).stc = s.stc ∧ (resetHoldAction s).wnu = s.wnu ∧
    (resetHoldAction s).clock = s.clock ∧ (resetHoldAction s).msc = s.msc ∧
    (resetHoldAction s).rqs = s.rqs ∧ (resetHoldAction s).settings = s.settings ∧
    (resetHoldAction s).store = s.store ∧ (resetHoldAction s).seq = s.seq ∧
    (resetHoldAction s).draw = s.draw ∧ (resetHoldAction s).pending = s.pending := by
  unfold resetHoldAction; (repeat' split) <;> simp

@[simp] theorem checkHoldAction_frame (s : State) :
    (checkHoldAction s).power = s.power ∧ (checkHoldAction s).link = s.link ∧
    (checkHoldAction s).signals = s.signals ∧ (checkHoldAction s).input = s.input ∧
    (checkHoldAction s).gdu = s.gdu ∧ (checkHoldAction s).trc = s.trc ∧
    (checkHoldAction s).odo = s.odo ∧ (checkHoldAction s).stc = s.stc ∧
    (checkHoldAction s).wnu = s.wnu ∧ (checkHoldAction s).sru = s.sru ∧
    (checkHoldAction s).clock = s.clock ∧ (checkHoldAction s).rqs = s.rqs ∧
    (checkHoldAction s).settings = s.settings ∧ (checkHoldAction s).store = s.store ∧
    (checkHoldAction s).seq = s.seq ∧ (checkHoldAction s).draw = s.draw ∧
    (checkHoldAction s).pending = s.pending := by
  unfold checkHoldAction; (repeat' split) <;> simp

@[simp] theorem setStoreFault_frame (v : Bool) (s : State) :
    (setStoreFault v s).power = s.power ∧ (setStoreFault v s).signals = s.signals ∧
    (setStoreFault v s).input = s.input ∧ (setStoreFault v s).gdu = s.gdu ∧
    (setStoreFault v s).trc = s.trc ∧ (setStoreFault v s).odo = s.odo ∧
    (setStoreFault v s).sru = s.sru ∧ (setStoreFault v s).clock = s.clock ∧
    (setStoreFault v s).msc = s.msc ∧ (setStoreFault v s).rqs = s.rqs ∧
    (setStoreFault v s).settings = s.settings ∧ (setStoreFault v s).store = s.store ∧
    (setStoreFault v s).pending = s.pending := by
  unfold setStoreFault; (try dsimp only); (repeat' split) <;> simp

@[simp] theorem answerReset_frame (verified : Bool) (s : State) :
    (answerReset verified s).power = s.power ∧ (answerReset verified s).signals = s.signals ∧
    (answerReset verified s).input = s.input ∧ (answerReset verified s).gdu = s.gdu ∧
    (answerReset verified s).trc = s.trc ∧ (answerReset verified s).odo = s.odo ∧
    (answerReset verified s).stc = s.stc ∧ (answerReset verified s).wnu = s.wnu ∧
    (answerReset verified s).sru = s.sru ∧ (answerReset verified s).clock = s.clock ∧
    (answerReset verified s).msc = s.msc ∧ (answerReset verified s).settings = s.settings ∧
    (answerReset verified s).store = s.store ∧ (answerReset verified s).draw = s.draw ∧
    (answerReset verified s).pending = s.pending := by
  unfold answerReset; (try dsimp only); (repeat' split) <;> simp

@[simp] theorem reportReset_frame (entries : List ServiceEntry) (n : Nat) (s : State) :
    (reportReset entries n s).power = s.power ∧ (reportReset entries n s).signals = s.signals ∧
    (reportReset entries n s).input = s.input ∧ (reportReset entries n s).gdu = s.gdu ∧
    (reportReset entries n s).trc = s.trc ∧ (reportReset entries n s).odo = s.odo ∧
    (reportReset entries n s).stc = s.stc ∧ (reportReset entries n s).wnu = s.wnu ∧
    (reportReset entries n s).sru = s.sru ∧ (reportReset entries n s).clock = s.clock ∧
    (reportReset entries n s).msc = s.msc ∧ (reportReset entries n s).settings = s.settings ∧
    (reportReset entries n s).store = s.store ∧ (reportReset entries n s).draw = s.draw ∧
    (reportReset entries n s).pending = s.pending := by
  unfold reportReset; (repeat' split) <;> simp

@[simp] theorem reportJob_frame (j : Job) (n : Nat) (done : Bool) (s : State) :
    (reportJob j n done s).power = s.power ∧ (reportJob j n done s).signals = s.signals ∧
    (reportJob j n done s).input = s.input ∧ (reportJob j n done s).gdu = s.gdu ∧
    (reportJob j n done s).trc = s.trc ∧ (reportJob j n done s).wnu = s.wnu ∧
    (reportJob j n done s).clock = s.clock ∧ (reportJob j n done s).msc = s.msc ∧
    (reportJob j n done s).settings = s.settings ∧ (reportJob j n done s).store = s.store ∧
    (reportJob j n done s).draw = s.draw ∧ (reportJob j n done s).pending = s.pending := by
  unfold reportJob; (try dsimp only); (repeat' split) <;> simp

@[simp] theorem endJob_frame (j : Job) (n : Nat) (done : Bool) (s : State) :
    (endJob j n done s).pending = s.pending := by
  simp [endJob]

@[simp] theorem unitVerified_frame (a : ActiveJob) (s : State) :
    (unitVerified a s).pending = s.pending := by
  unfold unitVerified; (try dsimp only); (repeat' split) <;> simp

@[simp] theorem unitMismatched_frame (a : ActiveJob) (s : State) :
    (unitMismatched a s).pending = s.pending := by
  unfold unitMismatched; (try dsimp only); (repeat' split) <;> simp

@[simp] theorem reannounce_frame (w : Warning) (s : State) :
    (reannounce w s).power = s.power ∧ (reannounce w s).link = s.link ∧
    (reannounce w s).signals = s.signals ∧ (reannounce w s).input = s.input ∧
    (reannounce w s).gdu = s.gdu ∧ (reannounce w s).trc = s.trc ∧ (reannounce w s).odo = s.odo ∧
    (reannounce w s).stc = s.stc ∧ (reannounce w s).sru = s.sru ∧
    (reannounce w s).clock = s.clock ∧ (reannounce w s).msc = s.msc ∧
    (reannounce w s).rqs = s.rqs ∧ (reannounce w s).settings = s.settings ∧
    (reannounce w s).store = s.store ∧ (reannounce w s).draw = s.draw ∧
    (reannounce w s).pending = s.pending := by
  simp [reannounce]

@[simp] theorem refuse_frame (c : Byte) (f : Frame) (s : State) :
    (refuse c f s).power = s.power ∧ (refuse c f s).signals = s.signals ∧
    (refuse c f s).input = s.input ∧ (refuse c f s).gdu = s.gdu ∧ (refuse c f s).trc = s.trc ∧
    (refuse c f s).odo = s.odo ∧ (refuse c f s).stc = s.stc ∧ (refuse c f s).wnu = s.wnu ∧
    (refuse c f s).sru = s.sru ∧ (refuse c f s).clock = s.clock ∧ (refuse c f s).msc = s.msc ∧
    (refuse c f s).settings = s.settings ∧ (refuse c f s).store = s.store ∧
    (refuse c f s).draw = s.draw ∧ (refuse c f s).pending = s.pending := by
  simp [refuse]

@[simp] theorem answer_frame (data : List Byte) (f : Frame) (s : State) :
    (answer data f s).power = s.power ∧ (answer data f s).signals = s.signals ∧
    (answer data f s).input = s.input ∧ (answer data f s).gdu = s.gdu ∧
    (answer data f s).trc = s.trc ∧ (answer data f s).odo = s.odo ∧
    (answer data f s).stc = s.stc ∧ (answer data f s).wnu = s.wnu ∧
    (answer data f s).sru = s.sru ∧ (answer data f s).clock = s.clock ∧
    (answer data f s).msc = s.msc ∧ (answer data f s).rqs = s.rqs ∧
    (answer data f s).settings = s.settings ∧ (answer data f s).store = s.store ∧
    (answer data f s).draw = s.draw ∧ (answer data f s).pending = s.pending := by
  simp [answer]

@[simp] theorem clearSenseRecord_frame (s : State) :
    (clearSenseRecord s).power = s.power ∧ (clearSenseRecord s).signals = s.signals ∧
    (clearSenseRecord s).input = s.input ∧ (clearSenseRecord s).gdu = s.gdu ∧
    (clearSenseRecord s).trc = s.trc ∧ (clearSenseRecord s).odo = s.odo ∧
    (clearSenseRecord s).stc = s.stc ∧ (clearSenseRecord s).wnu = s.wnu ∧
    (clearSenseRecord s).sru = s.sru ∧ (clearSenseRecord s).clock = s.clock ∧
    (clearSenseRecord s).msc = s.msc ∧ (clearSenseRecord s).settings = s.settings ∧
    (clearSenseRecord s).store = s.store ∧ (clearSenseRecord s).seq = s.seq ∧
    (clearSenseRecord s).draw = s.draw ∧ (clearSenseRecord s).pending = s.pending := by
  simp [clearSenseRecord]

@[simp] theorem clearLogRecord_frame (s : State) :
    (clearLogRecord s).power = s.power ∧ (clearLogRecord s).link = s.link ∧
    (clearLogRecord s).signals = s.signals ∧ (clearLogRecord s).input = s.input ∧
    (clearLogRecord s).gdu = s.gdu ∧ (clearLogRecord s).trc = s.trc ∧
    (clearLogRecord s).odo = s.odo ∧ (clearLogRecord s).stc = s.stc ∧
    (clearLogRecord s).sru = s.sru ∧ (clearLogRecord s).clock = s.clock ∧
    (clearLogRecord s).msc = s.msc ∧ (clearLogRecord s).rqs = s.rqs ∧
    (clearLogRecord s).settings = s.settings ∧ (clearLogRecord s).store = s.store ∧
    (clearLogRecord s).seq = s.seq ∧ (clearLogRecord s).draw = s.draw ∧
    (clearLogRecord s).pending = s.pending := by
  simp [clearLogRecord]

@[simp] theorem beginReset_frame (i : ServiceItem) (s : State) :
    (beginReset i s).power = s.power ∧ (beginReset i s).link = s.link ∧
    (beginReset i s).signals = s.signals ∧ (beginReset i s).input = s.input ∧
    (beginReset i s).gdu = s.gdu ∧ (beginReset i s).trc = s.trc ∧ (beginReset i s).wnu = s.wnu ∧
    (beginReset i s).clock = s.clock ∧ (beginReset i s).msc = s.msc ∧
    (beginReset i s).rqs = s.rqs ∧ (beginReset i s).settings = s.settings ∧
    (beginReset i s).store = s.store ∧ (beginReset i s).seq = s.seq ∧
    (beginReset i s).draw = s.draw ∧ (beginReset i s).pending = s.pending := by
  unfold beginReset; (try dsimp only); (repeat' split) <;> simp

@[simp] theorem writeStaging_frame (offset : Nat) (bytes : List Byte) (s : State) :
    (writeStaging offset bytes s).power = s.power ∧ (writeStaging offset bytes s).link = s.link ∧
    (writeStaging offset bytes s).signals = s.signals ∧
    (writeStaging offset bytes s).input = s.input ∧ (writeStaging offset bytes s).gdu = s.gdu ∧
    (writeStaging offset bytes s).trc = s.trc ∧ (writeStaging offset bytes s).wnu = s.wnu ∧
    (writeStaging offset bytes s).sru = s.sru ∧ (writeStaging offset bytes s).clock = s.clock ∧
    (writeStaging offset bytes s).msc = s.msc ∧
    (writeStaging offset bytes s).settings = s.settings ∧
    (writeStaging offset bytes s).store = s.store ∧ (writeStaging offset bytes s).seq = s.seq ∧
    (writeStaging offset bytes s).draw = s.draw ∧
    (writeStaging offset bytes s).pending = s.pending := by
  unfold writeStaging; (try dsimp only); (repeat' split) <;> simp

@[simp] theorem testChime_frame (p : Pattern) (s : State) :
    (testChime p s).power = s.power ∧ (testChime p s).link = s.link ∧
    (testChime p s).signals = s.signals ∧ (testChime p s).input = s.input ∧
    (testChime p s).gdu = s.gdu ∧ (testChime p s).trc = s.trc ∧ (testChime p s).odo = s.odo ∧
    (testChime p s).stc = s.stc ∧ (testChime p s).sru = s.sru ∧ (testChime p s).clock = s.clock ∧
    (testChime p s).msc = s.msc ∧ (testChime p s).rqs = s.rqs ∧
    (testChime p s).settings = s.settings ∧ (testChime p s).store = s.store ∧
    (testChime p s).draw = s.draw ∧ (testChime p s).pending = s.pending := by
  simp [testChime]

end Sys2Proof.Machine
end

