-- ==== Sys2Proof/Laws/Memory.lean ====
section
/-! SUPPORT. The serial memory: a read after a write, the bytes a write leaves alone, and the canonical
form, which every memory operation keeps. -/

namespace Sys2Proof.Machine

open Sys2Proof

/-- The canonical form of a memory with a first entry. -/
theorem Memory.wf_cons {k : Nat} {b : Byte} {rest : Memory} :
    Memory.wf ((k, b) :: rest) = true ↔
      b ≠ blankByte ∧ (∀ c ∈ rest, k < c.1) ∧ Memory.wf rest = true := by
  simp [Memory.wf, and_assoc]

/-- In a canonical memory an address below every entry reads as blank. -/
theorem Memory.read_below {m : Memory} {a : Nat} (h : ∀ c ∈ m, a < c.1) : m.read a = blankByte := by
  induction m with
  | nil => rfl
  | cons c rest ih =>
    have hc := h c (by simp)
    rw [Memory.read, if_neg (by omega)]
    exact ih (fun d hd => h d (by simp [hd]))

/-- Every entry of an erased memory is an entry of the memory. -/
theorem Memory.mem_erase {m : Memory} {a : Nat} {c : Host.Cell} (h : c ∈ m.erase a) : c ∈ m := by
  induction m with
  | nil => exact h
  | cons d rest ih =>
    rw [Memory.erase] at h
    split at h
    · exact List.mem_cons_of_mem _ h
    · rcases List.mem_cons.mp h with rfl | h
      · simp
      · exact List.mem_cons_of_mem _ (ih h)

/-- Every entry after an insertion is the new one or an entry of the memory. -/
theorem Memory.mem_insert {m : Memory} {a : Nat} {b : Byte} {c : Host.Cell} (h : c ∈ m.insert a b) :
    c = (a, b) ∨ c ∈ m := by
  induction m with
  | nil => simpa [Memory.insert] using h
  | cons d rest ih =>
    rw [Memory.insert] at h
    split at h
    · simpa using h
    · split at h
      · rcases List.mem_cons.mp h with h | h
        · exact .inl h
        · exact .inr (List.mem_cons_of_mem _ h)
      · rcases List.mem_cons.mp h with rfl | h
        · simp
        · rcases ih h with h | h
          · exact .inl h
          · exact .inr (List.mem_cons_of_mem _ h)

/-- Erasing keeps the canonical form. -/
theorem Memory.erase_wf {m : Memory} (a : Nat) (h : m.wf = true) : (m.erase a).wf = true := by
  induction m with
  | nil => exact h
  | cons c rest ih =>
    obtain ⟨k, b⟩ := c
    obtain ⟨hb, hk, hr⟩ := Memory.wf_cons.mp h
    rw [Memory.erase]
    split
    · exact hr
    · exact Memory.wf_cons.mpr ⟨hb, fun c hc => hk c (Memory.mem_erase hc), ih hr⟩

/-- Inserting a byte that is not blank keeps the canonical form. -/
theorem Memory.insert_wf {m : Memory} (a : Nat) {b : Byte} (hb : b ≠ blankByte) (h : m.wf = true) :
    (m.insert a b).wf = true := by
  induction m with
  | nil => simp [Memory.insert, Memory.wf, hb]
  | cons c rest ih =>
    obtain ⟨k, d⟩ := c
    obtain ⟨hd, hk, hr⟩ := Memory.wf_cons.mp h
    rw [Memory.insert]
    split
    · refine Memory.wf_cons.mpr ⟨hb, fun c hc => ?_, h⟩
      rcases List.mem_cons.mp hc with rfl | hc
      · assumption
      · have := hk c hc; omega
    · split
      · rename_i hak
        exact Memory.wf_cons.mpr ⟨hb, fun c hc => hak ▸ hk c hc, hr⟩
      · refine Memory.wf_cons.mpr ⟨hd, fun c hc => ?_, ih hr⟩
        rcases Memory.mem_insert hc with rfl | hc
        · simp only; omega
        · exact hk c hc

/-- A write keeps the canonical form. -/
theorem Memory.write_wf {m : Memory} (a : Nat) (b : Byte) (h : m.wf = true) : (m.write a b).wf = true := by
  rw [Memory.write]
  split
  · exact Memory.erase_wf a h
  · exact Memory.insert_wf a (by assumption) h

/-- Writing bytes keeps the canonical form. -/
theorem Memory.writeBytes_wf {m : Memory} (a : Nat) (bs : List Byte) (h : m.wf = true) :
    (m.writeBytes a bs).wf = true := by
  induction bs generalizing m a with
  | nil => exact h
  | cons b bs ih => exact ih (a + 1) (Memory.write_wf a b h)

/-- A torn unit keeps the canonical form. -/
theorem tearBytes_wf {m : Memory} (draw a : Nat) (bs : List Byte) (h : m.wf = true) :
    (tearBytes draw m a bs).wf = true := by
  induction bs generalizing m a with
  | nil => exact h
  | cons b bs ih => exact ih (a + 1) (Memory.write_wf a _ h)

/-- Reading elsewhere after an erasure. -/
theorem Memory.read_erase_other {m : Memory} {a c : Nat} (h : c ≠ a) : (m.erase a).read c = m.read c := by
  induction m with
  | nil => rfl
  | cons d rest ih =>
    obtain ⟨k, b⟩ := d
    simp only [Memory.erase, Memory.read]
    split
    · rename_i hk
      rw [if_neg (by omega)]
    · simp only [Memory.read, ih]

/-- Reading elsewhere after an insertion. -/
theorem Memory.read_insert_other {m : Memory} {a c : Nat} {b : Byte} (h : c ≠ a) :
    (m.insert a b).read c = m.read c := by
  induction m with
  | nil => simp [Memory.insert, Memory.read, h.symm]
  | cons d rest ih =>
    obtain ⟨k, e⟩ := d
    simp only [Memory.insert]
    split
    · simp [Memory.read, h.symm]
    · split
      · rename_i hk
        subst hk
        simp [Memory.read, h.symm]
      · simp [Memory.read, ih]

/-- A write leaves every other byte alone. -/
@[simp] theorem Memory.read_write_other {m : Memory} {a c : Nat} {b : Byte} (h : c ≠ a) :
    (m.write a b).read c = m.read c := by
  rw [Memory.write]
  split
  · exact Memory.read_erase_other h
  · exact Memory.read_insert_other h

/-- A read after a write to the same address, in a canonical memory. -/
@[simp] theorem Memory.read_write_same {m : Memory} {a : Nat} {b : Byte} (h : m.wf = true) :
    (m.write a b).read a = b := by
  rw [Memory.write]
  split
  · rename_i hb
    subst hb
    induction m with
    | nil => rfl
    | cons d rest ih =>
      obtain ⟨k, e⟩ := d
      obtain ⟨-, hk, hr⟩ := Memory.wf_cons.mp h
      simp only [Memory.erase]
      split
      · rename_i hka
        exact Memory.read_below (fun c hc => hka ▸ hk c hc)
      · rename_i hka
        rw [Memory.read, if_neg hka, ih hr]
  · clear h
    induction m with
    | nil => simp [Memory.insert, Memory.read]
    | cons d rest ih =>
      obtain ⟨k, e⟩ := d
      simp only [Memory.insert]
      split
      · simp [Memory.read]
      · split
        · simp [Memory.read]
        · rename_i hka
          rw [Memory.read, if_neg (Ne.symm hka), ih]

/-- Writing bytes leaves every byte outside them alone. -/
theorem Memory.read_writeBytes_other {m : Memory} {a c : Nat} {bs : List Byte}
    (h : c < a ∨ a + bs.length ≤ c) : (m.writeBytes a bs).read c = m.read c := by
  induction bs generalizing m a with
  | nil => rfl
  | cons b bs ih =>
    rw [List.length_cons] at h
    rw [Memory.writeBytes, ih (by omega), Memory.read_write_other (by omega)]

/-- Written bytes read back, in a canonical memory. -/
theorem Memory.read_writeBytes_same {m : Memory} {a i : Nat} {bs : List Byte} (hm : m.wf = true)
    (h : i < bs.length) : (m.writeBytes a bs).read (a + i) = bs[i] := by
  induction bs generalizing m a i with
  | nil => simp at h
  | cons b bs ih =>
    rw [Memory.writeBytes]
    cases i with
    | zero =>
      rw [Memory.read_writeBytes_other (by omega)]
      exact Memory.read_write_same hm
    | succ i =>
      have := ih (a := a + 1) (i := i) (Memory.write_wf a b hm) (by simpa using h)
      rw [show a + (i + 1) = a + 1 + i by omega, this]
      rfl

/-- A torn unit leaves every byte outside it alone. -/
theorem read_tearBytes_other {draw : Nat} {m : Memory} {a c : Nat} {bs : List Byte}
    (h : c < a ∨ a + bs.length ≤ c) : (tearBytes draw m a bs).read c = m.read c := by
  induction bs generalizing m a with
  | nil => rfl
  | cons b bs ih =>
    rw [List.length_cons] at h
    rw [tearBytes, ih (by omega), Memory.read_write_other (by omega)]

/-- Bytes just written are read back as a list. -/
theorem Memory.readBytes_writeBytes {m : Memory} {a : Nat} {bs : List Byte} (hm : m.wf = true) :
    (m.writeBytes a bs).readBytes a bs.length = bs := by
  apply List.ext_getElem
  · simp [Memory.readBytes]
  · intro i h1 h2
    simp [Memory.readBytes, Memory.read_writeBytes_same hm h2]

/-- The memory at reset is in canonical form. -/
theorem State.reset_store_wf : Memory.wf State.reset.store = true := rfl

end Sys2Proof.Machine
end

