-- ==== Sys2Proof/Laws/Ops.lean ====
section
/-! SUPPORT. What the shared operations do, one lemma for each: the records they replace, the queues they
join, and the dispatcher. With the frames of the Frames files they say everything the operations can do. -/

namespace Sys2Proof.Machine

open Sys2Proof

/-! ## Frames -/

/-- Nothing is touched by doing nothing. -/
theorem Touches.refl (bs : List Block) (s : State) : Touches bs s s := by
  intro b _
  cases b <;> rfl

/-- One step after another touches what either touches. -/
theorem Touches.trans {bs : List Block} {s t u : State} (h : Touches bs s t) (k : Touches bs t u) :
    Touches bs s u := by
  intro b hb
  have h1 := h b hb
  have h2 := k b hb
  cases b <;> exact h2.trans h1

/-- More parts may be named than are touched. -/
theorem Touches.mono {bs cs : List Block} {s t : State} (h : Touches bs s t) (hs : ∀ b ∈ bs, b ∈ cs) :
    Touches cs s t :=
  fun b hb => h b (fun hm => hb (hs b hm))

/-! ## Records replaced in place -/

/-- A signal record just replaced. -/
@[simp] theorem State.signal_setSignal_same (s : State) (g : Signal) (r : SignalRecord) :
    (s.setSignal g r).signal g = r := by
  simp [State.signal, State.setSignal]

/-- Another signal's record. -/
theorem State.signal_setSignal_other (s : State) {g h : Signal} (r : SignalRecord) (hne : h ≠ g) :
    (s.setSignal g r).signal h = s.signal h := by
  have : g.ix.val ≠ h.ix.val := by
    intro e
    apply hne
    cases g <;> cases h <;> first | rfl | (exact absurd e (by decide))
  simp [State.signal, State.setSignal, this]

/-- A gauge record just replaced. -/
@[simp] theorem State.gauge_setGauge_same (s : State) (g : GaugeId) (r : Gauge) :
    (s.setGauge g r).gauge g = r := by
  simp [State.gauge, State.setGauge]

/-- Another gauge's record. -/
theorem State.gauge_setGauge_other (s : State) {g h : GaugeId} (r : Gauge) (hne : h ≠ g) :
    (s.setGauge g r).gauge h = s.gauge h := by
  have : g.ix.val ≠ h.ix.val := by
    intro e
    apply hne
    cases g <;> cases h <;> first | rfl | (exact absurd e (by decide))
  simp [State.gauge, State.setGauge, this]

/-- A warning's record just replaced. -/
@[simp] theorem WarningUnit.record_setRecord_same (w : WarningUnit) (n : Warning) (r : WarningRecord) :
    (w.setRecord n r).record n = r := by
  simp [WarningUnit.record, WarningUnit.setRecord]

/-- Another warning's record. -/
theorem WarningUnit.record_setRecord_other (w : WarningUnit) {n m : Warning} (r : WarningRecord)
    (hne : m ≠ n) : (w.setRecord n r).record m = w.record m := by
  have : n.ix.val ≠ m.ix.val := by
    intro e
    apply hne
    cases n <;> cases m <;> first | rfl | (exact absurd e (by decide))
  simp [WarningUnit.record, WarningUnit.setRecord, this]

/-- A service item just replaced. -/
@[simp] theorem State.item_setItem_same (s : State) (i : ServiceItem) (v : ServiceState) :
    (s.setItem i v).item i = v := by
  simp [State.item, State.setItem]

/-- Another service item. -/
theorem State.item_setItem_other (s : State) {i j : ServiceItem} (v : ServiceState) (hne : j ≠ i) :
    (s.setItem i v).item j = s.item j := by
  have : i.ix.val ≠ j.ix.val := by
    intro e
    apply hne
    cases i <;> cases j <;> first | rfl | (exact absurd e (by decide))
  simp [State.item, State.setItem, this]

/-- A debouncer just replaced. -/
@[simp] theorem State.button_setButton_same (s : State) (b : Button) (d : Debouncer) :
    (s.setButton b d).button b = d := by
  simp [State.button, State.setButton]

/-- Another button's debouncer. -/
theorem State.button_setButton_other (s : State) {b c : Button} (d : Debouncer) (hne : c ≠ b) :
    (s.setButton b d).button c = s.button c := by
  have : b.ix.val ≠ c.ix.val := by
    intro e
    apply hne
    cases b <;> cases c <;> first | rfl | (exact absurd e (by decide))
  simp [State.button, State.setButton, this]

/-! ## The display (R166) -/

/-- Composing the display anew changes the composed and the sent record alone. -/
theorem refresh_msc (s : State) :
    (refresh s).msc = s.msc ∨ (refresh s).msc = { s.msc with composed := compose s } ∨
      (refresh s).msc =
        { s.msc with composed := compose s, lastSent := some (compose s), sending := true } := by
  unfold refresh
  dsimp only
  split
  · split
    · exact .inr (.inl rfl)
    · exact .inr (.inr rfl)
  · exact .inl rfl

/-- What the display shows is not changed by composing it. -/
@[simp] theorem compose_refresh (s : State) : compose (refresh s) = compose s := by
  unfold refresh
  dsimp only
  split
  · split <;> rfl
  · rfl

/-- A display composed anew in STARTING, RUN or COURTESY (R166). -/
theorem refresh_redrawn {s : State} (h : s.powered = true) : Redrawn s.msc (refresh s) := by
  unfold Redrawn
  rw [compose_refresh]
  unfold refresh
  rw [if_pos h]
  dsimp only
  by_cases hs : s.msc.sending = true
  · simp [hs]
  · by_cases hl : s.msc.lastSent = some (compose s)
    · simp [hs, hl]
    · simp [hs, hl]

/-- A taking with its overrun notice (R62, R172). -/
theorem overrunNotice_eq (s : State) : overrunNotice s = s.noticed := by
  unfold overrunNotice State.noticed
  split <;> rename_i h <;> simp only [h, giveNotice, reduceCtorEq, if_false, if_true]
  · rw [← h]
    rfl
  · rfl
  · rfl

/-! ## The dispatcher (R19) -/

/-- The dispatcher leaves the state alone, or takes the oldest frame of the ring, of the id it was asked
for, and hands it on. -/
theorem dispatch_cases (id : Byte) (k : Frame → State → State) (s : State) :
    dispatch id k s = s ∨
      ∃ f rest, s.link.ring = f :: rest ∧ s.link.listening = true ∧ f.id = id ∧
        dispatch id k s = k f (s.setLink { s.link with ring := rest }) := by
  unfold dispatch
  split
  · rename_i f rest hr
    split
    · rename_i h
      exact .inr ⟨f, rest, hr, h.1, h.2, rfl⟩
    · exact .inl rfl
  · exact .inl rfl

/-! ## The transmit queue (R14 to R17) -/

/-- A new entry makes the queue one longer. -/
@[simp] theorem txInsert_length (e : TxEntry) (q : List TxEntry) :
    (txInsert e q).length = q.length + 1 := by
  induction q with
  | nil => rfl
  | cons x xs ih =>
    rw [txInsert]
    split <;> simp [ih]

/-- The entries after a new one are the new one and the old ones. -/
theorem mem_txInsert {e x : TxEntry} {q : List TxEntry} : x ∈ txInsert e q ↔ x = e ∨ x ∈ q := by
  induction q with
  | nil => simp [txInsert]
  | cons y ys ih =>
    rw [txInsert]
    split
    · simp only [List.mem_cons, ih]
      tauto
    · simp only [List.mem_cons]

/-- Replacing contents keeps the number of entries. -/
@[simp] theorem txReplace_length (f : Frame) (q : List TxEntry) : (txReplace f q).length = q.length := by
  simp [txReplace]

/-- The entries after an offer: one that stood, the fresh one, or one that stood with the same key, which has the frame
as its own or as its held contents (R14, R15, R17). -/
theorem mem_txOffer {f : Frame} {m : Nat} {q : List TxEntry} {e : TxEntry} (h : e ∈ (txOffer f m q).1) :
    e ∈ q ∨ e = freshEntry f m ∨
      ∃ x ∈ q, x.frame.sameKey f = true ∧ (e = { x with frame := f } ∨ e = { x with held := some f }) := by
  unfold txOffer at h
  split at h
  · obtain ⟨x, hx, rfl⟩ := List.mem_map.mp h
    split
    · rename_i hk
      split
      · exact .inr (.inr ⟨x, hx, hk, .inr rfl⟩)
      · exact .inr (.inr ⟨x, hx, hk, .inl rfl⟩)
    · exact .inl hx
  · split at h
    · rcases mem_txInsert.mp h with rfl | h
      · exact .inr (.inl rfl)
      · exact .inl h
    · split at h
      · exact .inl h
      · split at h
        · rcases mem_txInsert.mp h with rfl | h
          · exact .inr (.inl rfl)
          · exact .inl (List.mem_of_mem_eraseP h)
        · exact .inl h

/-- A new address leaves the key of a frame as it was. -/
@[simp] theorem Frame.sentFrom_sameKey (a b : Nat) (f g : Frame) :
    (f.sentFrom a).sameKey (g.sentFrom b) = f.sameKey g := rfl

/-- A new address leaves the class of an entry's frame as it was. -/
@[simp] theorem TxEntry.sentFrom_cls (a : Nat) (e : TxEntry) : (e.sentFrom a).frame.cls = e.frame.cls := rfl

/-- An entry is under attempt with its new address as it was. -/
@[simp] theorem TxEntry.sentFrom_underAttempt (a : Nat) (e : TxEntry) :
    (e.sentFrom a).underAttempt = e.underAttempt := rfl

/-- A frame is from its new address. -/
@[simp] theorem TxEntry.sentFrom_source (a : Nat) (e : TxEntry) : (e.sentFrom a).frame.source = a := rfl

/-- Held contents are from the new address. -/
theorem TxEntry.sentFrom_held (a : Nat) (e : TxEntry) : ∀ h ∈ (e.sentFrom a).held, h.source = a := by
  intro h hh
  obtain ⟨g, -, rfl⟩ := Option.map_eq_some_iff.mp (Option.mem_def.mp hh)
  rfl

/-- Step 3 puts the address read on the frames that wait, and changes nothing else of the queue (R25, R40). -/
@[simp] theorem takeConfiguration_txQueue (bytes : List Byte) (c : Settings) (r : ConfigResult) (s : State) :
    (takeConfiguration bytes c r s).link.txQueue = s.link.txQueue.map (·.sentFrom c.address) := rfl

/-- What `offer` does to the link: the queue takes the frame, TX_DISPLACED may count, and an IDLE
transmitter allowed to send starts to count idle (R8, R14). -/
theorem offer_link (f : Frame) (s : State) :
    (offer f s).link =
      { s.link with
        txQueue := (txOffer f s.moment s.link.txQueue).1
        counters :=
          if (txOffer f s.moment s.link.txQueue).2 then
            { s.link.counters with txDisplaced := satInc 255 s.link.counters.txDisplaced }
          else s.link.counters
        tx :=
          if s.link.tx = .idle ∧ s.sendingAllowed ∧ (txOffer f s.moment s.link.txQueue).1 ≠ [] then
            .waitingIdle
          else s.link.tx } := rfl

/-- A recorded code becomes the last error code and changes nothing else of the Request Server (R22). -/
@[simp] theorem recordCode_rqs (c : Byte) (s : State) :
    (recordCode c s).rqs = { s.rqs with lastError := c } := rfl

/-! ## The active list and the chime queue (R131, R135) -/

/-- Where a warning joins the list: behind the last warning of its own or a smaller class number (R131). -/
theorem listInsert_split (cls : Warning → Nat) (n : Warning) (l : List Warning) :
    ∃ p q, l = p ++ q ∧ listInsert cls n l = p ++ n :: q ∧ (∀ m ∈ q, cls n < cls m) ∧
      ∀ m, p.getLast? = some m → cls m ≤ cls n := by
  induction l with
  | nil => exact ⟨[], [], rfl, rfl, by simp, by simp⟩
  | cons x xs ih =>
    rw [listInsert]
    split
    · rename_i hany
      obtain ⟨p, q, hl, hi, hq, hp⟩ := ih
      refine ⟨x :: p, q, by rw [hl]; rfl, by rw [hi]; rfl, hq, fun m hm => ?_⟩
      cases p with
      | nil =>
        obtain rfl : x = m := by simpa using hm
        obtain ⟨y, hy, hle⟩ := List.any_eq_true.mp hany
        have hle := of_decide_eq_true hle
        rcases List.mem_cons.mp hy with rfl | hy
        · exact hle
        · have := hq y (by simpa [hl] using hy)
          omega
      | cons y ys => exact hp m (by simpa using hm)
    · rename_i hany
      refine ⟨[], x :: xs, rfl, rfl, fun m hm => ?_, by simp⟩
      by_contra hle
      exact hany (List.any_eq_true.mpr ⟨m, hm, decide_eq_true (Nat.le_of_not_lt hle)⟩)

/-- A warning joins the list and nothing leaves it. -/
theorem mem_listInsert {cls : Warning → Nat} {n m : Warning} {l : List Warning} :
    m ∈ listInsert cls n l ↔ m = n ∨ m ∈ l := by
  obtain ⟨p, q, rfl, hi, -⟩ := listInsert_split cls n l
  rw [hi]
  simp only [List.mem_append, List.mem_cons]
  tauto

/-- Joining an ordered list: every warning before the one that joins is of its own or a smaller class number, and the
list stays ordered by class (R131). -/
theorem listInsert_sorted {cls : Warning → Nat} {n : Warning} {l : List Warning}
    (h : l.Pairwise (fun a b => cls a ≤ cls b)) :
    (listInsert cls n l).Pairwise (fun a b => cls a ≤ cls b) := by
  obtain ⟨p, q, rfl, hi, hq, hp⟩ := listInsert_split cls n l
  obtain ⟨hpp, hqq, hpq⟩ := List.pairwise_append.mp h
  have hpn : ∀ a ∈ p, cls a ≤ cls n := by
    rcases List.eq_nil_or_concat p with rfl | ⟨p', b, rfl⟩
    · simp
    · intro a ha
      have hb := hp b (by simp)
      rcases List.mem_append.mp (List.concat_eq_append ▸ ha) with ha | ha
      · have := (List.pairwise_append.mp (List.concat_eq_append ▸ hpp)).2.2 a ha b (by simp)
        omega
      · obtain rfl : a = b := by simpa using ha
        exact hb
  rw [hi]
  refine List.pairwise_append.mpr ⟨hpp, List.pairwise_cons.mpr ⟨fun m hm => (hq m hm).le, hqq⟩, ?_⟩
  intro a ha b hb
  rcases List.mem_cons.mp hb with rfl | hb
  · exact hpn a ha
  · exact hpq a ha b hb

/-- Where a request joins a queue in order: behind those that come before it (R135). -/
theorem chimeInsert_split {r : ChimeRequest} {q : List ChimeRequest} (h : q.Pairwise ChimeBefore) :
    ∃ p x, q = p ++ x ∧ (∀ y ∈ p, ChimeBefore y r) ∧ (∀ y ∈ x, ¬ChimeBefore y r) ∧
      chimeInsert r q = p ++ r :: x := by
  induction q with
  | nil => exact ⟨[], [], rfl, by simp, by simp, rfl⟩
  | cons y ys ih =>
    obtain ⟨hy, hys⟩ := List.pairwise_cons.mp h
    rw [chimeInsert]
    split
    · rename_i hle
      obtain ⟨p, x, rfl, hp, hx, hi⟩ := ih hys
      refine ⟨y :: p, x, rfl, fun z hz => ?_, hx, by rw [hi]; rfl⟩
      rcases List.mem_cons.mp hz with rfl | hz
      · exact hle
      · exact hp z hz
    · rename_i hlt
      refine ⟨[], y :: ys, rfl, by simp, fun z hz => ?_, rfl⟩
      rcases List.mem_cons.mp hz with rfl | hz
      · exact hlt
      · have := hy z hz
        unfold ChimeBefore at *; omega

/-- The requests after a new one are the new one and the old ones. -/
theorem mem_chimeInsert {r x : ChimeRequest} {q : List ChimeRequest} :
    x ∈ chimeInsert r q ↔ x = r ∨ x ∈ q := by
  induction q with
  | nil => simp [chimeInsert]
  | cons y ys ih =>
    rw [chimeInsert]
    split
    · simp only [List.mem_cons, ih]
      tauto
    · simp only [List.mem_cons]

/-- A new request makes the queue one longer. -/
@[simp] theorem chimeInsert_length (r : ChimeRequest) (q : List ChimeRequest) :
    (chimeInsert r q).length = q.length + 1 := by
  induction q with
  | nil => rfl
  | cons x xs ih =>
    rw [chimeInsert]
    split <;> simp [ih]

/-- Joining keeps the chime queue in its order (R135). -/
theorem chimeInsert_sorted {r : ChimeRequest} {q : List ChimeRequest} (h : q.Pairwise ChimeBefore) :
    (chimeInsert r q).Pairwise ChimeBefore := by
  induction q with
  | nil => simp [chimeInsert]
  | cons y ys ih =>
    obtain ⟨hy, hys⟩ := List.pairwise_cons.mp h
    rw [chimeInsert]
    split
    · rename_i hle
      refine List.pairwise_cons.mpr ⟨fun b hb => ?_, ih hys⟩
      rcases mem_chimeInsert.mp hb with rfl | hb
      · exact hle
      · exact hy b hb
    · rename_i hlt
      refine List.pairwise_cons.mpr ⟨fun b hb => ?_, h⟩
      rcases List.mem_cons.mp hb with rfl | hb
      · unfold ChimeBefore; omega
      · have := hy b hb
        unfold ChimeBefore at *; omega

/-! ## Button events (R62) -/

/-- A given event joins the queue, or sets OVERRUN when the queue holds seven (R62). -/
theorem giveEvent_input (e : ButtonEvent) (s : State) :
    (giveEvent e s).input =
      if s.input.events.length < 7 then { s.input with events := s.input.events ++ [e] }
      else { s.input with overrun := s.input.overrun.raise } := by
  unfold giveEvent
  split <;> rfl

/-! ## The store port (R111, R112) -/

/-- With the port free the next waiting job begins, or nothing happens (R111). -/
theorem stcBegin_cases (s : State) :
    stcBegin s = s ∨
      (∃ j, s.stc.waitOdometer = some j ∧ s.stc.active = none ∧ (stcBegin s).odo.commit = .writing ∧
        (stcBegin s).stc.active =
          some { job := .odometer j.value j.mark s.stc.writePos, unit := 0, repeated := false }) ∨
      (∃ e es, s.stc.waitOdometer = none ∧ s.stc.waitService = e :: es ∧ s.stc.active = none ∧
        (stcBegin s).odo = s.odo ∧
        (stcBegin s).stc.active =
          some { job := .service (e :: es), unit := 0, repeated := false }) ∨
      (s.stc.waitOdometer = none ∧ s.stc.waitConfiguration = true ∧ s.stc.active = none ∧
        (stcBegin s).odo = s.odo ∧
        (stcBegin s).stc.active =
          some { job := .configuration s.rqs.staging, unit := 0, repeated := false }) := by
  unfold stcBegin
  dsimp only
  split
  · rename_i h
    have ha : s.stc.active = none := by
      rw [Bool.and_eq_true] at h
      simpa using h.2
    split
    · rename_i j hj
      exact .inr (.inl ⟨j, hj, ha, rfl, rfl⟩)
    · rename_i hj
      split
      · rename_i e es hs
        exact .inr (.inr (.inl ⟨e, es, hj, hs, ha, rfl, rfl⟩))
      · split
        · rename_i hc
          exact .inr (.inr (.inr ⟨hj, hc, ha, rfl, rfl⟩))
        · exact .inl rfl
  · exact .inl rfl

/-- The write position is no concern of a job's beginning. -/
@[simp] theorem stcBegin_writePos (s : State) : (stcBegin s).stc.writePos = s.stc.writePos := by
  unfold stcBegin
  dsimp only
  (repeat' split) <;> rfl

/-- The newest of the first `n` slots: it is valid, every other valid one has a smaller value or the same at a lower
index, and there is none exactly where no slot is valid (R110). -/
theorem newestSlot_spec (m : Memory) (n : Nat) :
    (newestSlot m n = none → ∀ j < n, ringSlot m j = none) ∧
      ∀ i v mark, newestSlot m n = some (i, v, mark) →
        i < n ∧ ringSlot m i = some (v, mark) ∧
          ∀ j < n, ∀ w k, ringSlot m j = some (w, k) → w < v ∨ (w = v ∧ j ≤ i) := by
  induction n with
  | zero => exact ⟨fun _ j hj => absurd hj (by omega), fun i v k h => by cases h⟩
  | succ n ih =>
    obtain ⟨hn, hs⟩ := ih
    rw [newestSlot]
    cases hr : ringSlot m n with
    | none =>
      refine ⟨fun h j hj => ?_, fun i v k h => ?_⟩
      · rcases Nat.lt_succ_iff_lt_or_eq.mp hj with hj | rfl
        · exact hn (by simpa using h) j hj
        · exact hr
      · obtain ⟨hi, hv, hm⟩ := hs i v k (by simpa using h)
        refine ⟨by omega, hv, fun j hj w l hw => ?_⟩
        rcases Nat.lt_succ_iff_lt_or_eq.mp hj with hj | rfl
        · exact hm j hj w l hw
        · rw [hr] at hw; cases hw
    | some x =>
      obtain ⟨w, l⟩ := x
      cases hb : newestSlot m n with
      | none =>
        refine ⟨fun h => (by cases h), fun i v k h => ?_⟩
        cases h
        refine ⟨by omega, hr, fun j hj w' l' hw => ?_⟩
        rcases Nat.lt_succ_iff_lt_or_eq.mp hj with hj | rfl
        · rw [hn hb j hj] at hw; cases hw
        · rw [hr] at hw; cases hw; omega
      | some y =>
        obtain ⟨i', w', l'⟩ := y
        obtain ⟨hi, hv, hm⟩ := hs _ _ _ hb
        refine ⟨fun h => ?_, fun i v k h => ?_⟩
        · dsimp only at h; split at h <;> cases h
        · dsimp only at h
          split at h <;> cases h
          · refine ⟨by omega, hr, fun j hj u l'' hu => ?_⟩
            rcases Nat.lt_succ_iff_lt_or_eq.mp hj with hj | rfl
            · have := hm j hj u l'' hu; omega
            · rw [hr] at hu; cases hu; omega
          · refine ⟨by omega, hv, fun j hj u l'' hu => ?_⟩
            rcases Nat.lt_succ_iff_lt_or_eq.mp hj with hj | rfl
            · exact hm j hj u l'' hu
            · rw [hr] at hu; cases hu; omega

/-- A unit cut off touches the bytes of that unit alone (R119). -/
theorem cutUnit_read {s : State} {a : ActiveJob} {u : Nat × List Byte} (ha : s.stc.active = some a)
    (hu : a.current = some u) {c : Nat} (hc : c < u.1 ∨ u.1 + u.2.length ≤ c) :
    (cutUnit s).store.read c = s.store.read c := by
  obtain ⟨address, bytes⟩ := u
  simp only [cutUnit, ha, hu, State.nextDraw_frame, State.setStore_store]
  exact read_tearBytes_other hc

/-- Without a job in progress nothing is cut. -/
theorem cutUnit_idle {s : State} (h : s.stc.active = none) : cutUnit s = s := by
  simp [cutUnit, h]

end Sys2Proof.Machine
end

