-- ==== Sys2Proof/Laws/Pattern.lean ====
section
/-! SUPPORT. What the pattern memory holds (R177): the tables of the reference while no cell of it has gone bad, the free
values of its bytes after that; that nothing but the Power Unit bears on it; and what step 1 makes of it. -/

namespace Sys2Proof.Machine

open Sys2Proof

/-! ## It goes by the Power Unit alone -/

/-- States that agree on the Power Unit use the same definitions. -/
theorem State.definition_of_power {s t : State} (h : t.power = s.power) : t.definition = s.definition := by
  funext n; simp [State.definition, h]

/-- States that agree on the Power Unit use the same classes. -/
theorem State.classOf_of_power {s t : State} (h : t.power = s.power) : t.classOf = s.classOf := by
  funext n; simp [State.classOf, State.definition, h]

/-- States that agree on the Power Unit use the same curves. -/
theorem State.curve_of_power {s t : State} (h : t.power = s.power) : t.curve = s.curve := by
  funext g; simp [State.curve, h]

/-- States that agree on the Power Unit use the same peer texts. -/
theorem State.peerChars_of_power {s t : State} (h : t.power = s.power) : t.peerChars = s.peerChars := by
  funext k; simp [State.peerChars, h]

/-- States that agree on the Power Unit agree on which conditions read a signal. -/
theorem State.warningsReading_of_power {s t : State} (h : t.power = s.power) :
    t.warningsReading = s.warningsReading := by
  have hs : t.heldSignals = s.heldSignals := by funext w; simp [State.heldSignals, h]
  funext sigs; simp [State.warningsReading, h, hs]

/-! ## With no cell gone bad -/

variable {s : State}

/-- The definition of a warning is R121's. -/
theorem definition_asMade (h : AsMade s) (n : Warning) : s.definition n = n.definition := by
  simp [State.definition, PowerUnit.definition, show s.power.patternSpoiled = false from h]

/-- The class of a warning is R121's. -/
theorem classOf_asMade (h : AsMade s) (n : Warning) : s.classOf n = n.cls := by
  simp [State.classOf, definition_asMade h, Warning.definition]

/-- The curve of a gauge is R65's. -/
theorem curve_asMade (h : AsMade s) (g : GaugeId) : s.curve g = g.curve := by
  simp [State.curve, show s.power.patternSpoiled = false from h]

/-- The peer texts are R141's. -/
theorem peerChars_asMade (h : AsMade s) (k : Nat) : s.peerChars k = peerTextChars k := by
  simp [State.peerChars, show s.power.patternSpoiled = false from h]

/-- The condition of a warning is R121's. -/
theorem condition_asMade (h : AsMade s) (n : Warning) : condition n s = tableCondition n s := by
  simp [condition, show s.power.patternSpoiled = false from h]

/-- A change of what no condition of R121 reads works nothing out. -/
theorem evalSpoiled_asMade (h : AsMade s) (ws : List Warning) : evalSpoiled ws s = s := by
  simp [evalSpoiled, show s.power.patternSpoiled = false from h]

/-! ## With bad cells -/

/-- Whatever the pattern memory holds, a class is one of 0 to 3 (R121, R135). -/
theorem State.classOf_le_three (s : State) (n : Warning) : s.classOf n ≤ 3 := by
  unfold State.classOf State.definition PowerUnit.definition
  split
  · exact Nat.min_le_right _ _
  · cases n <;> decide

/-- The condition of a warning goes by the signals it reads and by what R123 hands it, and for a warning with a band by
whether it is INACTIVE: states that agree on these agree on the condition (R122). -/
theorem heldCondition_congr {s t : State} {n : Warning} (hp : t.power.patternMemory = s.power.patternMemory)
    (hr : t.settings.reserve = s.settings.reserve) (hs : ∀ g, t.signal g = s.signal g) (was : WarnState)
    (handed : List Nat) : t.heldCondition n was handed = s.heldCondition n was handed := by
  have hg : t.heldSignals n = s.heldSignals n := by simp [State.heldSignals, hp]
  have hrd : t.reading = s.reading := by funext g; simp [State.reading, hs]
  simp [State.heldCondition, hp, hr, hg, hrd]

/-! ## Curves (R65) -/

/-- The test of a curve says what R65 says of its points. -/
theorem evenCurve_iff (points : List (Int × Nat)) : evenCurve points = true ↔ EvenCurve points := by
  have htrans : ∀ x y z : Int × Nat, (x.1 < y.1 ∧ x.2 ≤ y.2) → (y.1 < z.1 ∧ y.2 ≤ z.2) → x.1 < z.1 ∧ x.2 ≤ z.2 :=
    fun x y z h k => ⟨h.1.trans k.1, h.2.trans k.2⟩
  induction points with
  | nil => simp [evenCurve, EvenCurve]
  | cons a rest ih =>
    cases rest with
    | nil => simp [evenCurve, EvenCurve]
    | cons b rest =>
      have hsplit : evenCurve (a :: b :: rest) = true ↔
          (a.1 < b.1 ∧ a.2 ≤ b.2) ∧ evenCurve (b :: rest) = true := by simp [evenCurve]
      refine hsplit.trans ⟨fun ⟨hab, he⟩ => ?_, fun h => ?_⟩
      · have hp : EvenCurve (b :: rest) := ih.mp he
        refine List.pairwise_cons.mpr ⟨fun y hy => ?_, hp⟩
        rcases List.mem_cons.mp hy with rfl | hy
        · exact hab
        · exact htrans a b y hab ((List.pairwise_cons.mp hp).1 y hy)
      · obtain ⟨hab, hp⟩ := List.pairwise_cons.mp h
        exact ⟨hab b List.mem_cons_self, ih.mpr hp⟩

/-- The curves as made are even. -/
theorem evenCurve_table (g : GaugeId) : EvenCurve g.curve := (evenCurve_iff _).mp (by cases g <;> decide)

/-- An even curve gives R65's target. -/
theorem heldCurveTarget_even {points : List (Int × Nat)} (h : EvenCurve points) (span : Nat) (v : Int) :
    heldCurveTarget span v points = curveTarget span v points := by
  simp [heldCurveTarget, (evenCurve_iff points).mpr h]

/-! ## Step 1 -/

/-- What step 1 does: the memory with the cells gone bad stays in use, the mark of bad cells follows them, and its sum
gives the result and the code (R177). -/
theorem patternCheck_spec (cells : List (Nat × Byte)) (s : State) :
    let m := withCells cells s.power.patternMemory
    Touches [.power, .rqs] s (patternCheck cells s) ∧
      (patternCheck cells s).power =
        { s.power with
          step := .step2, patternMemory := m, patternFail := byteSum m != 0
          patternSpoiled := s.power.patternSpoiled || !cells.isEmpty } ∧
      (patternCheck cells s).rqs = if byteSum m ≠ 0 then { s.rqs with lastError := 0x31 } else s.rqs := by
  intro m
  unfold patternCheck
  refine ⟨fun b hb => ?_, ?_, ?_⟩
  · cases b <;> first | (exfalso; exact hb (by decide)) | (dsimp only [Agree]; split <;> rfl)
  · dsimp only; split <;> rfl
  · dsimp only; split <;> simp_all [recordCode]

end Sys2Proof.Machine
end

