-- ==== Sys2Proof/Laws/Samples.lean ====
section
/-! SUPPORT. Runs of samples: the commands that take them go on from where a shorter run ends, and a sample
that completes nothing changes only its own line or button. The OVERRUN flag, the penalty, the break, and the
lengths of the chime patterns, the 32-bit holders of the total odometer,
and the checks of start steps 1 and 2. -/

namespace Sys2Proof.Machine

open Sys2Proof

/-- A line's samples taken one after the other can be cut in two (R57). -/
theorem execSwitchFilterCompletion_append (line : SwitchLine) (xs ys : List Level) (k : BitVec 6)
    (s : State) :
    execSwitchFilterCompletion line (xs ++ ys) k s
      = execSwitchFilterCompletion line ys k (xs.foldl (sampleLine line k) s) := by
  simp [execSwitchFilterCompletion, List.foldl_append]

/-- A button's samples taken one after the other can be cut in two (R60). -/
theorem execButtonPositionChange_append (b : Button) (xs ys : List Contact) (s : State) (h : ys ≠ []) :
    execButtonPositionChange b (xs ++ ys) s
      = execButtonPositionChange b ys (xs.foldl (sampleButton b) s) := by
  simp [execButtonPositionChange, List.foldl_append, h]

/-- A button command without samples is the taking's reading of the OVERRUN flag alone (R62). -/
theorem execButtonPositionChange_nil (b : Button) (s : State) (h : s.powered = true) :
    execButtonPositionChange b [] s
      = .next (s.setInput { s.input with overrun := s.input.overrun.read }) := by
  simp [execButtonPositionChange, h]

/-- A dropped event leaves the flag set, and it stays set however many follow (R62). -/
@[simp] theorem OverrunFlag.raise_raise (o : OverrunFlag) : o.raise.raise = o.raise := by
  cases o <;> rfl

/-- The reading is made once in the moment of a taking (R62). -/
@[simp] theorem OverrunFlag.read_read (o : OverrunFlag) : o.read.read = o.read := by
  cases o <;> rfl

/-- A taking leaves the flag clear, but for one raised after its reading, which the next taking finds (R62). -/
theorem overrunNotice_overrun (s : State) :
    (overrunNotice s).input.overrun =
      if s.input.overrun = .raisedAfterRead then .raised else .clear := by
  unfold overrunNotice
  split <;> simp_all [giveNotice] <;> rfl

/-- A penalty never raises the due point (R145, R153). -/
theorem lessPenalty_le (dueKm amount : Nat) : lessPenalty dueKm amount ≤ dueKm := by
  unfold lessPenalty
  split
  · exact Nat.sub_le _ _
  · exact Nat.min_le_left _ _

/-- A character is told as a break exactly where its stop bit stands in a dominant run of ten bits (R2). -/
theorem readCharacter_eq_breakRun (ls : List LineLevel) :
    readCharacter ls = .breakRun ↔
      ls.head? ≠ some .recessive ∧ ls[9]? = some .dominant ∧ 10 ≤ stopBitRun ls := by
  unfold readCharacter
  split
  · simp_all
  · split
    · split <;> simp_all
    · simp_all

theorem SwitchFilter.after_append (f : SwitchFilter) (n : Nat) (xs ys : List Level) :
    f.after n (xs ++ ys) = (f.after n xs).after n ys := by
  simp [SwitchFilter.after, List.foldl_append]

theorem Debouncer.after_append (d : Debouncer) (xs ys : List Contact) :
    d.after (xs ++ ys) = (d.after xs).after ys := by
  simp [Debouncer.after, List.foldl_append]

/-- A sample that completes nothing only counts in its line's filter (R57). -/
theorem sampleLine_quiet {line : SwitchLine} {k : BitVec 6} {s : State} {l : Level}
    (h : (s.filter line).completes (filterLength s line) l = false) (hs : lineSampled s line = true) :
    sampleLine line k s l = countSample line l s := by
  have h' : (s.input.filters[line.ix]).completes (filterLength s line) l = false := h
  simp only [sampleLine, hs, h', if_true]
  rfl

/-- A sample that changes no position only counts in its button's debouncer (R60). -/
theorem sampleButton_quiet {b : Button} {s : State} {c : Contact} (h : (s.button b).changes c = false)
    (hs : s.powered = true) : sampleButton b s c = s.setButton b ((s.button b).sampled c) := by
  simp [sampleButton, h, hs]

/-- A pattern that ends lasts its rounds (R137). -/
theorem Pattern.lengthMs_eq (p : Pattern) :
    p.lengthMs = p.rounds.map (· * (p.round.map (·.2)).sum) := by
  cases p <;> rfl

/-- A 32-bit holder of a figure holds no more than the figure (R105). -/
theorem fit32_le (n : Nat) : fit32 n ≤ n := by
  unfold fit32
  split
  · exact Nat.le_refl n
  · have h := (Config.overflow32 n).isLt
    unfold max32 at *
    omega

/-- It holds the figure where that fits, and 32 bits in any case (R105). -/
theorem held32_fit32 (n : Nat) : Held32 n (fit32 n) := by
  unfold Held32 fit32 max32
  split
  · exact ⟨by omega, fun _ => rfl⟩
  · have h := (Config.overflow32 n).isLt
    exact ⟨by omega, fun _ => by omega⟩

/-- The value of an odometer job is one that a job holds (R107). -/
theorem Odometer.jobHolds_jobValue (o : Odometer) : JobHolds o o.jobValue := by
  have hle : fit32 o.total ≤ o.total := fit32_le _
  have hfit := (held32_fit32 o.total).2
  unfold JobHolds Odometer.jobValue
  unfold Odometer.total at *
  refine ⟨Nat.le_max_left _ _, by omega, fun h => ?_⟩
  have := hfit h
  omega

/-- Cells gone bad leave the pattern memory its length (R177). -/
@[simp] theorem withCells_length (cells : List (Nat × Byte)) (m : List Byte) :
    (withCells cells m).length = m.length := by
  induction cells generalizing m with
  | nil => rfl
  | cons c cs ih => exact (ih (m.set c.1 c.2)).trans List.length_set

/-- A cell that has not gone bad reads as before (R177). -/
theorem withCells_other {cells : List (Nat × Byte)} {m : List Byte} {i : Nat} (h : ∀ c ∈ cells, c.1 ≠ i) :
    (withCells cells m)[i]? = m[i]? := by
  induction cells generalizing m with
  | nil => rfl
  | cons c cs ih =>
    refine (ih fun x hx => h x (List.mem_cons_of_mem _ hx)).trans ?_
    exact List.getElem?_set_ne (h c List.mem_cons_self)

/-- A cell that has gone bad reads the last byte told of it (R177). -/
theorem withCells_last {l r : List (Nat × Byte)} {m : List Byte} {i : Nat} {x : Byte}
    (h : ∀ c ∈ r, c.1 ≠ i) (hi : i < m.length) : (withCells (l ++ (i, x) :: r) m)[i]? = some x := by
  have happ : withCells (l ++ (i, x) :: r) m = withCells r ((withCells l m).set i x) := by
    simp [withCells, List.foldl_append]
  rw [happ, withCells_other h]
  exact List.getElem?_set_self (by simpa using hi)

/-- The sum of bytes is theirs modulo 256 (R177, R179). -/
theorem toNat_byteSum (bs : List Byte) : (byteSum bs).toNat = (bs.map BitVec.toNat).sum % 256 := by
  suffices h : ∀ a : Byte, (bs.foldl (· + ·) a).toNat = (a.toNat + (bs.map BitVec.toNat).sum) % 256 by
    simpa [byteSum] using h 0
  induction bs with
  | nil => intro a; simp [Nat.mod_eq_of_lt a.isLt]
  | cons b bs ih => intro a; simp [ih, BitVec.toNat_add]; omega

/-- A location fails where it reads some walking pattern back wrongly (R178). -/
theorem locationFails_iff (reads : Vector Byte 8) :
    locationFails reads = true ↔ ∃ i : Fin 8, reads[i].toNat ≠ 2 ^ i.val := by
  have hp (i : Fin 8) : (walkingPattern i).toNat = 2 ^ i.val := by
    revert i; decide
  simp [locationFails, ← hp, BitVec.toNat_inj]

end Sys2Proof.Machine
end

