-- ==== Sys2Proof/Tests/Slice0.lean ====
section
/-! SUPPORT. The project's own tests: the smoke test of WellFormed, the worked examples of spec/, and for
each statement of the certificates that has hypotheses a concrete state that meets them. -/

namespace Sys2Proof.Tests

open Sys2Proof Sys2Proof.Machine

/-! ## WellFormed: each check refuses an ill-formed command -/

theorem test_wf_roster_address : (Instr.rosterTimerExpiry 15).wellFormed = false := by decide

theorem test_wf_local_signal : (Instr.signalExpiry .vehSpeed).wellFormed = false := by decide

theorem test_wf_edge_after_gate : (Instr.speedPulse 125001).wellFormed = false := by decide

theorem test_wf_part_without_cycle : (Instr.trimPartEnd 0).wellFormed = false := by decide

theorem test_wf_unit_length : (Instr.storeUnitComplete [1, 2]).wellFormed = false := by decide

theorem test_wf_display_timer : (Instr.serviceDisplayTimerExpiry .belt).wellFormed = false := by decide

theorem test_wf_accepts : (Instr.speedPulse 125000).wellFormed = true := by decide

/-- No row of the opcode table has bits. -/
theorem test_no_word_spells_a_command : decodeTableWord 8 0 = none := by decide

/-! ## States to test on -/

/-- The state of a cold start. -/
def base : State := State.reset

/-- A state in a power state after its start, the link open. -/
def inState (p : Power) : State :=
  (base.setPower
    { base.power with
      state := p, step := .none, configured := true, courtesyTimer := some 30000
      courtesyCap := some 300000 }).setLink { base.link with listening := true }

/-- A state in RUN. -/
def running : State := inState .run

/-- A state in COURTESY. -/
def courtesy : State := inState .courtesy

/-- A frame with its data, from a source. -/
def frameOf (cls : Nat) (kind : FrameKind) (source : Nat) (id : Byte) (data : List Byte) : Frame :=
  { cls := cls, kind := kind, source := source
    target := if kind = .broadcast then none else some 4, id := id, data := data }

/-- A workshop request of the tester. -/
def request (id : Byte) (data : List Byte) : Frame := frameOf 3 .directed 15 id data

/-- A state with a frame in the ring. -/
def handed (f : Frame) (s : State) : State := s.setLink { s.link with ring := [f] }

/-- A state with a button event waiting. -/
def pressed (e : ButtonEvent) (s : State) : State := s.setInput { s.input with events := [e] }

/-- A state with one warning's record. -/
def warned (n : Warning) (r : WarningRecord) (list : List Warning) (s : State) : State :=
  s.setWnu { s.wnu.setRecord n r with list := list }

/-- The state after a command. -/
def after (c : Instr) (s : State) : State :=
  match exec c s with
  | .next t => t
  | .fault _ => s
  | .refused _ => s

/-! ## Worked examples of spec/ -/

/-- The worked check of a frame (13.3). -/
theorem test_frame_check :
    frameBytes (frameOf 2 .broadcast 4 0x61 [0x07, 0x2B, 0x09, 0x66, 0x01])
      = [0x21, 0x61, 0x05, 0x07, 0x2B, 0x09, 0x66, 0x01, 0x51] := by decide

/-- The worked check of a slot (13.4): 80h in slot 7, 61h in slot 8. -/
theorem test_slot_check :
    slotBytes 7 48212006 false = [0x02, 0xDF, 0xA8, 0x26, 0x00, 0x80]
      ∧ slotBytes 8 48212006 false = [0x02, 0xDF, 0xA8, 0x26, 0x00, 0x61]
      ∧ slotRead 8 (slotBytes 7 48212006 false) = none := by decide

/-- The targets of chapter 4's worked example: COOLANT at 60, 118 and 140 °C, SPEED at 83.3 km/h, FUEL at
453 dl of 900. -/
theorem test_curve_targets :
    curveTarget 360 60 GaugeId.coolant.curve = 102 ∧ curveTarget 360 118 GaugeId.coolant.curve = 273
      ∧ curveTarget 360 140 GaugeId.coolant.curve = 360 ∧ curveTarget 960 833 GaugeId.speed.curve = 297
      ∧ curveTarget 360 (gaugeValue .fuel 900 453) GaugeId.fuel.curve = 179 := by decide

/-- The sender table: a reading of 150 in a tank of 900 dl is 350 dl (chapter 3). -/
theorem test_sender_level : senderLevel defaultSender 900 150 = 350 := by decide

/-- The figures of 87,350 m, 131,280 q and 4,020 s (5.4). -/
theorem test_figures :
    averageConsumption 87350 131280 = some 150 ∧ averageEconomy 87350 131280 = some 156
      ∧ averageKmh 87350 4020 = some 782 ∧ averageMph 87350 4020 = some 486 := by decide

/-- 48,212,003 m is 48,212 km and 29,957 mi (R106). -/
theorem test_displayed_distance :
    displayedKm 48212003 = 48212 ∧ displayedMiles 48212003 = 29957 := by decide

/-- The range of 16 segments of 3,200 q at 453 dl, and of an empty window at 100 dl and D10 of 150
(chapter 5). -/
theorem test_range :
    ({ base.trc with window := List.replicate 16 3200 }.rangeAt 180 453).metres = 283125
      ∧ (base.trc.rangeAt 150 100).metres = 66666 := by decide

/-! ## One step of each family -/

/-- With PPK 4000 and residue 3000 a pulse gives one metre (chapter 3). -/
theorem test_pulse_gives_metre :
    let s := running.setInput { running.input with residue := 3000 }
    (after (.speedPulse 0) s).odo.pending = 1 ∧ (after (.speedPulse 0) s).input.residue = 0 := by decide

/-- Twelve edges over 118,800 µs are 83.3 km/h (chapter 3). -/
theorem test_gate_speed :
    let s :=
      running.setInput
        { running.input with
          gate := { running.input.gate with isOpen := true, edges := 12, firstUs := 0, lastUs := 118800 } }
    ((after .speedGateEnd s).signal .vehSpeed).value = some 833 := by decide

/-- The filter of 28,992 at a level of 449 dl steps to 28,984 with the car standing (chapter 3). -/
theorem test_fuel_filter : filterStep 28992 449 5 = 28984 ∧ filterStep 28992 449 9 = 28991 := by decide

/-- A fuel count of 12 after 65,532 adds 16 q in RUN (5.3). -/
theorem test_fuel_wrap :
    let s := running.setTrc { running.trc with fuelRef := some 65532 }
    (after .engineStatus (handed (frameOf 1 .broadcast 1 0x10 [25, 130, 75, 0, 12, 1]) s)).trc.binFuel
      = 16 := by decide

/-- The third failed attempt pauses for 100 ms (R12). -/
theorem test_break_pauses :
    let e : TxEntry :=
      { frame := frameOf 2 .broadcast 4 0x61 [], entered := 0, failed := 2, held := none
        underAttempt := true }
    let s := running.setLink { running.link with tx := .breaking, txQueue := [e] }
    (after .breakEnd s).link.tx = .paused ∧ (after .breakEnd s).link.txTimer = some 100 := by decide

/-- HOMING_STEP at an open contact after span + 32 steps of attempt 3 faults OIL with 25h (R72). -/
theorem test_homing_faults :
    let s :=
      running.setGauge .oil { running.gauge .oil with state := .homing, attempt := 3, steps := 391 }
    ((after (.homingStep .oil false) s).gauge .oil).state = .faulted
      ∧ (after (.homingStep .oil false) s).rqs.lastError = 0x25 := by decide

/-- ADJUST HOUR back at hour 0 answers 0Eh and changes nothing (R163). -/
theorem test_retard_at_midnight :
    let t := after .adjustHour (handed (request 0x79 [0xFF]) running)
    t.link.txQueue.map (·.frame.data) = [[0x0E]] ∧ t.clock = running.clock := by decide

/-- Midnight takes the next day (R156). -/
theorem test_midnight :
    let s := running.setClock { running.clock with hour := 23, minute := 59, second := 59, day := 2405 }
    (after .secondPassage s).clock.day = 2406 ∧ (after .secondPassage s).clock.hour = 0 := by decide

/-- Part 1 of a window with a trim of +5 counts its cycle twice (R158). -/
theorem test_trim_inserts :
    let s := running.setClock { running.clock with trim := 5 }
    (after (.trimPartEnd 8192) s).clock.prescaler = 8193 := by decide

/-- An echo 3,001 m above the base at a commit interval of 2 km is adopted, one at 3,000 m is not (R116). -/
theorem test_echo_tolerance :
    resolved 2 (some 50000) (some 53001) = (53001, true)
      ∧ resolved 2 (some 50000) (some 53000) = (50000, false) := by decide

/-- A LONG in COURTESY makes a WARM start held for 50 ms (R185). -/
theorem test_long_restarts :
    let t := after .checkResetLong (pressed .long courtesy)
    t.power.kind = .warm ∧ t.power.step = .hold ∧ t.power.restartHold = some 50 := by decide

/-- A request from station 3 is refused with 45h, to station 3 (R186). -/
theorem test_refused_source :
    let t := after .readSense (handed { request 0x70 [0] with source := 3 } running)
    t.link.txQueue.map (fun e => (e.frame.target, e.frame.data)) = [(some 3, [0x45])] := by decide

/-! ## Witnesses: each statement's hypotheses can be met, clause by clause -/

/-- A state with one command waiting. -/
def waiting (c : Instr) (s : State) : State := s.setPending [c]

/-- A state with an odometer job at the last slot in progress. -/
def writing : State :=
  (running.setStc
    { running.stc with
      portOpen := true, writePos := 15
      active := some { job := .odometer 2000 false 15, unit := 0, repeated := false } }).setOdo
    { running.odo with resolved := true, commit := .writing }

/-- A transmit queue entry. -/
def entry (cls : Nat) (id : Byte) (failed : Nat) (underAttempt : Bool) : TxEntry :=
  { frame := frameOf cls .broadcast 4 id [], entered := 0, failed := failed, held := none
    underAttempt := underAttempt }

/-- A state with its transmitter and its transmit queue. -/
def sends (tx : TxState) (q : List TxEntry) (s : State) : State :=
  s.setLink { s.link with tx := tx, txQueue := q }

/-- A state with its receiver. -/
def receives (r : Receiver) (s : State) : State := s.setLink { s.link with receiver := r }

/-- A warning's record in a state, with its timers. -/
def recordIn (state : WarnState) (timer autoAck reannounce display : Timer) : WarningRecord :=
  { inactiveRecord with
    state := state, timer := timer, autoAck := autoAck, reannounce := reannounce, display := display }

/-- A chime request. -/
def chime (source : ChimeSource) (pattern : Pattern) (cls : Nat) : ChimeRequest :=
  { source := source, pattern := pattern, cls := cls, entered := 0 }

/-- A state whose pattern memory has the byte 55h alone, in a cell gone bad. -/
def spoiled (s : State) : State :=
  s.setPower { s.power with patternMemory := [0x55], patternSpoiled := true }

theorem not_asMade_spoiled (s : State) : ¬AsMade (spoiled s) := fun h => Bool.noConfusion h

/-- A state with its tone and its chime queue. -/
def sounds (tone : Tone) (q : List ChimeRequest) (s : State) : State :=
  s.setWnu { s.wnu with tone := tone, chimes := q }

theorem witness_StepTakesFrontCommand :
    (waiting .bitError running).pending = .bitError :: [] ∧ running.pending = [] ∧
      exec .bitError running = .next running := ⟨rfl, rfl, rfl⟩

theorem storeInv_writing : StoreInv writing := by
  refine ⟨by decide, by decide, fun a h => ?_⟩
  cases h
  exact ⟨by decide, by decide⟩

theorem witness_EveryCommandCompletes : StoreInv writing := storeInv_writing

theorem witness_StepKeepsStore :
    MemoryInv writing ∧ StoreInv writing ∧ PatternInv writing ∧ PatternInv (spoiled writing) ∧
      (step (waiting .bitError writing)) = .next (writing.setPending []) :=
  ⟨by unfold MemoryInv; decide, storeInv_writing, fun _ => rfl, fun h => absurd h (not_asMade_spoiled _), rfl⟩

theorem witness_StepKeepsTransmitQueue :
    let s := waiting .bitError (sends .sending [entry 1 0x62 3 true, entry 2 0x60 0 false] running)
    TxInv s ∧ ∃ t, step s = .next t :=
  ⟨by unfold TxInv EntryOk OwnClass; decide, _, rfl⟩

theorem witness_StepKeepsGaugesInSpan :
    let r := { running.gauge .oil with state := .tracking, position := 360 }
    let s := waiting (.gaugeRestBoundary .oil) (running.setGauge .oil r)
    GaugeInv s ∧ ∃ t, step s = .next t := by
  refine ⟨⟨fun g => ?_, fun h => absurd h (by decide), fun h => absurd h (by decide)⟩, _, rfl⟩
  cases g <;> (unfold GaugeOk; decide)

theorem witness_StepKeepsActiveList :
    let s :=
      waiting .beltWindowExpiry
        (warned .oilPressure (recordIn .active none none none none) [.oilPressure] running)
    WarningInv s ∧ ∃ t, step s = .next t := by
  refine ⟨⟨by decide, fun n => ?_, fun _ => ⟨by decide, fun n => ?_⟩⟩, _, rfl⟩ <;>
    cases n <;> (first | (unfold RecordOk; decide) | (unfold ClassOk; decide))

/-- The active list of a pattern memory with bad cells may stand in any order. -/
theorem warningInv_spoiled :
    WarningInv
      (spoiled
        (warned .bulbOut (recordIn .active none none none none) [.bulbOut, .oilPressure]
          (warned .oilPressure (recordIn .active none none none none) [] running))) := by
  refine ⟨by decide, fun n => ?_, fun h => absurd h (not_asMade_spoiled _)⟩
  cases n <;> (unfold RecordOk; decide)

theorem witness_StepKeepsChimePriority :
    let s :=
      waiting .patternEnd
        (sounds (.sounding (chime (.warning .belt) .bell 2)) [chime (.station 5) .gong1 2] running)
    ChimeInv s ∧ ∃ t, step s = .next t := by
  refine ⟨⟨by decide, by unfold ChimeBefore; decide, by decide, ?_⟩, _, rfl⟩
  show ∀ q ∈ [chime (.station 5) .gong1 2], q.source ≠ .warning .belt ∧ 2 ≤ q.cls
  decide

/-- A state in the echo wait. -/
def echoing : State := running.setOdo { running.odo with echoWait := some 2000, base := some 50000 }

/-- A state in RUN one metre short of a displayed km, its odometer resolved, a trip at its whole distance, and the
oil due at its interval. -/
def resolvedRun : State :=
  let oil : ServiceRecord := { dueKm := 15050, dueDay := none, penalty := 7500 }
  let s :=
    (running.setOdo { running.odo with resolved := true, committed := 50000, pending := 999 }).setInput
      { running.input with residue := 3000 }
  let trip : TripRecord :=
    { running.trc.tripA with startOdometer := 49999, distance := 1000, awaiting := false }
  let blank : ServiceState := { record := ⟨0, none, 0⟩, awaiting := false, dirty := false }
  let items := Vector.replicate 4 blank
  (s.setTrc { s.trc with tripA := trip }).setSru
    { s.sru with items := items.set ServiceItem.engineOil.ix { blank with record := oil } }

theorem totalInv_resolvedRun : TotalInv resolvedRun := by
  refine ⟨fun _ x => ?_, fun _ h => absurd h (by decide), fun _ _ _ => by decide,
    fun _ _ _ _ h => absurd h.symm (Option.some_ne_none _), fun h => absurd h (by decide), fun _ i => ?_⟩
  · cases x <;> decide
  · cases i <;> decide

theorem witness_StepKeepsCommit :
    (CommitInv (waiting .echoWaitExpiry echoing) ∧
      ∃ t, step (waiting .echoWaitExpiry echoing) = .next t) ∧
      CommitInv resolvedRun ∧ TotalInv resolvedRun ∧ Unsaturated resolvedRun ∧
      (let t := after (.speedPulse 0) resolvedRun
       exec (.speedPulse 0) resolvedRun = .next t ∧ t.odo.resolved = true ∧
         resolvedRun.awake = true ∧ t.awake = true ∧ KmLeft resolvedRun .engineOil = some 15000 ∧
         KmLeft t .engineOil = some 14999) :=
  ⟨⟨by unfold CommitInv JobHolds; decide, _, rfl⟩, by unfold CommitInv JobHolds; decide, totalInv_resolvedRun,
    by unfold Unsaturated; decide, rfl, by decide⟩

/-- The displayed km stays at 999,999 past a total of 2^32 − 1 m, and the committed value stays below a job's there
(R106, R107). -/
theorem test_total_past_32_bits :
    let o := { running.odo with resolved := true, committed := 4294967295, pending := 1 }
    o.handedKm = some 999999 ∧ o.committed ≤ o.jobValue ∧ ¬(o.total ≤ 4294967295) :=
  ⟨by decide, Nat.le_max_left _ _, by decide⟩

theorem witness_StepKeepsRanges :
    RangeInv (waiting .secondPassage running) ∧ ∃ t, step (waiting .secondPassage running) = .next t :=
  ⟨by unfold RangeInv SettingsOk ClockOk; decide, _, rfl⟩

theorem witness_StepKeepsBounds :
    BoundsInv (waiting .breakReceived running) ∧ ∃ t, step (waiting .breakReceived running) = .next t := by
  refine ⟨?_, _, rfl⟩
  refine ⟨by unfold CountersOk; decide, by decide, by decide, fun g => ?_, by decide, by decide,
    by unfold TripOk; decide, by unfold TripOk; decide, by unfold TripOk; decide, by decide, by decide,
    by decide, ⟨by decide, by decide, by decide, by decide, by decide, ?_⟩, by decide, by decide, fun n => ?_⟩
  · cases g <;> decide
  · exact fun _ _ _ _ h => absurd h.symm (Option.some_ne_none _)
  · cases n <;> decide

/-- The bytes next to the unit of slot 15 lie outside it. -/
theorem witness_OnlyUnitsWriteMemory :
    mayStore .bitError = false ∧ running.stc.active = none ∧
      (∃ a u, writing.stc.active = some a ∧ a.current = some u ∧ (0xB7 < u.1 ∧ u.1 + u.2.length ≤ 0xBE)) ∧
      exec .bitError writing = .next writing :=
  ⟨rfl, rfl, ⟨_, _, rfl, rfl, by decide⟩, rfl⟩

theorem witness_ReceiverTakesByte :
    running.link.listening = true ∧ running.link.tx ≠ .breaking ∧ running.link.receiver = .waiting ∧
      headerBad 0x21 = false ∧ headerBad 0x01 = true ∧ headerBad 0x1C = true ∧
      nextField [0x21] = .body ∧ nextField [0x21, 0x61] = .length ∧ (8 : Byte).toNat ≤ 8 ∧
      8 < (9 : Byte).toNat ∧ nextField [0x21, 0x61, 0x00] = .check ∧
      frameCheck [0x21, 0x61, 0x00] ≠ 0x00 ∧ (sends .sending [] running).link.tx = .sending ∧
      (receives .skipping running).link.receiver = .skipping := by decide

/-- A break of 12 bits begins inside the byte 1Fh, at its three highest bits; one bit short of ten dominant bits
is a framing error; and the run of a byte of zeros counts its start bit. -/
theorem test_break_inside_a_byte :
    readCharacter (byteLevels 0x1F .dominant ++ List.replicate 8 .dominant ++ [.recessive]) = .breakRun ∧
      readCharacter (byteLevels 0x1F .dominant ++ List.replicate 6 .dominant ++ [.recessive]) = .breakRun ∧
      readCharacter (byteLevels 0x1F .dominant ++ List.replicate 5 .dominant ++ [.recessive])
        = .framingError 0x1F ∧
      readCharacter (byteLevels 0x00 .dominant) = .breakRun ∧
      readCharacter (byteLevels 0x01 .dominant) = .framingError 0x01 ∧
      (List.replicate 5 LineLevel.recessive).head? ≠ some .dominant := by decide

theorem witness_ReceiverReturnsToWaiting :
    (receives (.inFrame [0x21]) running).link.receiver = .inFrame [0x21] ∧
      (receives .skipping running).link.receiver = .skipping ∧ running.link.listening = true :=
  ⟨rfl, rfl, rfl⟩

/-- A status frame with no data, one with eight data bytes from station 15, one from the cluster's own address,
a full ring, the ids at the ends of the acceptance set and beside them, and a frame of another station. -/
theorem witness_SentFrameIsTaken :
    FrameOk (frameOf 0 .broadcast 1 0x10 []) ∧
      FrameOk (frameOf 3 .directed 15 0x77 [0, 0, 0, 0, 0, 0, 0, 0]) ∧
      running.link.listening = true ∧ running.link.receiver = .waiting ∧ running.link.tx ≠ .sending ∧
      running.link.tx ≠ .breaking ∧ running.settings.address = 4 ∧
      accepted 4 (frameOf 0 .broadcast 1 0x10 []) = true ∧
      accepted 4 (frameOf 0 .broadcast 1 0x11 []) = false ∧
      accepted 4 (frameOf 3 .directed 15 0x7C []) = true ∧ accepted 4 (frameOf 3 .directed 15 0x7D []) = false ∧
      accepted 4 (frameOf 3 .directed 15 0x70 []) = true ∧ accepted 4 (frameOf 3 .directed 15 0x6F []) = false ∧
      accepted 4 (frameOf 0 .directed 5 0x31 []) = true ∧ accepted 5 (frameOf 0 .directed 5 0x31 []) = false ∧
      accepted 4 (frameOf 0 .broadcast 5 0x31 []) = false ∧ running.link.ring.length < 12 ∧
      FrameOk (frameOf 0 .broadcast 4 0x10 []) ∧
      (frameOf 0 .broadcast 4 0x10 []).source = running.settings.address ∧
      12 ≤ (running.setLink
        { running.link with
          ring := List.replicate 12 (frameOf 0 .broadcast 1 0x10 []) }).link.ring.length := by
  unfold FrameOk; decide

/-- The largest slot value, and a record with the largest distance, day and penalty. -/
theorem witness_EncodingsRoundTrip :
    FrameOk (frameOf 3 .response 14 0x70 [0xFF]) ∧ ¬(15 = 0 ∧ 4294967295 = 0 ∧ true = false) ∧
      (∀ d ∈ (some 65534 : Option Nat), d < 65535) ∧
      blankBytes (recordBytes .sparkAndFilters ⟨16777215, some 65534, 65535⟩) = false := by
  unfold FrameOk; decide

/-- At the spacing of class 3, one bt short of it, and in a frame. -/
theorem witness_AttemptStartsAtIdleSpacing :
    let s := sends .waitingIdle [entry 3 0x63 0 false] running
    s.link.listening = true ∧ s.awake = true ∧ 14 + 3 * 3 ≤ s.link.idleCount + 23 ∧
      s.link.idleCount + 22 < 14 + 3 * 3 ∧ s.link.receiver = .waiting ∧
      (receives (.inFrame [0x21]) s).link.receiver ≠ .waiting := by decide

theorem witness_AttemptsEnd :
    (sends .sending [entry 1 0x62 0 false, entry 2 0x60 3 true] running).link.txQueue
        = [entry 1 0x62 0 false] ++ entry 2 0x60 3 true :: [] ∧
      (∀ x ∈ [entry 1 0x62 0 false] ++ [], x.underAttempt = false) ∧
      (sends .sending [] running).link.tx = .sending ∧ (entry 2 0x60 3 true).underAttempt = true ∧
      (sends .breaking [] running).link.tx = .breaking ∧
      (running.link.tx ≠ .sending ∧ running.link.tx ≠ .breaking) := by decide

/-- Two failures before this one, and three with the third and the fourth abandonment. -/
theorem witness_BreakEndCountsFailure :
    (sends .breaking [entry 2 0x60 2 true] running).link.txQueue = [] ++ entry 2 0x60 2 true :: [] ∧
      (entry 2 0x60 2 true).failed ≤ 2 ∧ (entry 2 0x60 3 true).failed = 3 ∧
      running.link.abandonRun ≤ 2 ∧
      (running.setLink { running.link with abandonRun := 3 }).link.abandonRun = 3 := by decide

theorem witness_LinkTimersEnd :
    (sends .paused [] running).link.tx = .paused ∧ (sends .muted [] running).link.tx = .muted ∧
      (let e : RosterEntry := { presence := .present, timer := some 2000 }
       let s := running.setLink { running.link with roster := running.link.roster.set 13 e }
       s.link.listening = true ∧ (s.link.roster[(13 : Fin 14)]).presence = .present ∧
         (s.link.roster[(13 : Fin 14)]).timer.isSome = true) := by decide

/-- Station 3 in RUN, the door signals its source, with its continuous chime sounding, and its one-shot and its
continuous request waiting. -/
theorem witness_LinkTimersEnd_chimes :
    let e : RosterEntry := { presence := .present, timer := some 2000 }
    let s :=
      sounds (.sounding (chime (.station 3) .alarm 1)) [chime (.station 5) .alarm 1]
        (running.setLink { running.link with roster := running.link.roster.set 2 e })
    (s.link.roster[(2 : Fin 14)]).presence = .present ∧
      (s.link.roster[(2 : Fin 14)]).timer.isSome = true ∧ s.powered = true ∧
      Pattern.alarm.continuous = true ∧ (chime (.station 3) .alarm 1).source = .station (2 + 1) ∧
      (chime (.station 3) .tick 1).pattern.continuous = false ∧
      (s.wnu.record .bodyLinkLost).state = .inactive ∧ s.power.state = .run ∧
      (after (.rosterTimerExpiry 3) s).wnu.tone = .spacing := by decide

/-- A full queue of eight entries of distinct keys. -/
def fullQueue : List TxEntry :=
  [entry 1 0x62 0 false, entry 2 0x60 0 false, entry 2 0x61 0 false, entry 3 0x63 0 false,
   entry 3 0x70 0 false, entry 3 0x71 0 false, entry 3 0x72 0 false, entry 3 0x73 0 false]

/-- The youngest class 3 entry of a full queue. -/
def young : TxEntry := { entry 3 0x73 0 false with entered := 1 }

theorem txInv_full : TxInv (sends .waitingIdle (fullQueue.take 7 ++ [young]) running) := by
  unfold TxInv EntryOk OwnClass; decide

theorem txInv_attempt : TxInv (sends .sending [entry 2 0x60 0 true] running) := by
  unfold TxInv EntryOk OwnClass; decide

/-- A matching entry that waits, one under attempt, a queue with room, and a full one: for a frame of the
largest class number, and for a class 0 frame with the youngest class 3 entry. -/
theorem witness_OfferPlacesFrame :
    TxInv (sends .waitingIdle (fullQueue.take 7 ++ [young]) running) ∧
      TxInv (sends .sending [entry 2 0x60 0 true] running) ∧
      (entry 2 0x60 0 true).frame.sameKey (frameOf 2 .broadcast 4 0x60 [1]) = true ∧
      (∀ e ∈ fullQueue, e.frame.sameKey (frameOf 3 .broadcast 4 0x74 []) = false) ∧
      (∀ e ∈ fullQueue, e.underAttempt = false → e.frame.cls ≤ 3) ∧
      ∀ x ∈ fullQueue.take 7, x.underAttempt = false →
        x.frame.cls < young.frame.cls ∨
          (x.frame.cls = young.frame.cls ∧ x.entered < young.entered) :=
  ⟨txInv_full, txInv_attempt, by decide, by decide, by decide, by decide⟩

/-- A state with a signal record of a value in a state, its timer running. -/
def sensed (g : Signal) (st : SigState) (v : Int) (s : State) : State :=
  s.setSignal g { s.signal g with state := st, value := some v, timer := some 1 }

/-- The first count, a rise of 500 quanta, and one of 501. -/
theorem witness_EngineStatusIsTaken :
    let f := frameOf 1 .broadcast 1 0x10 [25, 0xFF, 0xFF, 0x01, 0xF3, 1]
    let s := (handed f running).setTrc { running.trc with fuelRef := some 65535 }
    let u := (handed f courtesy).setTrc { running.trc with fuelRef := some 65534 }
    HandsOn s 0x10 f [] ∧ f.source = s.settings.srcEngine ∧ running.trc.fuelRef = none ∧
      (256 * 0x01 + 0xF3 + 65536 - 65535) % 65536 = 500 ∧ s.power.state = .run ∧
      (256 * 0x01 + 0xF3 + 65536 - 65534) % 65536 = 501 ∧ HandsOn u 0x10 f [] ∧
      u.power.state ≠ .run := by
  unfold HandsOn; decide

/-- A state with a drive open, its warm flag clear. -/
def driving (s : State) : State :=
  s.setSru { s.sru with drive := some { baseline := 0, carried := 0, warm := false } }

/-- A drive whose coolant arrives at 70 °C in RUN, and one whose coolant arrives at 69 °C. -/
theorem witness_EngineStatusIsTaken_warm :
    let f (coolant : Byte) : Frame := frameOf 1 .broadcast 1 0x10 [0, coolant, 0, 0, 0, 0]
    let t (coolant : Byte) : State := after .engineStatus (handed (f coolant) (driving running))
    (t 110).power.state = .run ∧ ((t 110).signal .coolantT).state = .fresh ∧
      ((t 110).signal .coolantT).value = some 70 ∧ ((t 109).signal .coolantT).value = some 69 ∧
      (t 110).sru.drive = some { baseline := 0, carried := 0, warm := true } ∧
      (t 109).sru.drive = (driving running).sru.drive := by decide

/-- A gear of 5 and of 6, and a BODY_STATUS whose door flags differ from the value held. -/
theorem witness_TransAndBodyStatusUpdateSignals :
    let f := frameOf 1 .broadcast 2 0x12 [5, 0xFE]
    let g := frameOf 1 .broadcast 3 0x20 [1, 0, 0]
    let s := sensed .doors .fresh 0 (handed g courtesy)
    HandsOn (handed f running) 0x12 f [] ∧ f.source = running.settings.srcTrans ∧ HandsOn s 0x20 g [] ∧
      g.source = s.settings.srcBody ∧ (s.signal .doors).value = some 0 ∧ (1 : Byte).toNat % 64 ≠ 0 ∧
      s.power.endPhase = .none := by
  unfold HandsOn; decide

/-- An ENGINE_STATUS from station 5, and one of five bytes. -/
theorem witness_ForeignStatusChangesNoRecord :
    let f := frameOf 1 .broadcast 5 0x10 [0, 0, 0, 0, 0, 0]
    let g := frameOf 1 .broadcast 1 0x10 [0, 0, 0, 0, 0]
    HandsOn (handed f running) 0x10 f [] ∧ f.source ≠ running.settings.srcEngine ∧
      HandsOn (handed g running) 0x10 g [] ∧ g.source = running.settings.srcEngine ∧ g.data.length ≠ 6 := by
  unfold HandsOn; decide

theorem witness_SignalAges :
    Signal.engFlags.isPeer = true ∧
      ((sensed .engFlags .fresh 1 running).signal .engFlags).timer.isSome = true ∧
      ((sensed .engFlags .invalid 1 running).signal .engFlags).state = .invalid ∧
      ((sensed .engFlags .stale 1 running).signal .engFlags).state = .stale ∧
      Signal.coolantT.isPeer = true ∧ ((driving running).sru.drive.isSome = true) ∧
      ((sensed .coolantT .fresh 70 (driving running)).signal .coolantT).timer.isSome = true := by decide

theorem chimeInv_silent : ChimeInv running := by
  refine ⟨by decide, by unfold ChimeBefore; decide, by decide, trivial⟩

/-- CHIME of class 3 with text 5 on an IDLE tone, in the spacing, and against a sounding CHIME of a larger
class number, of its own, and of its own source; a cancel. -/
theorem witness_StationChimes :
    let f := frameOf 2 .directed 5 0x30 [4, 3, 5]
    let g := frameOf 2 .directed 5 0x31 []
    let s (t : Tone) := handed f (sounds t [] running)
    ChimeInv (s .silent) ∧ ChimeInv (s .idle) ∧ HandsOn (s .idle) 0x30 f [] ∧
      Pattern.ofNat? (4 : Byte).toNat = some .chime ∧ (3 : Byte).toNat ≤ 3 ∧ running.awake = true ∧
      running.power.endPhase = .none ∧
      (chime (.station 3) .chime 3).source ≠ (chime (.station 5) .chime 2).source ∧
      (5 : Byte).toNat ≤ 5 ∧ 6 ≤ (6 : Byte).toNat ∧ HandsOn (handed g running) 0x31 g [] := by
  refine ⟨chimeInv_silent, ⟨by decide, by unfold ChimeBefore; decide, by decide, rfl⟩, ?_⟩
  unfold HandsOn; decide

/-- A full chime queue: a request of class 1 from station 5, six of class 2, and the youngest of class 3. -/
def fullChimes : List ChimeRequest :=
  [chime (.station 5) .chime 1, chime (.station 6) .chime 2, chime (.station 7) .chime 2,
   chime (.station 8) .chime 2, chime (.station 9) .chime 2, chime (.station 10) .chime 2,
   chime (.station 11) .chime 2, chime (.station 12) .alarm 3]

/-- The full queue behind a sounding pattern of station 3. -/
def fullTone (p : Pattern) : State := sounds (.sounding (chime (.station 3) p 1)) fullChimes running

/-- A request of a waiting source, one that a full queue takes in place of its youngest of class 3, and one that it
drops; a continuous and a one-shot pattern preempted. -/
theorem witness_StationChimes_full :
    ChimeInv (fullTone .alarm) ∧ (fullTone .alarm).wnu.chimes.length = 8 ∧
      (∃ q ∈ fullChimes, q.source = (chime (.station 5) .tick 2).source) ∧
      (∀ q ∈ fullChimes, q.source ≠ (chime (.station 4) .chime 2).source) ∧
      (∃ q ∈ fullChimes, (chime (.station 4) .chime 2).cls < q.cls) ∧
      (∀ q ∈ fullChimes, q.cls ≤ (chime (.station 4) .chime 3).cls) ∧
      (chime (.warning .oilPressure) .gong3 0).cls < (chime (.station 3) .alarm 1).cls ∧
      Pattern.alarm.continuous = true ∧ Pattern.tick.continuous = false :=
  ⟨⟨by decide, by unfold ChimeBefore fullTone fullChimes; decide, by decide,
      by show ∀ q ∈ fullChimes, _; decide⟩, by decide⟩

/-- Over a full queue a class 2 request takes the place of the class 3 one, a class 3 request is dropped, and a
station's second request keeps the time of entry of its first (R135, R136). -/
theorem test_full_chime_queue :
    let give (r : ChimeRequest) : List ChimeSource × Bool :=
      let x := (fullTone .alarm).wnu.giveChime r
      (x.1.chimes.map (·.source), x.2)
    (give { chime (.station 4) .chime 2 with entered := 9 }).1
        = (fullChimes.take 7).map (·.source) ++ [.station 4] ∧
      give (chime (.station 4) .chime 3) = (fullChimes.map (·.source), false) ∧
      ((fullTone .alarm).wnu.giveChime
          { chime (.station 5) .tick 2 with entered := 9 }).1.chimes.all (·.entered = 0) = true := by
  decide

/-- A request of two bytes, one of pattern 8, one of class 4, one in COURTESY after its end, and a cancel with
data. -/
theorem witness_StationChimes_discarded :
    let f (d : List Byte) := frameOf 2 .directed 5 0x30 d
    let g := frameOf 2 .directed 5 0x31 [0]
    let late := courtesy.setPower { courtesy.power with endPhase := .saving }
    (f [4, 3]).data.length ≠ 3 ∧ 7 < (byteAt (f [8, 3, 0]).data 0).toNat ∧
      3 < (byteAt (f [4, 4, 0]).data 1).toNat ∧ late.power.endPhase ≠ .none ∧
      (inState .starting).awake = false ∧ g.data ≠ [] ∧
      HandsOn (handed (f [4, 3]) running) 0x30 (f [4, 3]) [] ∧ HandsOn (handed g running) 0x31 g [] := by
  unfold HandsOn; decide

/-- The echo wait with a base, its echo at the tolerance and 1 m above it, and an echo out of the wait. -/
theorem witness_ResolutionSetsTheOdometer :
    let f := frameOf 2 .broadcast 3 0x22 [0, 0, 0xCF, 0x08]
    let g := frameOf 2 .broadcast 3 0x22 [0, 0, 0xCF, 0x09]
    CommitInv (handed f echoing) ∧ (handed f echoing).odo.echoWait.isSome = true ∧
      HandsOn (handed f echoing) 0x22 f [] ∧ HandsOn (handed g echoing) 0x22 g [] ∧
      f.source = echoing.settings.srcBody ∧ f.data.length = 4 ∧
      ¬(50000 + 1000 * 2 + 1000 < beNat f.data) ∧ 50000 + 1000 * 2 + 1000 < beNat g.data ∧
      HandsOn (handed f running) 0x22 f [] ∧ running.odo.echoWait = none := by
  unfold CommitInv JobHolds HandsOn; decide

/-- A COLD start with a trip that awaits its reset and a WARM one with a trip that the base contradicts and one
at its distance, a held RESET SERVICE in a drive, an item that awaits its reset, no base, a base that calls for
a commit, and the COURTESY that has offered nothing. -/
theorem witness_ResolutionSetsTheOdometer_effects :
    let warm := echoing.setPower { echoing.power with kind := .warm }
    let trip (start : Nat) : TripRecord :=
      { running.trc.tripA with startOdometer := start, distance := 1000, awaiting := false }
    let held :=
      echoing.setSru
        { echoing.sru with
          heldReset := some .engineOil, drive := some { baseline := 0, carried := 0, warm := false } }
    let late := courtesy.setOdo { courtesy.odo with echoWait := some 2000, base := none }
    CommitInv warm ∧ CommitInv late ∧ echoing.power.kind = .cold ∧ (echoing.trc.trip .a).awaiting = true ∧
      warm.power.kind ≠ .cold ∧ 50000 - (trip 49001).startOdometer < (trip 49001).distance ∧
      (trip 49000).startOdometer + (trip 49000).distance ≤ 50000 ∧
      held.sru.heldReset = some .engineOil ∧ held.sru.drive.isSome = true ∧
      ((echoing.setItem .inspection
        { echoing.item .inspection with awaiting := true }).item .inspection).awaiting = true ∧
      (echoing.item .engineOil).awaiting = false ∧ echoing.power.state = .run ∧ late.odo.base = none ∧
      late.odo.echoWait.isSome = true ∧ late.power.state = .courtesy ∧
      late.odo.courtesyOffered = false ∧ RoomFor late 0x60 ∧
      (echoing.setOdo { echoing.odo with baseCommit := true }).odo.baseCommit = true ∧
      echoing.odo.baseCommit = false ∧ echoing.odo.pending < 1000 * echoing.settings.commitKm ∧
      (echoing.wnu.record .odoRestored).state = .inactive ∧ AsMade echoing := by
  unfold CommitInv JobHolds RoomFor; decide

/-- The smallest and a default PPK, at the largest residue; the metre that closes a segment and the one before
it, with a full window. -/
theorem witness_PulsesCountDistance :
    let s := running.setInput { running.input with residue := 3999 }
    s.awake = true ∧ 1000 ≤ s.settings.ppk ∧ s.input.residue < s.settings.ppk ∧
      s.trc.openMetres < 2000 ∧ s.odo.pending + (3999 + 1000 * 8) / 4000 ≤ 4294967295 ∧
      TripOk s.trc.tripA ∧ TripOk s.trc.tripB ∧ TripOk s.trc.journey ∧
      (s.setTrc { s.trc with window := List.replicate 16 25, openMetres := 1999 }).trc.window.length ≤ 16 ∧
      1 ≤ (1999 + (3999 + 1000 * 1) / 4000) / 2000 ∧ (1998 + (3999 + 1000 * 1) / 4000) / 2000 = 0 := by
  unfold TripOk; decide

/-- The metre at the commit interval, short of it, and one in each other commit state. -/
theorem witness_MetreStartsCommit :
    let s (pending : Nat) (c : CommitState) (resolved : Bool) : State :=
      (running.setInput { running.input with residue := 3000 }).setOdo
        { running.odo with pending := pending, commit := c, resolved := resolved, retryPoint := 2000 }
    (s 1999 .clear true).awake = true ∧
      (s 1999 .clear true).settings.ppk ≤ (s 1999 .clear true).input.residue + 1000 ∧
      1000 * (s 1999 .clear true).settings.commitKm ≤ 1999 + 1 ∧
      1998 + 1 < 1000 * (s 1998 .clear true).settings.commitKm ∧
      (s 1999 .deferred true).odo.retryPoint ≤ (after (.speedPulse 0) (s 1999 .deferred true)).odo.total ∧
      (after (.speedPulse 0) (s 1998 .deferred true)).odo.total < (s 1998 .deferred true).odo.retryPoint ∧
      (s 0 .writing true).odo.commit = .writing ∧
      ((s 0 .waiting true).setStc
        { running.stc with waitOdometer := some ⟨0, false⟩ }).stc.waitOdometer = some ⟨0, false⟩ := by
  decide

/-- Two edges 1 µs apart, one edge and none, and an hour's last edge 875 ms before the gate opened. -/
theorem witness_SpeedAndVoltageAreWritten :
    let s (g : SpeedGate) : State := running.setInput { running.input with gate := g }
    let g : SpeedGate := ⟨true, 2, 5, 6, some 874999, some 148⟩
    (s g).awake = true ∧ (s g).input.gate.isOpen = true ∧ 1000 ≤ (s g).settings.ppk ∧ 2 ≤ g.edges ∧
      g.firstUs < g.lastUs ∧ (s { g with edges := 0 }).input.gate.computed = some 148 ∧
      874999 + 125000 < 1000000 ∧ ¬(875000 + 125000 < 1000000) ∧
      (s { g with edges := 1, computed := none }).input.gate.edges ≤ 1 ∧ running.powered = true := by
  decide

/-- Readings of 7, 8, 247 and 248, the fourth and fifth bad one, the fifteenth and sixteenth good reading of an
averaging, and a level 5 dl and 4 dl from the held range's. -/
theorem witness_FuelSamples :
    let s (f : FuelInput) : State := running.setInput { running.input with fuel := f }
    (s ⟨4, none, false, 0, 0⟩).powered = true ∧ (s ⟨4, none, false, 0, 0⟩).power.configured = true ∧
      (7 : Byte).toNat < 8 ∧ 247 < (248 : Byte).toNat ∧ 8 ≤ (8 : Byte).toNat ∧ (247 : Byte).toNat ≤ 247 ∧
      (s ⟨0, some 28992, false, 0, 0⟩).input.fuel.f64 = some 28992 ∧
      (s ⟨0, none, true, 14, 0⟩).input.fuel.good ≤ 14 ∧ (s ⟨0, none, true, 15, 0⟩).input.fuel.good = 15 ∧
      (448 + 32) / 64 + running.settings.refuel ≤ 57 ∧ 56 < (448 + 32) / 64 + running.settings.refuel ∧
      (s ⟨4, none, false, 0, 0⟩).input.fuel.bad = 4 ∧ (s ⟨3, none, false, 0, 0⟩).input.fuel.bad ≤ 3 ∧
      (let r := sensed .fuelLevel .fresh 200
         (running.setTrc { running.trc with range := some ⟨1, .default, 200⟩ })
       r.trc.range = some ⟨1, .default, 200⟩ ∧ 200 + 5 ≤ (64 * 205 + 32) / 64 ∧
         ¬(200 + 5 ≤ (64 * 204 + 32) / 64 ∨ (64 * 204 + 32) / 64 + 5 ≤ 200) ∧
         (r.signal .fuelLevel).state ≠ .never ∧ (r.signal .fuelLevel).state ≠ .invalid) := by
  decide

/-- The default sender table falls steadily: readings at a point, between two, and beyond each end. -/
theorem witness_FuelSamples_table :
    let t := running.settings.sender
    senderMonotonic t = true ∧ (36, 200) ∈ t ∧ (232, 0) ∈ t ∧
      (8 < 36 ∧ ∀ q ∈ t, 36 ≤ q.1) ∧ (232 < 247 ∧ ∀ q ∈ t, q.1 ≤ 232) ∧
      t = [] ++ (232, 0) :: (204, 25) :: t.drop 2 ∧ (204 < 218 ∧ 218 < 232) := by decide

/-- The samples of a line complete nothing but at the last of them: a run one short of the length. -/
theorem noneCompletes_replicate (f : SwitchFilter) (n k : Nat) (l m : Level) (h : f.last = some m)
    (hm : m ≠ l) (hk : k < n) (h1 : 1 < n) : NoneCompletes f n (List.replicate k l) := by
  have hrun : ∀ j, j < n → j ≠ 0 →
      (f.after n (List.replicate j l)).last = some l ∧ (f.after n (List.replicate j l)).run = j := by
    intro j
    induction j with
    | zero => simp
    | succ j ih =>
      intro hj _
      rw [List.replicate_succ', SwitchFilter.after, List.foldl_append]
      change ((f.after n (List.replicate j l)).sampled n l).last = some l ∧
        ((f.after n (List.replicate j l)).sampled n l).run = j + 1
      by_cases h0 : j = 0
      · subst h0
        have e : f.after n (List.replicate 0 l) = f := rfl
        rw [e]
        unfold SwitchFilter.sampled
        split <;> simp [SwitchFilter.counted, h, hm]
      · obtain ⟨a, b⟩ := ih (by omega) h0
        simp [SwitchFilter.sampled, SwitchFilter.completes, SwitchFilter.counted, a, b]
        split <;> simp <;> omega
  intro p x q e
  have hx : x = l := List.eq_of_mem_replicate (e ▸ (by simp) : x ∈ List.replicate k l)
  have hp : p = List.replicate p.length l := List.eq_replicate_iff.mpr
    ⟨rfl, fun y hy => List.eq_of_mem_replicate (e ▸ (by simp [hy]) : y ∈ List.replicate k l)⟩
  have hl : p.length < k := by
    have := congrArg List.length e
    simp at this
    omega
  subst hx
  by_cases h0 : p.length = 0
  · have : p = [] := List.eq_nil_of_length_eq_zero h0
    subst this
    simp [SwitchFilter.completes, SwitchFilter.counted, SwitchFilter.after, h, hm]
    omega
  · rw [hp]
    obtain ⟨a, b⟩ := hrun p.length (by omega) h0
    simp [SwitchFilter.completes, SwitchFilter.counted, a, b]
    omega

/-- Every line settled INACTIVE. -/
def settled (s : State) : State :=
  s.setInput
    { s.input with
      filters :=
        Vector.replicate 5 { level := .inactive, last := some .inactive, run := 8, completed := true } }

/-- Eight ACTIVE samples complete the headlamp's settled filter at the eighth, and seven complete nothing; a
first sample and one short of the length, and one at it. -/
theorem witness_SwitchCompletionReachesReader :
    SwitchLine.headlamp ≠ .ignition ∧ (settled courtesy).powered = true ∧
      NoneCompletes ((settled courtesy).filter .headlamp) 8 (List.replicate 7 .active) ∧
      LastCompletes ((settled courtesy).filter .headlamp) 8 (List.replicate 8 .active) .active ∧
      LastCompletes ((settled courtesy).filter .driverDoor) 4 (List.replicate 4 .active) .active ∧
      ((settled courtesy).filter .headlamp).level ≠ .active ∧ AsMade (settled courtesy) ∧
      min 8 (7 + 1) = 8 ∧ min 8 (6 + 1) ≠ 8 :=
  ⟨by decide, by decide, noneCompletes_replicate _ _ _ _ .inactive (by decide) (by decide) (by decide) (by decide),
    ⟨List.replicate 7 .active, by decide,
      noneCompletes_replicate _ _ _ _ .inactive (by decide) (by decide) (by decide) (by decide), by decide⟩,
    ⟨List.replicate 3 .active, by decide,
      noneCompletes_replicate _ _ _ _ .inactive (by decide) (by decide) (by decide) (by decide), by decide⟩,
    by decide, by decide, by decide, by decide⟩

/-- The driver door's filter that has not completed since it started anew, at the level it had: no edge; and a
door that opens in the end phases. -/
theorem witness_SwitchCompletionReachesReader_noEdge :
    let f : SwitchFilter := { level := .active, last := some .inactive, run := 1, completed := false }
    let s :=
      (settled courtesy).setInput
        { courtesy.input with filters := courtesy.input.filters.set SwitchLine.driverDoor.ix f }
    LastCompletes (s.filter .driverDoor) 4 (List.replicate 4 .active) .active ∧
      ¬(s.filter .driverDoor).level ≠ .active ∧ s.powered = true ∧ courtesy.power.endPhase = .none ∧
      (courtesy.setPower { courtesy.power with endPhase := .saving }).power.state = .courtesy :=
  ⟨⟨List.replicate 3 .active, by decide,
      noneCompletes_replicate _ _ _ _ .inactive (by decide) (by decide) (by decide) (by decide), by decide⟩,
    by decide⟩

/-- A state with the ignition's filtered level. -/
def ignition (l : Level) (s : State) : State :=
  s.setInput
    { s.input with
      filters :=
        s.input.filters.set SwitchLine.ignition.ix { level := l, last := some l, run := 8, completed := true } }

/-- A part with an ignition filter of 8 samples, settled at a level. -/
def keyed (l : Level) (s : State) : State :=
  ignition l (s.setInput { s.input with ignLength := 8 })

/-- The ignition goes off in RUN and on in COURTESY; the journey gap to the second and one short of it. -/
theorem witness_IgnitionMovesRunAndCourtesy :
    let r := keyed .active running
    let c := keyed .inactive courtesy
    let gap := 60 * (running.settings.journeyGap : Int)
    r.power.state = .run ∧ (r.filter .ignition).level = .active ∧
      LastCompletes (r.filter .ignition) r.input.ignLength (List.replicate 8 .inactive) .inactive ∧
      c.power.state = .courtesy ∧ (c.filter .ignition).level = .inactive ∧
      LastCompletes (c.filter .ignition) c.input.ignLength (List.replicate 8 .active) .active ∧
      RoomFor running 0x60 ∧ gap ≤ ((1 : Int) - 0) * 86400 + (7200 - 86400) ∧
      ¬gap ≤ ((1 : Int) - 0) * 86400 + (7199 - 86400) ∧ running.settings.journeyGap = 120 :=
  ⟨by decide, by decide,
    ⟨List.replicate 7 .inactive, by decide,
      noneCompletes_replicate _ _ _ _ .active (by decide) (by decide) (by decide) (by decide), by decide⟩,
    by decide, by decide,
    ⟨List.replicate 7 .active, by decide,
      noneCompletes_replicate _ _ _ _ .inactive (by decide) (by decide) (by decide) (by decide), by decide⟩,
    ⟨by decide, by decide⟩, by decide, by decide, by decide⟩

/-- A park withdrawn with a PARKING and a PARKED gauge, the journey rule due at an invalid clock and at a stamp
later than the time, a drive open and none, and the odometer resolved and not. -/
theorem witness_IgnitionMovesRunAndCourtesy_entry :
    let g : Gauge := { base.gauge .oil with state := .parked }
    let c :=
      (courtesy.setGdu
        { gauges := (Vector.replicate 6 g).set 4 { g with state := .parking, position := 9 }
          parkInForce := true }).setTrc { courtesy.trc with journeyRuleDue := true }
    c.gdu.parkInForce = true ∧ courtesy.gdu.parkInForce = false ∧ (c.gauge .oil).state = .parking ∧
      (c.gauge .fuel).state = .parked ∧ c.trc.journeyRuleDue = true ∧ c.clock.valid = false ∧
      courtesy.trc.journeyRuleDue = false ∧ c.sru.drive = none ∧
      (c.setSru
        { c.sru with drive := some { baseline := 0, carried := 0, warm := true } }).sru.drive.isSome
          = true ∧
      c.odo.resolved = false ∧ (c.setOdo { c.odo with resolved := true }).odo.resolved = true ∧
      c.msc.lampTest = .notRun ∧
      ((0 : Int) - 0) * 86400 + (0 - 1) < 0 := by decide

/-- A part in STARTING with step 4 done, whose ignition filter completes at each level. -/
def startDone : State :=
  let s := keyed .inactive base
  let f : SwitchFilter := { level := .inactive, last := some .inactive, run := 1, completed := false }
  (s.setPower { s.power with step := .done, configured := true }).setInput
    { s.input with filters := s.input.filters.set SwitchLine.ignition.ix f }

theorem witness_IgnitionMovesRunAndCourtesy_starting :
    startDone.power.state = .starting ∧ startDone.power.step = .done ∧
      LastCompletes (startDone.filter .ignition) startDone.input.ignLength (List.replicate 8 .active)
        .active ∧
      (startDone.filter .ignition).level = .inactive ∧ startDone.msc.lampTest = .notRun ∧
      startDone.gdu.parkInForce = false ∧ startDone.link.tx = .idle ∧
      startDone.settings.sweepEnable = true ∧ (1 : BitVec 6).getLsbD GaugeId.speed.ix.val = true ∧
      (1 : BitVec 6).getLsbD GaugeId.tacho.ix.val = false :=
  ⟨by decide, by decide,
    ⟨List.replicate 7 .active, by decide,
      noneCompletes_replicate _ _ _ _ .inactive (by decide) (by decide) (by decide) (by decide), by decide⟩,
    by decide⟩

/-- A sleeping part whose door opens, and one whose ignition is switched on. -/
theorem witness_WakeStartsFromSleep :
    let s := keyed .inactive (settled (inState .sleep))
    s.power.state = .sleep ∧
      LastCompletes (s.filter .driverDoor) 4 (List.replicate 4 .active) .active ∧
      (s.filter .driverDoor).level ≠ .active ∧
      LastCompletes (s.filter .ignition) s.input.ignLength (List.replicate 8 .active) .active ∧
      (s.filter .ignition).level ≠ .active :=
  ⟨by decide,
    ⟨List.replicate 3 .active, by decide,
      noneCompletes_replicate _ _ _ _ .inactive (by decide) (by decide) (by decide) (by decide), by decide⟩,
    by decide,
    ⟨List.replicate 7 .active, by decide,
      noneCompletes_replicate _ _ _ _ .inactive (by decide) (by decide) (by decide) (by decide), by decide⟩,
    by decide⟩

/-- A state with a button's debouncer. -/
def buttonAt (b : Button) (d : Debouncer) (s : State) : State :=
  s.setInput { s.input with buttons := s.input.buttons.set b.ix d }

/-- A debouncer at a position with its last sample and run. -/
def bouncing (c last : Contact) (run : Nat) : Debouncer :=
  { position := c, last := some last, run := run, hold := some 2000, holdGiven := false, locked := false }

/-- Three DOWN samples and a fourth that changes the position, from UP and from DOWN back; the third changes
nothing; no sample taken yet; and each timer running. -/
theorem witness_ButtonsGiveEvents :
    let s := buttonAt .set (bouncing .up .down 3) running
    let u := buttonAt .set (bouncing .down .up 3) running
    running.powered = true ∧ (running.button .set).last = none ∧
      NoneChanges (s.button .set) [] ∧ (((s.button .set).after []).changes .down = true) ∧
      (((u.button .set).after []).changes .up = true) ∧
      (bouncing .up .down 2).changes .down = false ∧
      (u.button .set).hold.isSome = true ∧
      (running.setInput { running.input with longTimer := some 10000 }).input.longTimer.isSome = true :=
  ⟨by decide, by decide, fun p c q h => by simp at h, by decide, by decide, by decide, by decide,
    by decide⟩

/-- A state in clock-set mode at 23:59. -/
def clockSetting : State := running.setMsc { running.msc with clockSet := some (23, 59) }

/-- A run of samples and one of none, and a full queue whose OVERRUN has been read and has not. -/
theorem witness_ButtonsGiveEvents_overrun :
    let full (o : OverrunFlag) : State :=
      buttonAt .set (bouncing .up .down 3)
        (running.setInput
          { running.input with events := List.replicate 7 (.press .mode), overrun := o })
    [Contact.up] ≠ [] ∧ NoneChanges (running.button .set) [.up] ∧
      ¬(full .clear).input.events.length < 7 ∧
      (after (.buttonPositionChange .set [.down]) (full .clear)).input.overrun = .raised ∧
      (after (.buttonPositionChange .set [.down]) (full .clearRead)).input.overrun = .raisedAfterRead ∧
      (after (.buttonPositionChange .mode []) (full .clear)).input.overrun = .clearRead := by
  refine ⟨by decide, fun p c q h => ?_, by decide⟩
  match p, h with
  | [], h => cases h; decide
  | _ :: p', h => simp at h

/-- A drop before the taking's reading gives the notice with the event taken; one after it with the next. -/
theorem test_overrun_notice :
    let s (o : OverrunFlag) : State :=
      let u := clockSetting
      (pressed (.hold .mode) u).setInput { (pressed (.hold .mode) u).input with overrun := o }
    let t (o : OverrunFlag) : State := after .ignoredButtonEvent (s o)
    (t .raised).msc.clockSet = none ∧ (t .raised).input.overrun = .clear ∧
      (t .raisedAfterRead).msc.clockSet = some (23, 59) ∧
      (t .raisedAfterRead).input.overrun = .raised ∧ (t .clearRead).input.overrun = .clear := by decide

/-- The item display with the mark and without it, a warning on show, and clock-set mode on show; an overrun notice
takes clock-set mode off it. -/
theorem witness_ItemDisplayButtons :
    let marked := running.setMsc { running.msc with mark := true }
    let w := warned .belt (recordIn .active none none none none) [.belt] running
    running.power.state = .run ∧ running.noticed.shown = .item ∧
      (pressed (.press .mode) running).input.events = [.press .mode] ∧
      (marked.noticed.shown = .item ∧ marked.noticed.msc.mark = true) ∧
      running.noticed.msc.mark = false ∧ w.noticed.shown = .warning .belt ∧
      clockSetting.noticed.shown ≠ .item ∧
      (clockSetting.setInput { clockSetting.input with overrun := .raised }).noticed.shown = .item := by
  decide

/-- A state in a review that shows NO WARNINGS. -/
def reviewing : State := running.setMsc { running.msc with review := some [], reviewTimer := some 2000 }

theorem witness_ClockSetAndReviewButtons :
    clockSetting.power.state = .run ∧
      (pressed (.press .set) clockSetting).noticed.shown = .clockSet 23 59 ∧
      (pressed (.press .set) reviewing).noticed.shown = .review [] ∧
      (pressed (.press .set) reviewing).input.events = [.press .set] := by decide

/-- A clock that is not valid, an item that counts days without a due day and one with it, and a valid clock. -/
theorem witness_ClockSetAndReviewButtons_clock :
    let s := clockSetting.setSru resolvedRun.sru
    let due := s.setItem .inspection { s.item .inspection with record := ⟨0, some 9, 0⟩ }
    s.clock.valid = false ∧ s.powered = true ∧ RoomFor s 0x61 ∧
      ((s.item .engineOil).awaiting = false ∧
        0 < s.settings.dayIntervals[ServiceItem.engineOil.ix] ∧
        (s.item .engineOil).record.dueDay = none) ∧
      (due.item .inspection).record.dueDay = some 9 ∧
      (s.setClock { s.clock with valid := true }).clock.valid = true ∧
      s.shown = .clockSet 23 59 := by
  unfold RoomFor; decide

/-- A trip item with CHECK up, the RANGE item, CHECK down, and another display on show. -/
theorem witness_ResetHoldResetsTrip :
    let s := pressed (.hold .reset) running
    s.power.state = .run ∧ s.input.events = [.hold .reset] ∧ TripResetOnShow s.noticed ∧
      ¬TripResetOnShow (s.setMsc { s.msc with item := .range }).noticed ∧
      ¬TripResetOnShow (s.setMsc { s.msc with downSet := [.check] }).noticed ∧
      ¬TripResetOnShow reviewing.noticed := by
  unfold TripResetOnShow; decide

theorem warningInv_active :
    WarningInv (warned .serviceDue (recordIn .active none none none (some 8000)) [.serviceDue] running) := by
  refine ⟨by decide, fun n => ?_, fun _ => ⟨by decide, fun n => ?_⟩⟩ <;>
    cases n <;> (first | (unfold RecordOk; decide) | (unfold ClassOk; decide))

theorem warningInv_advisory :
    WarningInv
      (warned .bulbOut (recordIn .clearing (some 2000) (some 4000) none none) [.bulbOut] running) := by
  refine ⟨by decide, fun n => ?_, fun _ => ⟨by decide, fun n => ?_⟩⟩ <;>
    cases n <;> (first | (unfold RecordOk; decide) | (unfold ClassOk; decide))

/-- An ACTIVE warning with its display timer, and one in CLEARING with its 4 s running. -/
theorem witness_AcknowledgementTakesWarning :
    let s := warned .serviceDue (recordIn .active none none none (some 8000)) [.serviceDue] running
    let u := warned .bulbOut (recordIn .clearing (some 2000) (some 4000) none none) [.bulbOut] running
    WarningInv s ∧ WarningInv u ∧ (s.wnu.record .serviceDue).unacknowledged = true ∧
      (pressed (.press .check) s).wnu.headUnacknowledged = some .serviceDue ∧ s.awake = true ∧
      (s.wnu.record .serviceDue).display.isSome = true ∧
      (u.wnu.record .bulbOut).unacknowledged = true ∧ (u.wnu.record .bulbOut).autoAck.isSome = true :=
  ⟨warningInv_active, warningInv_advisory, by decide⟩

theorem witness_DisplayTimersEnd :
    let s := pressed (.hold .check) running
    s.power.state = .run ∧ s.noticed.shown = .item ∧ Button.reset ∉ s.noticed.msc.downSet ∧
      clockSetting.noticed.shown = .clockSet 23 59 ∧
      Button.reset ∈ (s.setMsc { s.msc with downSet := [.reset] }).noticed.msc.downSet ∧
      reviewing.msc.review = some [] ∧ reviewing.msc.reviewTimer.isSome = true ∧
      (running.setMsc { running.msc with peerTimer := some 5000 }).msc.peerTimer.isSome = true ∧
      (running.setMsc { running.msc with lampTest := .running }).msc.lampTest = .running ∧
      running.msc.sending = true ∧ running.msc.lampTest ≠ .running ∧
      (inState .starting).powered = true ∧ running.power.endPhase = .none ∧
      running.wnu.list.find? (fun n => (running.wnu.record n).unacknowledged) = none ∧
      running.msc.peerText = none ∧ running.msc.review = none ∧ running.msc.clockSet = none ∧
      (running.msc.item = .distance ∧ running.settings.imperial = false) ∧
      (running.trc.trip running.msc.trip).distance ≤ 9999999 := by decide

/-- A warning at the head, one in a review's copy that has left the list, a peer text, a review and the clock-set
mode on the record, each item, and a part before its configuration step. -/
theorem witness_DisplayTimersEnd_record :
    let v := warned .belt (recordIn .active none none none none) [.belt] running
    let early := (inState .starting).setPower { (inState .starting).power with configured := false }
    let peer := running.setMsc { running.msc with peerText := some { text := 1, station := 5 } }
    let item (i : Item) : State := running.setMsc { running.msc with item := i }
    v.wnu.list.find? (fun n => (v.wnu.record n).unacknowledged) = some .belt ∧
      ([Warning.charge, .fuelReserve, .belt].tail = [.fuelReserve] ++ .belt :: [] ∧
        Warning.fuelReserve ∉ v.wnu.list ∧ Warning.belt ∈ v.wnu.list) ∧
      (early.power.state = .starting ∧ early.power.configured = false) ∧
      peer.msc.peerText = some { text := 1, station := 5 } ∧
      (running.setMsc { running.msc with review := some [.belt] }).msc.review = some [.belt] ∧
      reviewing.msc.review = some [] ∧ clockSetting.msc.clockSet = some (23, 59) ∧
      (item .average).msc.item = .average ∧ (item .time).msc.item = .time ∧
      (item .range).msc.item = .range ∧ (item .clock).msc.item = .clock ∧
      (inState .sleep).powered = false ∧
      (running.setMsc { running.msc with lampTest := .running }).msc.lampTest = .running ∧
      (10 ^ 20 - 1 < 10 ^ 20) := by decide

/-- The part in IMPERIAL, each of the eight items, and the trip figures at their limits: 59 and 60 s, 999 and
1,000 q, 999 and 1,000 m; an INSTANT consumption, flow and none; a range held and none. -/
theorem witness_DisplayTimersEnd_items :
    let item (i : Item) : State := resolvedRun.setMsc { resolvedRun.msc with item := i }
    let metric := item .speed
    let imperial := metric.setSettings { metric.settings with imperial := true }
    let at' (d f t : Nat) : State :=
      metric.setTrc
        { metric.trc with tripA := { metric.trc.tripA with distance := d, fuel := f, run := t } }
    let told (i : Option InstantFigure) : State := metric.setTrc { metric.trc with instant := i }
    (item .speed).msc.item = .speed ∧ (item .fuel).msc.item = .fuel ∧
      (item .instant).msc.item = .instant ∧ imperial.settings.imperial = true ∧
      metric.settings.imperial = false ∧ metric.odo.resolved = true ∧
      (metric.trc.trip metric.msc.trip).awaiting = false ∧ (at' 999 999 59).trc.tripA.run < 60 ∧
      ¬(at' 1000 1000 60).trc.tripA.run < 60 ∧ (at' 999 999 59).trc.tripA.fuel < 1000 ∧
      (at' 999 999 59).trc.tripA.distance < 1000 ∧ ¬(at' 1000 1000 60).trc.tripA.distance < 1000 ∧
      (told (some (.consumption 999))).trc.instant = some (.consumption 999) ∧
      (told (some (.flow 0))).trc.instant = some (.flow 0) ∧ (told none).trc.instant = none ∧
      metric.trc.range = none ∧ metric.wnu.list = [] ∧ metric.msc.clockSet = none ∧
      metric.msc.review = none ∧ metric.msc.peerText = none := by decide

/-- Over 36 km in 2,700 s the item display shows a SPEED of 48.0 km/h, and 29.8 mph in IMPERIAL. -/
theorem test_speed_item :
    let u := resolvedRun.setMsc { resolvedRun.msc with item := .speed }
    let s :=
      u.setTrc { u.trc with tripA := { u.trc.tripA with distance := 36000, run := 2700 } }
    (compose s).text = "A   48.0KH    50".toList ∧
      (compose (s.setSettings { s.settings with imperial := true })).text
        = "A   29.8MH    31".toList := by decide

theorem witness_LongRestartsThePanel :
    (pressed .long courtesy).awake = true ∧ (pressed .long courtesy).input.events = .long :: [] := by decide

/-- A warning on show over MODE PRESS, an event in STARTING and one in COURTESY; a SET HOLD without the mark, a RESET
HOLD and a CHECK HOLD in clock-set mode, a RESET PRESS on the item display; and a CHECK PRESS with no warning. -/
theorem witness_EventsWithoutActionAreDiscarded :
    let s := warned .belt (recordIn .active none none none none) [.belt] (pressed (.press .mode) running)
    s.power.state = .run ∧ s.noticed.shown = .warning .belt ∧ (inState .starting).power.state = .starting ∧
      (pressed (.hold .check) courtesy).input.events = .hold .check :: [] ∧
      (ButtonEvent.hold .check ≠ .press .check ∧ ButtonEvent.hold .check ≠ .long) ∧
      NoAction (.hold .check) courtesy.noticed ∧ NoAction .long (inState .starting).noticed ∧
      NoAction (.hold .set) running.noticed ∧ NoAction (.press .reset) running.noticed ∧
      NoAction (.hold .reset) clockSetting.noticed ∧ NoAction (.hold .check) clockSetting.noticed ∧
      NoAction (.press .mode) s.noticed ∧ running.wnu.list = [] ∧ running.awake = true ∧
      courtesy.input.overrun ≠ .raised ∧
      (courtesy.setInput { courtesy.input with overrun := .raised }).input.overrun = .raised := by
  refine ⟨by decide, by decide, by decide, by decide, by decide, .inr (.inl (by decide)), .inl (by decide), ?_⟩
  refine ⟨.inr (.inr ⟨by decide, ?_⟩), .inr (.inr ⟨by decide, ?_⟩), .inr (.inr ⟨by decide, ?_⟩),
    .inr (.inr ⟨by decide, ?_⟩), .inr (.inr ⟨by decide, ?_⟩), by decide⟩
  · exact .inr (.inr (.inr (.inr (.inl (by decide)))))
  · exact .inr (.inr (.inr (.inl (by decide))))
  · exact .inr (.inr (.inr (.inr (.inr (.inl ⟨rfl, fun h => absurd h.1 (by decide)⟩)))))
  · exact .inr (.inr (.inr (.inr (.inr (.inr ⟨rfl, .inl ⟨23, 59, by decide⟩⟩)))))
  · exact .inr (.inr (.inl ⟨by decide, .inl ⟨.belt, by decide⟩⟩))

/-- A discarded SET RELEASE clears the mark and leaves the down-set in COURTESY, and changes neither in STARTING (R172). -/
theorem test_discarded_set_release :
    let s (p : Power) : State :=
      pressed (.release .set)
        ((inState p).setMsc { base.msc with mark := true, downSet := [.set, .mode] })
    let t (p : Power) : MessageCentre := (after .ignoredButtonEvent (s p)).msc
    (t .courtesy).mark = false ∧ (t .courtesy).downSet = [.mode] ∧ (t .starting).mark = true ∧
      (t .starting).downSet = [.set, .mode] := by decide

/-- A state with a gauge in a state, motion, position and target. -/
def gaugeAt (g : GaugeId) (r : Gauge) (s : State) : State := s.setGauge g r

/-- A gauge record at rest. -/
def atRest (state : GaugeState) (position target : Nat) : Gauge :=
  { base.gauge .oil with state := state, position := position, target := target }

/-- A park in force. -/
def parkOrdered : State := running.setGdu { running.gdu with parkInForce := true }

/-- The OIL gauge of a state. -/
def oil (r : Gauge) : Gauge := (gaugeAt .oil r running).gauge .oil

/-- A homing gauge at a step of an attempt. -/
def homing (attempt steps : Nat) (lift : Option Nat) : Gauge :=
  { atRest .homing 360 2 with attempt := attempt, steps := steps, lift := lift }

/-- A homing gauge: short of span + 32 steps, at them in attempts 2 and 3, and at lift steps 62 and 63,
with each mark and a park in force. -/
theorem witness_HomingFindsZero :
    let span := running.span .oil
    running.power.endPhase ≠ .parking ∧ 0 < span ∧ (oil (homing 1 390 none)).state = .homing ∧
      (oil (homing 1 390 none)).lift = none ∧ (oil (homing 1 390 none)).steps + 1 < span + 32 ∧
      span + 32 ≤ (oil (homing 2 391 none)).steps + 1 ∧ (oil (homing 2 391 none)).attempt ≤ 2 ∧
      (oil (homing 3 391 none)).attempt = 3 ∧ running.gdu.parkInForce = false ∧
      (oil (homing 1 0 none)).testMark = false ∧ (oil (homing 1 0 none)).sweepMark = false ∧
      (oil { homing 1 0 none with testMark := true }).testMark = true ∧
      parkOrdered.gdu.parkInForce = true ∧ (oil (homing 1 0 (some 62))).lift = some 62 ∧
      (oil (homing 1 0 (some 63))).lift = some 63 ∧ running.powered = true ∧
      (running.wnu.record .gaugeFault).state = .inactive := by decide

/-- A park in force while a gauge homes and another is still PARKING: at 0, at the last lift step, and at the
end of the last attempt; and a sweep mark with the ignition ACTIVE and INACTIVE. -/
theorem witness_HomingFindsZero_parking :
    let s (r : Gauge) : State :=
      (gaugeAt .fuel (atRest .parking 9 0) (gaugeAt .oil r
        (courtesy.setGdu { courtesy.gdu with parkInForce := true }))).setPower
        { courtesy.power with endPhase := .parking }
    let r := homing 1 0 none
    (s r).power.endPhase = .parking ∧ ((s r).gauge .fuel).state ≠ .parked ∧
      ((s r).gauge .fuel).state ≠ .faulted ∧ GaugeId.fuel ≠ .oil ∧ (s r).gdu.parkInForce = true ∧
      ((s r).gauge .oil).state = .homing ∧ ((s (homing 2 0 (some 63))).gauge .oil).lift = some 63 ∧
      ((s (homing 3 391 none)).gauge .oil).attempt = 3 ∧
      ((gaugeAt .oil { r with sweepMark := true } (ignition .active running)).gauge .oil).sweepMark = true ∧
      ((ignition .active running).input.filters[SwitchLine.ignition.ix]).level = .active ∧
      ((ignition .inactive running).input.filters[SwitchLine.ignition.ix]).level = .inactive ∧
      ((oil { homing 1 0 (some 63) with sweepMark := true }).sweepMark = true) ∧
      ((oil { homing 1 0 (some 63) with testMark := true }).testMark = true) ∧
      ((oil (homing 1 0 (some 63))).target ≤ running.settings.deadband) ∧
      ¬((oil { homing 1 0 (some 63) with target := 9 }).target ≤ running.settings.deadband) := by decide

/-- The contact closes at the last step of the lift with the sweep mark and the ignition ACTIVE: a sweep. -/
theorem test_lift_closes_into_sweep :
    let s := gaugeAt .oil { homing 1 0 (some 63) with sweepMark := true } (ignition .active running)
    ((after (.homingLiftStep .oil true) s).gauge .oil).state = .sweep ∧
      ((after (.homingLiftStep .oil true) s).gauge .oil).position = 0 := by decide

/-- A tracking gauge. -/
def track (position target rest : Nat) (motion : Motion) : Gauge :=
  { atRest .tracking position target with motion := motion, rest := rest }

/-- A sweeping gauge. -/
def sweep (position : Nat) (motion : Motion) (phase : SweepPhase) : Gauge :=
  { atRest .sweep position 2 with motion := motion, phase := phase }

/-- Rests at the deadband and one step beyond it, steps that reach the target, go on, reach 0 and pass
the target, each boundary of a reversal rest, and the three parts of a sweep. -/
theorem witness_MotionFollowsTarget :
    let away (r : Gauge) : Prop :=
      running.settings.deadband < (r.position - r.target) + (r.target - r.position)
    running.power.endPhase ≠ .parking ∧ 0 < running.span .oil ∧
      ¬away (oil (track 10 12 0 .atRest)) ∧ away (oil (track 10 13 0 .atRest)) ∧
      away (oil (track 13 10 0 .atRest)) ∧ (oil (track 10 13 0 .atRest)).motion = .atRest ∧
      (oil (track 1 0 0 .movingDown)).position - 1 = 0 ∧
      (oil (track 9 10 0 .movingUp)).position + 1 = (oil (track 9 10 0 .movingUp)).target ∧
      (oil (track 9 11 0 .movingUp)).position + 1 < (oil (track 9 11 0 .movingUp)).target ∧
      (oil (track 9 9 0 .movingUp)).target < (oil (track 9 9 0 .movingUp)).position + 1 ∧
      (oil (track 9 11 0 .movingDown)).position - 1 < (oil (track 9 11 0 .movingDown)).target ∧
      (oil (track 9 11 2 .reversalRest)).rest ≤ 2 ∧ (oil (track 9 11 3 .reversalRest)).rest = 3 ∧
      ¬away (oil (track 9 11 3 .reversalRest)) ∧ away (oil (track 9 12 3 .reversalRest)) ∧
      (oil (sweep 359 .movingUp .toSpan)).position + 1 = running.span .oil ∧
      (oil (sweep 360 .atRest .atSpan)).phase = .atSpan ∧
      (oil (sweep 1 .movingDown .toZero)).position = 1 ∧
      (oil (sweep 1 .movingDown .toZero)).target ≤ running.settings.deadband := by decide

/-- A sweep in its middle and turned round, at its last step with a far target, and a PARKING gauge of each
motion, at 2, at 1 and at 0. -/
theorem witness_MotionFollowsTarget_sweepAndPark :
    let park (position : Nat) (m : Motion) : Gauge := { atRest .parking position 0 with motion := m, rest := 3 }
    (oil (sweep 358 .movingUp .toSpan)).position + 1 < running.span .oil ∧
      (oil (sweep 9 .movingDown .toSpan)).motion = .movingDown ∧
      (oil { sweep 9 .reversalRest .toSpan with rest := 3 }).rest = 3 ∧
      (oil { sweep 359 .reversalRest .toSpan with rest := 3 }).position < running.span .oil ∧
      2 ≤ (oil (sweep 2 .movingDown .toZero)).position ∧
      ¬(oil { sweep 1 .movingDown .toZero with target := 3 }).target ≤ running.settings.deadband ∧
      (oil (park 1 .atRest)).state = .parking ∧ 0 < (oil (park 1 .atRest)).position ∧
      (oil (park 0 .atRest)).position = 0 ∧ 2 ≤ (oil (park 2 .movingDown)).position ∧
      (oil (park 1 .movingDown)).position = 1 ∧ (oil (park 5 .movingUp)).motion = .movingUp ∧
      (oil (park 1 .reversalRest)).rest = 3 ∧ 0 < (oil (park 1 .reversalRest)).position ∧
      (oil (park 0 .reversalRest)).position = 0 := by decide

theorem warningInv_running : WarningInv running := by
  refine ⟨by decide, fun n => ?_, fun _ => ⟨by decide, fun n => ?_⟩⟩ <;>
    cases n <;> (first | (unfold RecordOk; decide) | (unfold ClassOk; decide))

theorem witness_BroadcastTimersOffer :
    let o (resolved : Bool) : State :=
      running.setOdo { running.odo with distTimer := some 500, resolved := resolved }
    let w := warned .serviceDue (recordIn .active none none none (some 8000)) [.serviceDue] running
    running.power.state = .run ∧ (o false).odo.distTimer.isSome = true ∧ (o true).odo.resolved = true ∧
      ((sensed .vehSpeed .fresh 833 (o true)).signal .vehSpeed).state = .fresh ∧
      ((sensed .vehSpeed .fresh 833 (o true)).signal .vehSpeed).value = some 833 ∧
      ((o true).signal .vehSpeed).state ≠ .fresh ∧
      (w.setWnu { w.wnu with broadcastTimer := some 2000 }).wnu.list ≠ [] ∧ running.wnu.list = [] ∧
      (running.setTrc { running.trc with rearTimer := some 2000 }).trc.rearTimer.isSome = true ∧
      (running.link.roster[(4 : Fin 14)]).presence ≠ .present := by decide

/-- Station 5 PRESENT with a range by default consumption, with none, and with the fuel level INVALID; a class 0
warning on the list, and a fuel gap. -/
theorem witness_BroadcastTimersOffer_rear :
    let e : RosterEntry := { presence := .present, timer := some 2000 }
    let v := warned .oilPressure (recordIn .active none none none none) [.oilPressure] running
    let u := v.setLink { v.link with roster := v.link.roster.set 4 e }
    let s (r : Option HeldRange) : State :=
      u.setTrc
        { u.trc with
          rearTimer := some 2000, range := r
          journey := { u.trc.journey with distance := 123456, run := 600, fuelGap := true } }
    let far := s (some { metres := 283125, basis := .default, level := 453 })
    (far.link.roster[(4 : Fin 14)]).presence = .present ∧ far.power.state = .run ∧
      far.trc.rearTimer.isSome = true ∧ far.trc.journey.fuelGap = true ∧ Warning.oilPressure.cls = 0 ∧
      Warning.oilPressure ∈ far.wnu.list ∧ (s none).trc.range = none ∧
      ((sensed .fuelLevel .invalid 0 far).signal .fuelLevel).state = .invalid ∧
      (after .rearSummaryTimerExpiry far).link.txQueue.map (·.frame.data)
        = [[0x04, 0xD2, 0x00, 0x0A, 0x01, 0x1B, 0x07]] := by decide

/-- The last slot's unit, read back as sent and otherwise, at its first write and at its repeat; a first
and a last unit of the configuration; and what is left of the pending distance at the commit interval. -/
theorem witness_StoreUnitEnds :
    StoreInv writing ∧ CommitInv writing ∧ writing.stc.active = some ⟨.odometer 2000 false 15, 0, false⟩ ∧
      (ActiveJob.current ⟨.odometer 2000 false 15, 0, false⟩)
        = some (0xB8, slotBytes 15 2000 false) ∧
      (slotBytes 15 2000 false).length = 6 ∧ slotBytes 15 2000 false ≠ [0, 0, 0, 0, 0, 0] ∧
      writing.power.endPhase = .none ∧ writing.stc.portOpen = true ∧
      0 + 1 = (Job.odometer 2000 false 15).units.length ∧
      0 + 1 < (Job.configuration writing.rqs.staging).units.length ∧
      3 + 1 = (Job.configuration writing.rqs.staging).units.length ∧
      1000 * writing.settings.commitKm ≤ 4000 - (2000 - 0) ∧
      3999 - (2000 - 0) < 1000 * writing.settings.commitKm :=
  ⟨storeInv_writing, by unfold CommitInv JobHolds; decide, by decide⟩

/-- The last unit of a configuration job in progress, with a job of each kind waiting. -/
def crowded : State :=
  (running.setStc
    { running.stc with
      portOpen := true, writePos := 3, waitOdometer := some { value := 5, mark := false }
      waitService := [{ item := .inspection, record := ⟨5, none, 0⟩, carriesReset := false }]
      waitConfiguration := true
      active := some { job := .configuration running.rqs.staging, unit := 3, repeated := true } }).setOdo
    { running.odo with resolved := true, commit := .waiting, pending := 5 }

/-- The end of a configuration job with a job of each kind waiting, of which the odometer job begins; and a free port
with a waiting service job, with a waiting configuration job, with none, and one that is closed. -/
theorem witness_StoreUnitEnds_waiting :
    let free := crowded.setStc { crowded.stc with active := none }
    let none' := running.setStc { running.stc with portOpen := true }
    StoreInv crowded ∧ CommitInv crowded ∧ crowded.stc.portOpen = true ∧
      crowded.stc.waitOdometer = some { value := 5, mark := false } ∧
      3 + 1 = (Job.configuration running.rqs.staging).units.length ∧
      (free.stc.portOpen = true ∧ free.stc.active = none) ∧ free.stc.waitService ≠ [] ∧
      free.stc.waitConfiguration = true ∧
      (none'.stc.waitOdometer = none ∧ none'.stc.waitService = [] ∧ none'.stc.waitConfiguration = false) ∧
      running.stc.portOpen = false := by
  refine ⟨⟨by decide, by decide, fun a h => ?_⟩, by unfold CommitInv JobHolds; decide, by decide⟩
  cases h
  exact ⟨by decide, trivial⟩

/-- With a job of each kind waiting the odometer job begins, at the write position (R110, R111). -/
theorem test_odometer_job_begins_first :
    let t := stcBegin (crowded.setStc { crowded.stc with active := none })
    t.stc.active = some { job := .odometer 5 false 3, unit := 0, repeated := false } ∧
      t.odo.commit = .writing ∧ t.stc.waitOdometer = none ∧ t.stc.waitConfiguration = true := by decide

/-- A service job of one record that carries a RESET SERVICE, its unit repeated, in SAVING with a gauge away from
0; the same job with a second record, the first of them verified. -/
def serving : State :=
  (gaugeAt .oil (atRest .tracking 9 9)
    (running.setStc
      { running.stc with
        portOpen := true
        active :=
          some
            { job :=
                .service [{ item := .engineOil, record := ⟨5, none, 0⟩, carriesReset := true }]
              unit := 0, repeated := true } })).setPower
    { courtesy.power with endPhase := .saving, saveWait := some 500 }

theorem witness_StoreUnitEnds_saving :
    let r : ServiceEntry := { item := .engineOil, record := ⟨5, none, 0⟩, carriesReset := true }
    let q : ServiceEntry := { item := .inspection, record := ⟨5, none, 0⟩, carriesReset := false }
    StoreInv serving ∧ CommitInv serving ∧ serving.stc.active = some ⟨.service [r], 0, true⟩ ∧
      (ActiveJob.current ⟨.service [r], 0, true⟩).isSome = true ∧
      (serving.power.state = .courtesy ∧ serving.power.endPhase = .saving) ∧
      ((serving.gauge .oil).state = .tracking ∧ 0 < (serving.gauge .oil).position) ∧
      0 + 1 = (Job.service [r]).units.length ∧ 1 + 1 = (Job.service [r, q]).units.length ∧
      (∃ e ∈ [r, q].take 1, e.carriesReset = true) ∧ (∀ e ∈ [r].take 0, e.carriesReset = false) ∧
      (serving.setRqs
        { serving.rqs with inService := some { id := 0x76, requester := 15 } }).rqs.inService.isSome
          = true ∧
      RoomFor serving 0x76 ∧ serving.stc.fault = false := by
  refine ⟨⟨by decide, by decide, fun a h => ?_⟩, by unfold CommitInv JobHolds; decide, ?_⟩
  · cases h
    exact ⟨by decide, trivial⟩
  · unfold RoomFor; decide

theorem warningInv_pending :
    WarningInv (warned .oilPressure (recordIn .pending (some 2000) none none none) [] running) := by
  refine ⟨by decide, fun n => ?_, fun _ => ⟨by decide, fun n => ?_⟩⟩ <;>
    cases n <;> (first | (unfold RecordOk; decide) | (unfold ClassOk; decide))

/-- A PENDING class 0 warning, an IDLE tone, a full log, and a warning in CLEARING. -/
theorem witness_WarningsAnnounceAndLeave :
    let s := warned .oilPressure (recordIn .pending (some 2000) none none none) [] running
    let u := warned .bulbOut (recordIn .clearing (some 2000) (some 4000) none none) [.bulbOut] running
    WarningInv s ∧ WarningInv u ∧ AsMade s ∧ s.powered = true ∧ (s.wnu.record .oilPressure).state = .pending ∧
      Warning.oilPressure.cls ≤ 2 ∧ s.wnu.log.length < 16 ∧
      16 ≤ (s.setWnu { s.wnu with log := List.replicate 16 ⟨.belt, none, none⟩ }).wnu.log.length ∧
      Warning.oilPressure.pattern = some .alarm ∧ s.power.endPhase = .none ∧
      (sounds .idle [] s).wnu.tone = .idle ∧ (u.wnu.record .bulbOut).state = .clearing ∧
      RoomFor s 0x62 ∧ RoomFor u 0x62 :=
  ⟨warningInv_pending, warningInv_advisory, by unfold RoomFor; decide⟩

/-- OIL PRESSURE announced sends CLUSTER_WARNINGS with its bit and class 0; the last warning's leaving FFh. -/
theorem test_cluster_warnings_at_changes :
    let s := warned .oilPressure (recordIn .pending (some 2000) none none none) [] running
    let u := warned .bulbOut (recordIn .clearing (some 2000) (some 4000) none none) [.bulbOut] running
    (after (.qualifyTimerExpiry .oilPressure) s).link.txQueue.map (·.frame.data)
        = [[0x01, 0x00, 0x00, 0x00]] ∧
      (after (.releaseTimerExpiry .bulbOut) u).link.txQueue.map (·.frame.data)
        = [[0x00, 0x00, 0x00, 0xFF]] := by decide

/-- An oil pressure of 29 with the engine running, a LOST engine signal, and each window running. -/
theorem witness_WarningWindowsEnd :
    let s := sensed .oilP .fresh 29 (sensed .engFlags .stale 1 running)
    WarningInv running ∧ AsMade running ∧ running.powered = true ∧ s.engineRunning = true ∧
      (s.signal .oilP).state = .fresh ∧ (s.signal .oilP).value = some 29 ∧
      (s.wnu.record .oilPressure).state = .inactive ∧
      (running.setWnu { running.wnu with runningTimer := some 5000 }).wnu.runningTimer.isSome = true ∧
      (running.setWnu { running.wnu with linkWindow := some 3000 }).wnu.linkWindow.isSome = true ∧
      ((sensed .engRpm .lost 0 running).signal .engRpm).state = .lost ∧
      (running.setWnu { running.wnu with beltWindow := some 60000 }).wnu.beltWindow.isSome = true ∧
      (running.wnu.record .belt).state ≠ .clearing :=
  ⟨warningInv_running, by decide⟩

theorem warningInv_critical :
    WarningInv
      (warned .parkBrakeMoving (recordIn .acknowledged none none (some 60000) none) [.parkBrakeMoving]
        running) := by
  refine ⟨by decide, fun n => ?_, fun _ => ⟨by decide, fun n => ?_⟩⟩ <;>
    cases n <;> (first | (unfold RecordOk; decide) | (unfold ClassOk; decide))

theorem witness_ReannouncementAndTone :
    let s :=
      warned .parkBrakeMoving (recordIn .acknowledged none none (some 60000) none) [.parkBrakeMoving]
        running
    WarningInv s ∧ s.powered = true ∧ (s.wnu.record .parkBrakeMoving).state = .acknowledged ∧
      Warning.parkBrakeMoving.cls = 0 ∧ s.power.endPhase = .none ∧ AsMade s ∧ ¬AsMade (spoiled s) ∧
      ((spoiled s).wnu.record .parkBrakeMoving).reannounce.isSome = true ∧
      (chime (.station 5) .tick 2).pattern.continuous = false ∧
      (sounds .spacing [chime (.station 5) .tick 2] running).wnu.tone = .spacing ∧
      running.wnu.chimes = [] :=
  ⟨warningInv_critical, by decide⟩

/-- The second before midnight on the last day, and a second of COURTESY and of SLEEP. -/
theorem witness_SecondPassageCounts :
    let c : Clock := { running.clock with hour := 23, minute := 59, second := 59, day := 36524 }
    ClockOk c ∧ ClockOk running.clock ∧ running.power.state ≠ .off ∧ c.secondOfDay = 86399 ∧
      running.awake = true ∧ (inState .sleep).awake = false ∧ running.link.txQueue.length < 8 ∧
      (running.trc.binMetres < 3 ∧ running.settings.imperial = false) ∧
      exec .setPress running = .next running := by
  unfold ClockOk
  exact ⟨by decide, by decide, by decide, by decide, by decide, by decide, by decide, by decide, rfl⟩

/-- The worked seconds of chapter 5: 22 m and 28 q, and 2 m and 15 q; and 5 m without fuel (R95). -/
theorem test_instant_of_a_second :
    let s (m q : Nat) : State := running.setTrc { running.trc with binMetres := m, binFuel := q }
    let imp (s : State) : State := s.setSettings { s.settings with imperial := true }
    let told (s : State) : Option InstantFigure := (after .secondPassage s).trc.instant
    told (s 22 28) = some (.consumption 127) ∧ told (imp (s 22 28)) = some (.consumption 185) ∧
      told (s 2 15) = some (.flow 54) ∧ told (imp (s 5 0)) = some (.consumption 999) := by decide

/-- 20 q in a second at rest are 1.9 gal/h (R95). -/
theorem test_instant_flow_imperial : instantOf true 0 20 = .flow 19 := by decide

/-- The last part of a window, a part of one cycle and of 16,384, and a prescaler that reaches 32,768. -/
theorem witness_TrimAdjustsTheCount :
    ClockOk running.clock ∧ running.power.state ≠ .off ∧ (1 ≤ 1 ∧ 16384 ≤ 16384) ∧
      8192 * 126 / 8192 ≤ 126 ∧ (0 + (16384 - 1) + 2 : Nat) < 32768 ∧
      32768 ≤ (16384 + (16384 - 1) + 1 : Nat) := by
  unfold ClockOk; decide

theorem witness_SupplyAndFirstSteps :
    running.power.state ≠ .off ∧ running.stc.active = none ∧ (inState .off).power.state = .off ∧
      base.power.state = .starting ∧ base.power.step = .step1 ∧ base.power.kind = .cold ∧
      (let s (step : StartStep) (k : StartKind) : State :=
         (ignition .active base).setPower { base.power with step := step, kind := k }
       (s .step2 .wake).power.step = .step2 ∧ (s .step2 .wake).power.kind ≠ .cold ∧
         (s .step2 .warm).power.kind = .warm ∧
         (s .hold .warm).power.step = .hold ∧ (s .hold .warm).msc.lampTest = .notRun ∧
         ((s .hold .warm).input.filters[SwitchLine.ignition.ix]).level = .active) ∧
      AsMade base ∧ ¬AsMade (spoiled base) := by decide

/-- With bad cells the definitions, curves and texts are what the bytes hold, a class kept to 0 to 3; with none they are
the tables'. -/
theorem test_used_as_held :
    (spoiled base).definition .belt =
        { Config.heldDefinition [0x55] .belt with cls := min (Config.heldDefinition [0x55] .belt).cls 3 } ∧
      (spoiled base).curve .fuel = (Config.heldCurve [0x55] .fuel).toList ∧
      (spoiled base).peerChars 2 = Config.heldPeerText [0x55] 2 ∧
      base.definition .belt = Warning.belt.definition ∧ base.curve .fuel = GaugeId.fuel.curve :=
  ⟨rfl, rfl, rfl, rfl, rfl⟩

/-- A signature that stands, and one that a dip has changed. -/
theorem witness_SupplyAndFirstSteps_signature :
    let s := base.setPower
      { base.power with step := .step2, kind := .wake, signature := Config.keepAliveSignature }
    (none : Option (BitVec 16)).getD s.power.signature = Config.keepAliveSignature ∧
      (some (Config.keepAliveSignature + 1)).getD s.power.signature ≠ Config.keepAliveSignature := by
  refine ⟨rfl, ?_⟩
  generalize Config.keepAliveSignature = k
  show k + 1 ≠ k
  bv_omega

/-- A pattern memory of 80h and 80h passes step 1; with its second cell at 81h it fails and records 31h, and what that
memory defines is by its bytes from then on. -/
theorem test_pattern_memory_sum :
    let s := base.setPower { base.power with patternMemory := [0x80, 0x80] }
    let t := after (.patternMemoryChecksum []) s
    let u := after (.patternMemoryChecksum [(1, 0x81)]) s
    t.power.patternFail = false ∧ t.rqs.lastError = 0x00 ∧ t.power.step = .step2 ∧
      t.power.patternSpoiled = false ∧ u.power.patternSpoiled = true ∧ u.power.patternFail = true ∧ u.rqs.lastError = 0x31 ∧ u.power.patternMemory = [0x80, 0x81] := by
  decide

/-- A location that reads the eight patterns back, one that reads 41h for 40h, and one stuck at 0. -/
theorem test_ram_test :
    ramTest [#v[0x01, 0x02, 0x04, 0x08, 0x10, 0x20, 0x40, 0x80],
      #v[0x01, 0x02, 0x04, 0x08, 0x10, 0x20, 0x41, 0x80], Vector.replicate 8 0] = 2 := by decide

/-- A configuration block whose values lie at the ends of their ranges, its sum 0. -/
def edgeBlock : List Byte :=
  let bytes : List Byte :=
    [14, 1, 2, 3, 0x3E, 0x80, 0, 200] ++ [8, 9, 7, 9, 6, 9, 5, 9, 4, 9, 3, 9, 2, 9, 1, 9]
      ++ [10, 250, 0, 40, 0x02, 0x58, 1, 120] ++ [0, 200, 4, 56, 0, 200, 0, 200, 0, 200, 0, 200]
      ++ [0, 0, 0, 120, 0, 0, 0, 0, 0x04, 0x47, 0, 0, 0, 0, 0, 0] ++ [100]
  bytes ++ [0 - byteSum bytes]

/-- A CLUSTER_WARNINGS that waits as step 3 reads address 14 is sent from 14, and so are its held contents (R25). -/
theorem test_waiting_frame_takes_address :
    let e : TxEntry := { entry 1 0x62 0 false with held := some (frameOf 1 .broadcast 4 0x62 [1]) }
    let s := sends .idle [e] (base.setPower { base.power with step := .step3 })
    let c : Settings := { base.settings with address := 14 }
    (takeConfiguration [] c (.defaulted 0) s).link.txQueue.map
        (fun e => (e.frame.source, e.held.map (·.source))) = [(14, some 14)] := by decide

/-- A CLUSTER_WARNINGS waits as step 3 begins. -/
theorem witness_ConfigurationStepTakesValues_waiting :
    let s := sends .idle [entry 1 0x62 0 false, entry 2 0x61 0 false] (base.setPower { base.power with step := .step3 })
    s.power.state = .starting ∧ s.power.step = .step3 ∧ s.link.txQueue.length ≤ 7 ∧
      (∃ e ∈ s.link.txQueue, e.frame.id ≠ 0x62) ∧ WarningInv s := by
  refine ⟨by decide, by decide, by decide, by decide, by decide, fun n => ?_, fun _ => ⟨by decide, fun n => ?_⟩⟩ <;>
    cases n <;> (first | (unfold RecordOk; decide) | (unfold ClassOk; decide))

set_option maxRecDepth 4096 in
/-- Blank serial memory does not sum to 0; a block of zeros does, with a sender table of no order; and one of
values at the ends of their ranges, with a falling table, does. -/
theorem witness_ConfigurationStepTakesValues :
    let s := base.setPower { base.power with step := .step3 }
    let zeros : Memory := Memory.writeBytes [] 0 (14 :: 0xF2 :: List.replicate 60 0)
    let edge := (Memory.writeBytes [] 0 edgeBlock).readBytes 0 62
    s.power.state = .starting ∧ s.power.step = .step3 ∧ AsMade s ∧ byteSum (s.store.readBytes 0 62) ≠ 0 ∧
      s.power.kind = .cold ∧ (s.setPower { s.power with kind := .warm }).power.kind ≠ .cold ∧
      byteSum (zeros.readBytes 0 62) = 0 ∧ (byteAt (zeros.readBytes 0 62) 0).toNat = 14 ∧
      (s.wnu.record .configDefaults).state = .inactive ∧ byteSum edge = 0 ∧
      (byteAt edge 60).toNat ≤ 100 ∧ (byteAt edge 47).toInt ≤ 120 ∧
      256 * (byteAt edge 4).toNat + (byteAt edge 5).toNat ≤ 16000 ∧
      ((List.range 8).map (fun i => (byteAt edge (8 + 2 * i)).toNat)).Pairwise (fun x y => y < x) := by
  decide

/-- A memory with two slots of one value, the higher one the newest, and one service record without a due day. -/
def ringed : Memory :=
  Memory.writeBytes
    (Memory.writeBytes (Memory.writeBytes [] 0x78 (slotBytes 7 48212003 false)) 0xB8
      (slotBytes 15 48212003 true))
    0xC0 (recordBytes .engineOil ⟨49220, none, 7500⟩)

set_option maxRecDepth 8192 in
theorem newestSlotIs_ringed : NewestSlotIs ringed 15 := by
  refine ⟨by decide, by unfold SlotValid Checked; decide, ?_⟩
  unfold SlotValid Checked; decide

set_option maxRecDepth 8192 in
/-- An empty ring, a ring with two slots of one value, a kept verified value, valid and invalid service records, a due
day to fill, and each state of the ignition filter. -/
theorem witness_RingStepTakesTheStore :
    let s := base.setPower { base.power with step := .step4 }
    s.power.state = .starting ∧ s.power.step = .step4 ∧ NewestSlotIs ringed 15 ∧
      SlotValue ringed 15 = 48212003 ∧ (∀ i < 16, ¬SlotValid s.store i) ∧ SlotValid ringed 7 ∧
      RecordValid ringed .engineOil ∧ RecordAt ringed .engineOil = ⟨49220, none, 7500⟩ ∧
      ¬RecordValid ringed .inspection ∧ s.clock.valid = false ∧
      (s.setClock { s.clock with valid := true }).clock.valid = true ∧
      0 < s.settings.dayIntervals[ServiceItem.engineOil.ix] ∧ s.odo.verified = none ∧
      (s.setOdo { s.odo with verified := some 48212006 }).odo.verified = some 48212006 ∧
      (s.input.filters[SwitchLine.ignition.ix]).completed = false ∧
      ((ignition .active s).input.filters[SwitchLine.ignition.ix]).completed = true ∧
      s.odo.resolved = false ∧ s.gdu.parkInForce = false ∧ s.link.tx = .idle := by
  refine ⟨by decide, by decide, newestSlotIs_ringed, ?_⟩
  unfold SlotValid RecordValid Checked; decide

/-- At the end of STARTING of a WAKE start: the journey rule due, at a clock that is not valid and at one that is with
a stamp within the gap; a drive open and none; FUEL_LEVEL FRESH and not; and the ignition off. -/
theorem witness_RingStepTakesTheStore_run :
    let u := base.setTrc { base.trc with journeyRuleDue := true }
    let near :=
      (u.setClock { u.clock with valid := true }).setTrc { u.trc with journeyStamp := some ⟨0, 0⟩ }
    let open' := u.setSru { u.sru with drive := some { baseline := 7, carried := 2, warm := false } }
    JourneyRuleResets u ∧ ¬JourneyRuleResets near ∧ ¬JourneyRuleResets base ∧ u.sru.drive = none ∧
      open'.sru.drive.isSome = true ∧
      ((sensed .fuelLevel .fresh 450 u).signal .fuelLevel).state = .fresh ∧
      (u.signal .fuelLevel).state ≠ .fresh ∧
      ((ignition .inactive u).filter .ignition).level ≠ .active ∧
      ((u.setOdo { u.odo with resolved := true }).odo.resolved = true ∧ u.link.txQueue = []) := by
  refine ⟨⟨rfl, .inl rfl⟩, ?_, fun h => absurd h.1 (by decide), by decide⟩
  rintro ⟨-, h | ⟨st, h, h'⟩⟩
  · exact absurd h (by decide)
  · cases h
    exact absurd h' (by decide)

/-- A WAKE start whose ignition is on at the end of step 4 resets JOURNEY where its rule calls for it and opens a
drive (R87, R152). -/
theorem test_wake_start_runs :
    let s := (ignition .active base).setPower { base.power with step := .step4, kind := .wake }
    let u :=
      s.setTrc
        { s.trc with
          journeyRuleDue := true, journey := { s.trc.journey with distance := 900, awaiting := false } }
    let t := after (.ringAndServiceRead 0) u
    t.power.state = .run ∧ t.trc.journey.distance = 0 ∧ t.trc.journeyRuleDue = false ∧
      t.sru.drive = some { baseline := 0, carried := 0, warm := false } := by decide

/-- The ignition returns in SAVING of the COURTESY that followed a WAKE start: the end of that COURTESY has stamped the
clock anew, and JOURNEY is reset all the same by the stamp of the COURTESY before the SLEEP, 7,200 s old (R87, R164). -/
theorem test_journey_rule_reads_older_stamp :
    let s := (keyed .inactive courtesy).setClock { courtesy.clock with day := 1, valid := true }
    let u :=
      (s.setOdo { s.odo with pending := 1 }).setTrc
        { s.trc with
          journeyRuleDue := true, journeyStamp := some ⟨0, 79200⟩
          journey := { s.trc.journey with distance := 900, awaiting := false } }
    let v := after .courtesyCapExpiry u
    let t := after (.switchFilterCompletion .ignition (List.replicate 8 .active) 0) v
    v.power.endPhase = .saving ∧ v.clock.lastOff = some ⟨1, 0⟩ ∧ v.trc.journeyStamp = some ⟨0, 79200⟩ ∧
      t.power.state = .run ∧ t.trc.journey.distance = 0 ∧ t.trc.journeyStamp = none := by decide

/-- COURTESY with a metre to save, and SAVING with a gauge one step from 0. -/
theorem witness_CourtesyEndsInSaving :
    let s := courtesy.setOdo { courtesy.odo with resolved := true, pending := 1 }
    let u :=
      (gaugeAt .oil (atRest .tracking 1 1) courtesy).setPower
        { courtesy.power with endPhase := .saving, saveWait := some 500 }
    s.power.state = .courtesy ∧ AsMade s ∧ s.power.endPhase = .none ∧ s.power.courtesyTimer.isSome = true ∧
      s.power.courtesyCap.isSome = true ∧ s.odo.commit = .clear ∧ 0 < s.odo.pending ∧
      u.power.endPhase = .saving ∧ u.power.saveWait.isSome = true ∧ (u.gauge .oil).state = .tracking ∧
      0 < (u.gauge .oil).position ∧ (u.gauge .fuel).state ≠ .tracking := by decide

/-- A cold drive of 7,999 m and one of 8,000 m, with a penalty left for the engine oil; no job in hand and none
to come, so that the save is complete at once, with a gauge at rest at 0; and a warning that the end takes off
the list. -/
theorem witness_CourtesyEndsInSaving_drive :
    let drive (carried : Nat) : Drive := { baseline := 0, carried := carried, warm := false }
    let s (carried : Nat) : State :=
      courtesy.setSru { courtesy.sru with drive := some (drive carried) }
    let oilItem := (s 7999).item .engineOil
    let interval := 100 * courtesy.settings.distIntervals[ServiceItem.engineOil.ix]
    let free := (gaugeAt .oil (atRest .tracking 9 9) courtesy).setStc { courtesy.stc with portOpen := true }
    let due := warned .serviceDue (recordIn .active none none none (some 8000)) [.serviceDue] courtesy
    (s 7999).sru.drive = some (drive 7999) ∧ 7999 + ((s 7999).trc.journey.distance - 0) < 8000 ∧
      ¬8000 + ((s 8000).trc.journey.distance - 0) < 8000 ∧ (s 7999).trc.journey.distance < 9999999 ∧
      (s 7999).sru.oilReset = false ∧ oilItem.awaiting = false ∧ 0 < interval ∧
      0 < min courtesy.settings.penaltyKm (interval / 2 - oilItem.record.penalty) ∧
      (free.stc.portOpen = true ∧ free.stc.active = none ∧ free.stc.waitOdometer = none ∧
        free.stc.waitService = [] ∧ free.stc.waitConfiguration = false) ∧
      free.odo.commit = .clear ∧ ¬0 < free.odo.pending ∧ (∀ i, (free.item i).dirty = false) ∧
      (free.gauge .oil).state = .tracking ∧ 0 < (free.gauge .oil).position ∧
      ((gaugeAt .fuel (atRest .sweep 0 0) free).gauge .fuel).state = .sweep ∧
      ((gaugeAt .fuel (atRest .sweep 0 0) free).gauge .fuel).position = 0 ∧
      Warning.serviceDue ∈ due.wnu.list ∧ RoomFor due 0x62 ∧
      (after .courtesyTimerExpiry due).wnu.list ≠ due.wnu.list := by
  refine ⟨by decide, by decide, by decide, by decide, by decide, by decide, by decide, by decide, by decide,
    by decide, by decide, fun i => ?_, by unfold RoomFor; decide⟩
  cases i <;> decide

theorem warningInv_courtesy :
    WarningInv
      (warned .serviceDue (recordIn .active none none none (some 8000)) [.serviceDue] courtesy) := by
  refine ⟨by decide, fun n => ?_, fun _ => ⟨by decide, fun n => ?_⟩⟩ <;>
    cases n <;> (first | (unfold RecordOk; decide) | (unfold ClassOk; decide))

/-- A park with one gauge to come. -/
def parkingLast : State :=
  (gaugeAt .oil { atRest .parking 1 0 with motion := .movingDown }
    (courtesy.setGdu
      { gauges := Vector.replicate 6 (atRest .parked 0 0), parkInForce := true })).setPower
    { courtesy.power with endPhase := .parking }

theorem witness_ParkEndsInSleep :
    parkingLast.power.state = .courtesy ∧ parkingLast.power.endPhase = .parking ∧
      (parkingLast.gauge .oil).state = .parking ∧ (parkingLast.gauge .oil).motion = .movingDown ∧
      (parkingLast.gauge .oil).position = 1 ∧
      (∀ h, h ≠ .oil → (parkingLast.gauge h).state = .parked ∨ (parkingLast.gauge h).state = .faulted) ∧
      parkingLast.power.pendingWake = false := by
  refine ⟨by decide, by decide, by decide, by decide, by decide, fun h hne => ?_, by decide⟩
  cases h <;> first | exact absurd rfl hne | exact Or.inl (by decide)

/-- The last gauge homes at its closure and at the end of its third attempt; the pending-wake mark is set; and
the last attempt of the frame on the line is its fourth. -/
theorem witness_ParkEndsInSleep_homing :
    let s (r : Gauge) : State := gaugeAt .oil r parkingLast
    let wake := parkingLast.setPower { parkingLast.power with pendingWake := true }
    let cut := sends .sending [entry 2 0x60 3 true] parkingLast
    ((s (homing 1 0 none)).gauge .oil).state = .homing ∧ (s (homing 1 0 none)).gdu.parkInForce = true ∧
      ((s (homing 1 0 none)).gauge .oil).lift = none ∧
      ((s (homing 3 391 none)).gauge .oil).attempt = 3 ∧
      (s (homing 3 391 none)).span .oil + 32 ≤ ((s (homing 3 391 none)).gauge .oil).steps + 1 ∧
      wake.power.pendingWake = true ∧ cut.link.tx = .sending ∧
      (∃ e ∈ cut.link.txQueue, e.underAttempt = true ∧ e.failed = 3) := by decide

/-- A request of station 14, one in STARTING, one while a RESET SERVICE is in service, and one too long. -/
theorem witness_RequestsAreRefused :
    let f := request 0x70 [0]
    let g := request 0x70 [0, 0]
    let busy : State :=
      running.setRqs { running.rqs with inService := some { id := 0x76, requester := 15 } }
    HandsOn (handed { f with source := 14 } running) 0x70 { f with source := 14 } [] ∧
      HandsOn (handed f (inState .starting)) 0x70 f [] ∧ (inState .starting).power.state = .starting ∧
      HandsOn (handed f busy) 0x70 f [] ∧ busy.rqs.inService.isSome = true ∧
      HandsOn (handed g running) 0x70 g [] ∧ g.data.length ≠ 1 ∧ HasRoom (handed g running) g := by
  unfold HandsOn HasRoom; decide

/-- Page 4, offset 59, a trim of 121, and selector 1Fh, out of range; and the three refusals by state. -/
theorem witness_RequestsAreRefused_range :
    let s (id : Byte) (d : List Byte) : State := handed (request id d) running
    let trim := (s 0x78 [0]).setClock { running.clock with pendingTrim := some 0 }
    HandsOn (s 0x70 [4]) 0x70 (request 0x70 [4]) [] ∧ decide ((4 : Byte).toNat ≤ 3) = false ∧
      HandsOn (s 0x7A [59, 0, 0, 0, 0]) 0x7A (request 0x7A [59, 0, 0, 0, 0]) [] ∧
      decide ((59 : Byte).toNat ≤ 58) = false ∧
      HandsOn (s 0x78 [121]) 0x78 (request 0x78 [121]) [] ∧ ¬(121 : Byte).toInt ≤ 120 ∧
      HandsOn (s 0x72 [0x1F]) 0x72 (request 0x72 [0x1F]) [] ∧ ¬0x1F - 0x10 < running.wnu.log.length ∧
      HandsOn trim 0x78 (request 0x78 [0]) [] ∧ trim.clock.pendingTrim.isSome = true ∧
      HandsOn (handed (request 0x7B []) courtesy) 0x7B (request 0x7B []) [] ∧
      courtesy.power.state ≠ .run ∧
      HandsOn (handed (request 0x7C [1]) (inState .sleep)) 0x7C (request 0x7C [1]) [] ∧
      (inState .sleep).power.state = .sleep := by
  unfold HandsOn; decide

/-- Page 3, selectors 20h and 24h, signal 17, service parameter 13h, the two without parameters, the sixteenth
log entry, and an item with remaining days and one without. -/
theorem witness_ReadAndClearRequests :
    let s (id : Byte) (d : List Byte) : State := handed (request id d) running
    Served (s 0x70 [3]) (request 0x70 [3]) ∧ HasRoom (s 0x70 [3]) (request 0x70 [3]) ∧
      HandsOn (s 0x70 [3]) 0x70 (request 0x70 [3]) [] ∧ (3 : Byte).toNat ≤ 3 ∧
      HandsOn (s 0x72 [0x24]) 0x72 (request 0x72 [0x24]) [] ∧
      (List.replicate 16 (⟨.belt, none, none⟩ : LogEntry))[15]? = some ⟨.belt, none, none⟩ ∧
      HandsOn (s 0x74 [17]) 0x74 (request 0x74 [17]) [] ∧ Signal.headlampSw.ix.val = 17 ∧
      HandsOn (s 0x75 [0x13]) 0x75 (request 0x75 [0x13]) [] ∧
      DaysLeft running .engineOil = none ∧
      DaysLeft (running.setClock { running.clock with valid := true })
        .engineOil = none ∧
      (let u :=
         (running.setClock { running.clock with valid := true }).setItem .engineOil
           { running.item .engineOil with awaiting := true }
       DaysLeft u .engineOil = some 365) ∧ HandsOn (s 0x71 []) 0x71 (request 0x71 []) [] ∧
      HandsOn (s 0x73 []) 0x73 (request 0x73 []) [] := by
  unfold HandsOn HasRoom Served; decide

/-- 23:59:59 on day 36,524, trims of -120 and +120, and each ADJUST HOUR. -/
theorem witness_ClockRequests :
    let s (id : Byte) (d : List Byte) : State := handed (request id d) running
    let set := [23, 59, 59, 0x8E, 0xAC]
    Served (s 0x77 set) (request 0x77 set) ∧ HasRoom (s 0x77 set) (request 0x77 set) ∧
      HandsOn (s 0x77 set) 0x77 (request 0x77 set) [] ∧
      256 * (0x8E : Byte).toNat + (0xAC : Byte).toNat ≤ 36524 ∧
      HandsOn (s 0x78 [0x88]) 0x78 (request 0x78 [0x88]) [] ∧ (0x88 : Byte).toInt = -120 ∧
      (120 : Byte).toInt ≤ 120 ∧ running.clock.pendingTrim = none ∧
      HandsOn (s 0x79 [0xFF]) 0x79 (request 0x79 [0xFF]) [] ∧ running.clock.hour = 0 ∧
      HandsOn (s 0x79 [0x01]) 0x79 (request 0x79 [0x01]) [] ∧ running.clock.hour ≤ 23 ∧
      RoomFor (s 0x77 set) 0x61 ∧ running.clock.valid = false ∧
      (running.setClock { running.clock with valid := true }).clock.valid = true := by
  unfold HandsOn HasRoom Served RoomFor; decide

/-- Offset 58 with a job in progress and offset 57, RESET SERVICE of item 3 before and after the
resolution, GAUGE TEST with a tracking and a homing gauge, and CHIME TEST of pattern 7. -/
theorem witness_WorkshopActions :
    let s (id : Byte) (d : List Byte) : State := handed (request id d) running
    let cfg : List Byte := [58, 1, 2, 3, 4]
    let free := running.setStc { running.stc with portOpen := true }
    let bad := gaugeAt .oil (atRest .faulted 0 0) running
    Served (s 0x7A cfg) (request 0x7A cfg) ∧ HasRoom (s 0x7A cfg) (request 0x7A cfg) ∧
      HandsOn (s 0x7A cfg) 0x7A (request 0x7A cfg) [] ∧ (58 : Byte).toNat ≤ 58 ∧
      running.rqs.staging.length = 62 ∧ writing.stc.waitConfiguration = false ∧
      writing.stc.active.isSome = true ∧ HandsOn (s 0x76 [3]) 0x76 (request 0x76 [3]) [] ∧
      ServiceItem.ofNat? (3 : Byte).toNat = some .sparkAndFilters ∧ running.odo.resolved = false ∧
      (running.setOdo { running.odo with resolved := true }).odo.resolved = true ∧
      HandsOn (s 0x7B []) 0x7B (request 0x7B []) [] ∧ running.power.state = .run ∧
      ((gaugeAt .oil (atRest .tracking 0 0) running).gauge .oil).state = .tracking ∧
      ((gaugeAt .oil (atRest .homing 9 0) running).gauge .oil).state = .homing ∧
      HandsOn (s 0x7C [7]) 0x7C (request 0x7C [7]) [] ∧ Pattern.ofNat? (7 : Byte).toNat = some .call ∧
      running.awake = true ∧ running.power.endPhase = .none ∧
      (sounds .idle [] running).wnu.tone = .idle ∧
      (free.stc.portOpen = true ∧ free.stc.active = none ∧ free.stc.waitOdometer = none ∧
        free.stc.waitService = []) ∧
      (bad.gauge .oil).state = .faulted ∧ (0 : BitVec 6).getLsbD GaugeId.oil.ix.val = false ∧
      (16 : BitVec 6).getLsbD GaugeId.oil.ix.val = true := by
  unfold HandsOn HasRoom Served; decide

end Sys2Proof.Tests
end

section
/-! SUPPORT. The transmit queue at an offer: a match is unique and changes in its own place, a new entry splits the queue
behind its class, and a full queue names the entry it gives up (R14, R15, R17). -/

namespace Sys2Proof.Machine

open Sys2Proof

/-! ## A matching entry (R14, R17) -/

/-- Frames of one key agree in message id and target (R14). -/
theorem Frame.sameKey_iff {f g : Frame} : f.sameKey g = true ↔ f.id = g.id ∧ f.target = g.target := by
  simp [Frame.sameKey]

/-- A queue that never holds two frames of one key holds at most one that matches an offered frame (R14). -/
theorem sameKey_eq_false_of_match {f : Frame} {p q : List TxEntry} {e : TxEntry}
    (hkeys : (p ++ e :: q).Pairwise (fun x y => x.frame.sameKey y.frame = false))
    (he : e.frame.sameKey f = true) : ∀ x ∈ p ++ q, x.frame.sameKey f = false := by
  have hsymm {x y : TxEntry} (h : x.frame.sameKey y.frame = false) : y.frame.sameKey x.frame = false := by
    rw [← Bool.not_eq_true, Frame.sameKey_iff] at h ⊢
    exact fun hk => h ⟨hk.1.symm, hk.2.symm⟩
  intro x hx
  have hex := (List.pairwise_cons.mp ((List.pairwise_middle hsymm).mp hkeys)).1 x hx
  rw [← Bool.not_eq_true, Frame.sameKey_iff] at hex ⊢
  obtain ⟨hid, htarget⟩ := Frame.sameKey_iff.mp he
  exact fun hk => hex ⟨hid.trans hk.1.symm, htarget.trans hk.2.symm⟩

/-- A queue of entries that do not match stays as it is (R14). -/
theorem txReplace_eq_self {f : Frame} {q : List TxEntry} (h : ∀ x ∈ q, x.frame.sameKey f = false) :
    txReplace f q = q :=
  (List.map_congr_left fun x hx => by simp [h x hx]).trans (List.map_id q)

/-- What an offer makes of the one matching entry: new contents while it waits, held contents while it is under
attempt, and every other entry as it was (R14, R17). -/
theorem txOffer_of_match {f : Frame} {m : Nat} {p q : List TxEntry} {e : TxEntry}
    (hkeys : (p ++ e :: q).Pairwise (fun x y => x.frame.sameKey y.frame = false))
    (he : e.frame.sameKey f = true) :
    txOffer f m (p ++ e :: q) =
      (p ++ (if e.underAttempt then { e with held := some f } else { e with frame := f }) :: q, false) := by
  have hother := sameKey_eq_false_of_match hkeys he
  have hp : txReplace f p = p := txReplace_eq_self fun x hx => hother x (List.mem_append_left q hx)
  have hq : txReplace f q = q := txReplace_eq_self fun x hx => hother x (List.mem_append_right p hx)
  have hany : (p ++ e :: q).any (fun x => x.frame.sameKey f) = true :=
    List.any_eq_true.mpr ⟨e, by simp, he⟩
  unfold txReplace at hp hq
  simp [txOffer, hany, txReplace, hp, hq, he]

/-! ## A new entry (R14) -/

/-- In a queue ordered by class a new entry stands behind those of its own or a smaller class number and ahead of the
others (R14). -/
theorem exists_txInsert_eq (e : TxEntry) {q : List TxEntry}
    (hord : q.Pairwise (fun x y => x.frame.cls ≤ y.frame.cls)) :
    ∃ p r, q = p ++ r ∧ (∀ x ∈ p, x.frame.cls ≤ e.frame.cls) ∧ (∀ x ∈ r, e.frame.cls < x.frame.cls) ∧
      txInsert e q = p ++ e :: r := by
  induction q with
  | nil => exact ⟨[], [], by simp [txInsert]⟩
  | cons x xs ih =>
    obtain ⟨hx, hxs⟩ := List.pairwise_cons.mp hord
    by_cases hle : x.frame.cls ≤ e.frame.cls
    · obtain ⟨p, r, rfl, hp, hr, heq⟩ := ih hxs
      exact ⟨x :: p, r, rfl, List.forall_mem_cons.mpr ⟨hle, hp⟩, hr, by simp [txInsert, hle, heq]⟩
    · have hlt : e.frame.cls < x.frame.cls := Nat.lt_of_not_le hle
      exact ⟨[], x :: xs, rfl, by simp, List.forall_mem_cons.mpr ⟨hlt, fun y hy => hlt.trans_le (hx y hy)⟩,
        by simp [txInsert, hle]⟩

/-- A frame that matches nothing joins a queue with room (R14). -/
theorem txOffer_of_room {f : Frame} {m : Nat} {q : List TxEntry}
    (hnew : ∀ e ∈ q, e.frame.sameKey f = false) (hroom : q.length < 8) :
    txOffer f m q = (txInsert (freshEntry f m) q, false) := by
  have hany : q.any (fun x => x.frame.sameKey f) = false := by simpa using hnew
  simp [txOffer, hany, hroom]

/-! ## A full queue (R15) -/

/-- The lowest-ranking class is that of an entry that waits, and no other has a larger number (R15). -/
theorem txLowestClass_eq_some_iff {q : List TxEntry} {c : Nat} :
    txLowestClass q = some c ↔
      (∃ e ∈ q, e.underAttempt = false ∧ e.frame.cls = c) ∧
        ∀ e ∈ q, e.underAttempt = false → e.frame.cls ≤ c := by
  rw [txLowestClass, List.max?_eq_some_iff, List.forall_mem_map]
  simp [and_assoc]

/-- A queue with an entry that waits has a lowest-ranking class (R15). -/
theorem exists_txLowestClass {q : List TxEntry} {e : TxEntry} (he : e ∈ q) (hw : e.underAttempt = false) :
    ∃ c, txLowestClass q = some c :=
  Option.isSome_iff_exists.mp <| List.isSome_max?_of_mem <|
    List.mem_map_of_mem (List.mem_filter.mpr ⟨he, by simp [hw]⟩)

/-- No entry of the class that waits is younger than its youngest (R15). -/
theorem le_txYoungest {c : Nat} {q : List TxEntry} {e : TxEntry} (he : e ∈ q)
    (hw : e.underAttempt = false) (hc : e.frame.cls = c) : e.entered ≤ txYoungest c q :=
  List.le_max?_getD_of_mem (List.mem_map_of_mem (List.mem_filter.mpr ⟨he, by simp [hw, hc]⟩))

/-- The youngest time of entry of a class with an entry that waits is that of such an entry (R15). -/
theorem exists_entered_eq_txYoungest {c : Nat} {q : List TxEntry} {e : TxEntry} (he : e ∈ q)
    (hw : e.underAttempt = false) (hc : e.frame.cls = c) :
    ∃ x ∈ q, x.underAttempt = false ∧ x.frame.cls = c ∧ x.entered = txYoungest c q := by
  have hmem : e.entered ∈ (q.filter (fun x => !x.underAttempt && x.frame.cls == c)).map (·.entered) :=
    List.mem_map_of_mem (List.mem_filter.mpr ⟨he, by simp [hw, hc]⟩)
  obtain ⟨n, hn⟩ := Option.isSome_iff_exists.mp (List.isSome_max?_of_mem hmem)
  obtain ⟨x, hx, hxn⟩ := List.mem_map.mp (List.max?_mem hn)
  obtain ⟨hxq, hxw, hxc⟩ : x ∈ q ∧ x.underAttempt = false ∧ x.frame.cls = c := by simpa using hx
  exact ⟨x, hxq, hxw, hxc, by simp [txYoungest, hn, hxn]⟩

/-- A class with an entry that waits gives up exactly one entry (R15). -/
theorem txRemoveYoungest_length_add_one {c : Nat} {q : List TxEntry} {e : TxEntry} (he : e ∈ q)
    (hw : e.underAttempt = false) (hc : e.frame.cls = c) :
    (txRemoveYoungest c q).length + 1 = q.length := by
  obtain ⟨x, hx, hxw, hxc, hxy⟩ := exists_entered_eq_txYoungest he hw hc
  exact List.length_eraseP_add_one hx (by simp [hxw, hxc, hxy])

/-- The entry given up is the one that entered after every other of its class that waits (R15). -/
theorem txRemoveYoungest_of_youngest {c : Nat} {p q : List TxEntry} {e : TxEntry}
    (hw : e.underAttempt = false) (hc : e.frame.cls = c)
    (hyoung : ∀ x ∈ p ++ q, x.underAttempt = false → x.frame.cls = c → x.entered < e.entered) :
    txRemoveYoungest c (p ++ e :: q) = p ++ q := by
  have he : e ∈ p ++ e :: q := by simp
  have hmax : txYoungest c (p ++ e :: q) = e.entered := by
    obtain ⟨x, hx, hxw, hxc, hxy⟩ := exists_entered_eq_txYoungest he hw hc
    rcases List.mem_cons.mp (List.perm_middle.mem_iff.mp hx) with rfl | hx'
    · exact hxy.symm
    · exact absurd (hyoung x hx' hxw hxc) (not_lt.mpr (hxy ▸ le_txYoungest he hw hc))
  have hp : ∀ x ∈ p, ¬(!x.underAttempt && x.frame.cls == c && x.entered == e.entered) = true := by
    intro x hx hpred
    obtain ⟨⟨hxw, hxc⟩, hxe⟩ :
        (x.underAttempt = false ∧ x.frame.cls = c) ∧ x.entered = e.entered := by simpa using hpred
    exact (hyoung x (List.mem_append_left q hx) hxw hxc).ne hxe
  rw [txRemoveYoungest, hmax, List.eraseP_append_right _ hp, List.eraseP_cons_of_pos (by simp [hw, hc])]

/-- A full queue drops a frame that ranks above no entry that waits, and counts it (R15). -/
theorem txOffer_of_full_dropped {f : Frame} {m : Nat} {q : List TxEntry}
    (hnew : ∀ e ∈ q, e.frame.sameKey f = false) (hfull : q.length = 8)
    (hrank : ∀ e ∈ q, e.underAttempt = false → e.frame.cls ≤ f.cls) : txOffer f m q = (q, true) := by
  have hany : q.any (fun x => x.frame.sameKey f) = false := by simpa using hnew
  cases hlow : txLowestClass q with
  | none => simp [txOffer, hany, hfull, hlow]
  | some low =>
    obtain ⟨⟨e, he, hw, rfl⟩, -⟩ := txLowestClass_eq_some_iff.mp hlow
    simp [txOffer, hany, hfull, hlow, (hrank e he hw).not_gt]

/-- A full queue gives up the youngest entry of its lowest-ranking class to a frame of a smaller class number, and
counts it (R15). -/
theorem txOffer_of_full_displaces {f : Frame} {m low : Nat} {q : List TxEntry}
    (hnew : ∀ e ∈ q, e.frame.sameKey f = false) (hfull : q.length = 8)
    (hlow : txLowestClass q = some low) (hrank : f.cls < low) :
    txOffer f m q = (txInsert (freshEntry f m) (txRemoveYoungest low q), true) := by
  have hany : q.any (fun x => x.frame.sameKey f) = false := by simpa using hnew
  simp [txOffer, hany, hfull, hlow, hrank]

/-- A full queue stays full, and counts whether it displaces or drops (R15). -/
theorem txOffer_of_full {f : Frame} {m : Nat} {q : List TxEntry}
    (hnew : ∀ e ∈ q, e.frame.sameKey f = false) (hfull : q.length = 8) :
    (txOffer f m q).1.length = 8 ∧ (txOffer f m q).2 = true := by
  by_cases hrank : ∀ e ∈ q, e.underAttempt = false → e.frame.cls ≤ f.cls
  · simp [txOffer_of_full_dropped hnew hfull hrank, hfull]
  · push Not at hrank
    obtain ⟨e, he, hw, hlt⟩ := hrank
    obtain ⟨low, hlow⟩ := exists_txLowestClass he hw
    obtain ⟨⟨x, hx, hxw, hxc⟩, hmax⟩ := txLowestClass_eq_some_iff.mp hlow
    have hlength := txRemoveYoungest_length_add_one hx hxw hxc
    simp [txOffer_of_full_displaces hnew hfull hlow (hlt.trans_le (hmax e he hw)), hlength, hfull]

/-- A full queue ordered by class gives up the youngest entry of the largest class number that waits to a frame of a
smaller one, which joins behind its class (R14, R15). -/
theorem exists_txOffer_of_youngest {f : Frame} {m : Nat} {p q : List TxEntry} {e : TxEntry}
    (hord : (p ++ e :: q).Pairwise (fun x y => x.frame.cls ≤ y.frame.cls))
    (hnew : ∀ x ∈ p ++ e :: q, x.frame.sameKey f = false) (hfull : (p ++ e :: q).length = 8)
    (hw : e.underAttempt = false) (hrank : f.cls < e.frame.cls)
    (hyoung : ∀ x ∈ p ++ q, x.underAttempt = false →
      x.frame.cls < e.frame.cls ∨ (x.frame.cls = e.frame.cls ∧ x.entered < e.entered)) :
    ∃ p' q', p ++ q = p' ++ q' ∧ (∀ x ∈ p', x.frame.cls ≤ f.cls) ∧ (∀ x ∈ q', f.cls < x.frame.cls) ∧
      (txOffer f m (p ++ e :: q)).1 = p' ++ freshEntry f m :: q' := by
  have hlow : txLowestClass (p ++ e :: q) = some e.frame.cls := by
    refine txLowestClass_eq_some_iff.mpr ⟨⟨e, by simp, hw, rfl⟩, fun x hx hxw => ?_⟩
    rcases List.mem_cons.mp (List.perm_middle.mem_iff.mp hx) with rfl | hx'
    · exact le_rfl
    · rcases hyoung x hx' hxw with hlt | ⟨heq, -⟩
      · exact hlt.le
      · exact heq.le
  have hremove : txRemoveYoungest e.frame.cls (p ++ e :: q) = p ++ q :=
    txRemoveYoungest_of_youngest hw rfl fun x hx hxw hxc =>
      (hyoung x hx hxw).elim (fun hlt => absurd hxc hlt.ne) (·.2)
  have hord' : (p ++ q).Pairwise (fun x y => x.frame.cls ≤ y.frame.cls) :=
    hord.sublist ((List.sublist_cons_self e q).append_left p)
  obtain ⟨p', q', hsplit, hp', hq', hinsert⟩ := exists_txInsert_eq (freshEntry f m) hord'
  exact ⟨p', q', hsplit, hp', hq', by
    rw [txOffer_of_full_displaces hnew hfull hlow hrank, hremove, hinsert]⟩

/-! ## The offer (R14, R15, R17) -/

/-- The queue after an offer. -/
@[simp] theorem offer_txQueue (f : Frame) (s : State) :
    (offer f s).link.txQueue = (txOffer f s.seq s.link.txQueue).1 := rfl

/-- A displaced or dropped frame counts, up to 255 (R15, R21). -/
theorem offer_txDisplaced_of_counts {f : Frame} {s : State} (h : (txOffer f s.seq s.link.txQueue).2 = true) :
    (offer f s).link.counters.txDisplaced = min (s.link.counters.txDisplaced + 1) 255 := by
  rw [offer_link, State.moment]
  simp [h, satInc]

/-- Settles O21: a match is unique since no two entries share a key, and a join splits the queue since it is ordered by
class; a full queue that loses one entry stays ordered. -/
theorem offerPlacesFrame : Obligations.OfferPlacesFrame := by
  unfold Obligations.OfferPlacesFrame
  intro f s ⟨_, hord, hkeys, _⟩
  refine ⟨fun p e q hq he hw => ?waits, fun p e q hq he hw => ?underAttempt, fun hnew hroom => ?room,
    fun hnew hfull => ?full⟩
  case waits =>
    rw [hq] at hkeys
    simp [hq, txOffer_of_match hkeys he, hw]
  case underAttempt =>
    rw [hq] at hkeys
    simp [hq, txOffer_of_match hkeys he, hw]
  case room =>
    rw [offer_txQueue, txOffer_of_room hnew hroom]
    exact exists_txInsert_eq (freshEntry f s.seq) hord
  case full =>
    obtain ⟨hlength, hcounts⟩ := txOffer_of_full (m := s.seq) hnew hfull
    refine ⟨offer_txDisplaced_of_counts hcounts, hlength, fun hrank => ?_, fun p e q hq hw hrank hyoung => ?_⟩
    · rw [offer_txQueue, txOffer_of_full_dropped hnew hfull hrank]
    · rw [hq] at hord hnew hfull
      rw [offer_txQueue, hq]
      exact exists_txOffer_of_youngest hord hnew hfull hw hrank hyoung

end Sys2Proof.Machine
end

section
/-! SUPPORT. A status frame taken from the ring: the frame handed on, the source and the length it is tested for, and the
display composed behind it (R19, R30, R31, R166). -/

namespace Sys2Proof.Machine

open Sys2Proof

/-! ## Frames -/

/-- A new link touches the link alone. -/
theorem touches_setLink (s : State) (l : Link) : Touches [.link] s (s.setLink l) := by
  intro b hb
  cases b
  case link => simp at hb
  all_goals rfl

/-- Composing the display anew touches the Message Centre alone (R166). -/
theorem touches_refresh (s : State) : Touches [.msc] s (refresh s) := by
  intro b hb
  cases b
  case msc => simp at hb
  all_goals simp [Agree]

/-- A command that makes a new link and nothing else answers with it and touches at most the display besides. -/
theorem exists_answers_of_exec_eq_done_setLink {c : Instr} {s : State} {l : Link}
    (h : exec c s = done (s.setLink l)) :
    ∃ t, Answers c s t ∧ Touches [.link, .msc] s t ∧ t.link = l :=
  ⟨refresh (s.setLink l), h,
    ((touches_setLink s l).mono (by simp)).trans ((touches_refresh (s.setLink l)).mono (by simp)), by simp⟩

/-! ## The dispatcher (R19) -/

/-- The frame to be handed on leaves the ring and reaches its taker. -/
theorem dispatch_of_handsOn {s : State} {id : Byte} {f : Frame} {rest : List Frame} (h : HandsOn s id f rest)
    (k : Frame → State → State) : dispatch id k s = k f (s.setLink { s.link with ring := rest }) := by
  obtain ⟨hring, hlistening, hid⟩ := h
  simp [dispatch, hring, hlistening, hid]

/-! ## Status frames (R30, R31) -/

/-- A foreign frame counts FOREIGN, whatever its length and its effect (R30). -/
theorem statusFrame_of_foreign {expected : Nat} {f : Frame} (h : f.source ≠ expected) (len : Nat)
    (effect : State → State) (s : State) : statusFrame expected len effect f s = countForeign s :=
  if_pos h

/-- A frame of another length from the expected source has no effect (R31). -/
theorem statusFrame_of_wrongLength {expected len : Nat} {f : Frame} (hsource : f.source = expected)
    (hlen : f.data.length ≠ len) (effect : State → State) (s : State) :
    statusFrame expected len effect f s = s := by
  simp [statusFrame, hsource, hlen]

/-- The message id, the command, the expected source and the length of each status frame (R33). -/
def StatusCommand (s : State) (id : Byte) (c : Instr) (expected len : Nat) : Prop :=
  (id = 0x10 ∧ c = .engineStatus ∧ expected = s.settings.srcEngine ∧ len = 6) ∨
    (id = 0x12 ∧ c = .transStatus ∧ expected = s.settings.srcTrans ∧ len = 2) ∨
    (id = 0x20 ∧ c = .bodyStatus ∧ expected = s.settings.srcBody ∧ len = 3)

/-- Each status command tests the frame it is handed for its source and length, and differs from the others only in the
effect of a frame that passes (R30, R31). -/
theorem StatusCommand.exec_eq {s : State} {id : Byte} {c : Instr} {expected len : Nat} {f : Frame}
    {rest : List Frame} (hc : StatusCommand s id c expected len) (h : HandsOn s id f rest) :
    ∃ effect, exec c s = done (statusFrame expected len effect f (s.setLink { s.link with ring := rest })) := by
  rcases hc with ⟨rfl, rfl, rfl, rfl⟩ | ⟨rfl, rfl, rfl, rfl⟩ | ⟨rfl, rfl, rfl, rfl⟩
  · exact ⟨_, congrArg done (dispatch_of_handsOn h _)⟩
  · exact ⟨_, congrArg done (dispatch_of_handsOn h _)⟩
  · exact ⟨_, congrArg done (dispatch_of_handsOn h _)⟩

/-- Settles O24: a foreign frame and one of another length both come to a new link, before any effect is reached. -/
theorem foreignStatusChangesNoRecord : Obligations.ForeignStatusChangesNoRecord := by
  unfold Obligations.ForeignStatusChangesNoRecord
  intro s f rest id c expected len hc h
  obtain ⟨effect, hexec⟩ := StatusCommand.exec_eq hc h
  refine ⟨fun hforeign => ?foreign, fun hsource hlen => ?wrongLength⟩
  case foreign =>
    rw [statusFrame_of_foreign hforeign] at hexec
    exact exists_answers_of_exec_eq_done_setLink hexec
  case wrongLength =>
    rw [statusFrame_of_wrongLength hsource hlen] at hexec
    exact exists_answers_of_exec_eq_done_setLink hexec

end Sys2Proof.Machine
end

section
/-! SUPPORT. A second that passes: the clock one second on, what the trips and the bin make of it, the offer at a minute
change, and the settings of the clock, which hand the trips nothing (R42, R89, R94, R95, R156, R157). -/

namespace Sys2Proof.Machine

open Sys2Proof

/-! ## The clock (R156) -/

/-- A clock that shows a time of day goes on within the minute, into the next minute, into the next hour, or into the
next day. -/
theorem Clock.tick_cases {c : Clock} (h : ClockOk c) :
    (c.second ≤ 58 ∧ c.tick = { c with second := c.second + 1 }) ∨
      (c.second = 59 ∧ c.minute ≤ 58 ∧ c.tick = { c with second := 0, minute := c.minute + 1 }) ∨
      (c.second = 59 ∧ c.minute = 59 ∧ c.hour ≤ 22 ∧
        c.tick = { c with second := 0, minute := 0, hour := c.hour + 1 }) ∨
      (c.second = 59 ∧ c.minute = 59 ∧ c.hour = 23 ∧
        c.tick = { c with second := 0, minute := 0, hour := 0, day := min 36524 (c.day + 1) }) := by
  obtain ⟨hhour, hminute, hsecond, -⟩ := h
  unfold Clock.tick
  split
  · exact .inl ⟨by omega, rfl⟩
  · split
    · exact .inr (.inl ⟨by omega, by omega, rfl⟩)
    · split
      · exact .inr (.inr (.inl ⟨by omega, by omega, by omega, rfl⟩))
      · exact .inr (.inr (.inr ⟨by omega, by omega, by omega, rfl⟩))

/-- The second of day goes on by one, and from the last of a day to the first of the next. -/
theorem Clock.secondOfDay_tick {c : Clock} (h : ClockOk c) :
    c.tick.secondOfDay = (c.secondOfDay + 1) % 86400 := by
  have ⟨hhour, hminute, hsecond, _⟩ := h
  rcases Clock.tick_cases h with ⟨hs, heq⟩ | ⟨hs, hm, heq⟩ | ⟨hs, hm, hh, heq⟩ | ⟨hs, hm, hh, heq⟩ <;>
    rw [heq] <;> simp only [Clock.secondOfDay] <;> omega

/-- Midnight takes the next day, and the last day number is held. -/
theorem Clock.day_tick {c : Clock} (h : ClockOk c) :
    c.tick.day = if c.secondOfDay = 86399 then min 36524 (c.day + 1) else c.day := by
  have ⟨hhour, hminute, hsecond, _⟩ := h
  rcases Clock.tick_cases h with ⟨hs, heq⟩ | ⟨hs, hm, heq⟩ | ⟨hs, hm, hh, heq⟩ | ⟨hs, hm, hh, heq⟩ <;>
    rw [heq]
  case inr.inr.inr => rw [if_pos (by simp [Clock.secondOfDay, hs, hm, hh])]
  all_goals rw [if_neg (by unfold Clock.secondOfDay; omega)]

/-- The clock stays in range. -/
theorem ClockOk.tick {c : Clock} (h : ClockOk c) : ClockOk c.tick := by
  have ⟨hhour, hminute, hsecond, hday, hrest⟩ := h
  rcases Clock.tick_cases h with ⟨hs, heq⟩ | ⟨hs, hm, heq⟩ | ⟨hs, hm, hh, heq⟩ | ⟨hs, hm, hh, heq⟩ <;>
    rw [heq] <;>
      exact ⟨by dsimp only; omega, by dsimp only; omega, by dsimp only; omega, by dsimp only; omega, hrest⟩

/-- A second changes the time of day and the day number alone. -/
theorem Clock.tick_eq (c : Clock) :
    c.tick =
      { c with hour := c.tick.hour, minute := c.tick.minute, second := c.tick.second, day := c.tick.day } := by
  unfold Clock.tick
  split_ifs <;> rfl

/-- A clock in range stays so as its prescaler returns to 0. -/
theorem ClockOk.prescaler_zero {c : Clock} (h : ClockOk c) : ClockOk { c with prescaler := 0 } := by
  obtain ⟨hhour, hminute, hsecond, hday, -, hrest⟩ := h
  exact ⟨hhour, hminute, hsecond, hday, Nat.zero_lt_succ _, hrest⟩

/-! ## The trips and the bin (R89, R94, R95) -/

/-- In RUN each trip that does not await its reset counts the second, up to 359,999 (R89). -/
theorem trip_tripSecond (s : State) (x : Trip) :
    (tripSecond s).trc.trip x =
      if s.power.state = .run ∧ (s.trc.trip x).awaiting = false then
        { s.trc.trip x with run := min ((s.trc.trip x).run + 1) 359999 }
      else s.trc.trip x := by
  have hadd : (tripSecond s).trc.trip x =
      if s.power.state = .run then (s.trc.trip x).addSecond else s.trc.trip x := by
    unfold tripSecond
    split <;> cases x <;> rfl
  rw [hadd]
  by_cases hrun : s.power.state = .run <;> cases hawaiting : (s.trc.trip x).awaiting <;>
    simp [hrun, hawaiting, TripRecord.addSecond, satInc, maxRun]

/-- A second empties the bin of its metres (R94). -/
theorem binMetres_tripSecond (s : State) : (tripSecond s).trc.binMetres = 0 := rfl

/-- A second empties the bin of its fuel (R94). -/
theorem binFuel_tripSecond (s : State) : (tripSecond s).trc.binFuel = 0 := rfl

/-- In RUN and COURTESY the instant figure is worked from the bin (R94, R95). -/
theorem instant_tripSecond_of_awake {s : State} (h : s.awake = true) :
    (tripSecond s).trc.instant = some (instantOf s.settings.imperial s.trc.binMetres s.trc.binFuel) := by
  simp only [tripSecond, h, if_true, State.setTrc_trc]
  split <;> rfl

/-- In the other states the instant figure stands (R94). -/
theorem instant_tripSecond_of_not_awake {s : State} (h : s.awake = false) :
    (tripSecond s).trc.instant = s.trc.instant := by
  simp only [tripSecond, h, State.setTrc_trc, Bool.false_eq_true, if_false]
  split <;> rfl

/-! ## The offers (R14, R42) -/

/-- A frame whose id no entry has waits in a queue that had room for it (R14). -/
theorem queued_offer {f : Frame} {s : State} (hroom : s.link.txQueue.length < 8)
    (hid : ∀ e ∈ s.link.txQueue, e.frame.id ≠ f.id) : Queued (offer f s) f := by
  have hnew : ∀ e ∈ s.link.txQueue, e.frame.sameKey f = false := fun e he => by
    simp [Frame.sameKey, hid e he]
  refine ⟨freshEntry f s.seq, ?_, rfl⟩
  rw [offer_txQueue, txOffer_of_room hnew hroom]
  exact mem_txInsert.mpr (.inl rfl)

/-- CLUSTER_TIME waits after its offer to a queue with room and no entry of its id (R42). -/
theorem queued_offerTime {s : State} (hroom : s.link.txQueue.length < 8)
    (hid : ∀ e ∈ s.link.txQueue, e.frame.id ≠ 0x61) : Queued (offerTime s) (TimeFrame (offerTime s)) := by
  have hframe : TimeFrame (offerTime s) = TimeFrame s := by simp [TimeFrame]
  rw [hframe]
  exact queued_offer hroom hid

/-- CLUSTER_TIME waits with the display composed anew as it does without (R166). -/
theorem queued_refresh (s : State) :
    Queued (refresh s) (TimeFrame (refresh s)) ↔ Queued s (TimeFrame s) := by
  simp [Queued, TimeFrame]

/-! ## The second (R156, R157) -/

/-- At a minute change in RUN or COURTESY CLUSTER_TIME is offered with the time to which the clock has gone on, and
waits where the queue has room and no entry of its id (R42, R157). -/
theorem queued_passSecond {s : State} (hawake : s.awake = true) (hminute : 59 ≤ s.clock.second)
    (hroom : s.link.txQueue.length < 8) (hid : ∀ e ∈ s.link.txQueue, e.frame.id ≠ 0x61) :
    Queued (passSecond s) (TimeFrame (passSecond s)) := by
  have hoffer : passSecond s = offerTime (tripSecond (s.setClock s.clock.tick)) := by
    simp [passSecond, hawake, hminute]
  rw [hoffer]
  exact queued_offerTime hroom hid

/-- Nothing is offered within a minute, or asleep (R42). -/
theorem passSecond_link_of_no_offer {s : State} (h : s.awake = false ∨ s.clock.second < 59) :
    (passSecond s).link = s.link := by
  have hcond : ¬(decide (59 ≤ s.clock.second) = true ∧ s.awake = true) := by
    rcases h with h | h
    · simp [h]
    · simp [Nat.not_le.mpr h]
  unfold passSecond
  dsimp only
  rw [if_neg hcond]
  rfl

/-- The clock goes on by a second. -/
@[simp] theorem passSecond_clock (s : State) : (passSecond s).clock = s.clock.tick := by
  unfold passSecond
  dsimp only
  split <;> simp

/-- The trips take the second. -/
@[simp] theorem passSecond_trc (s : State) : (passSecond s).trc = (tripSecond s).trc := by
  unfold passSecond
  dsimp only
  split
  · simp only [offerTime_frame]
    rfl
  · rfl

/-- A new clock touches the clock alone. -/
theorem touches_setClock (s : State) (c : Clock) : Touches [.clock] s (s.setClock c) := by
  intro b hb
  cases b
  case clock => simp at hb
  all_goals rfl

/-- A second touches the clock, the trips and, by its offer, the link and the count of moments. -/
theorem touches_passSecond (s : State) : Touches [.link, .trc, .clock, .seq] s (passSecond s) := by
  intro b hb
  cases b
  case link | trc | clock | seq => simp at hb
  all_goals simp [Agree]

/-- In any state but OFF the prescaler returns to 0 and a second passes. -/
theorem exec_secondPassage {s : State} (h : s.power.state ≠ .off) :
    exec .secondPassage s = done (passSecond (s.setClock { s.clock with prescaler := 0 })) :=
  if_neg h

/-- SECOND_PASSAGE touches the clock, the trips, the link, the count of moments and the display. -/
theorem touches_secondPassage (s : State) :
    Touches [.link, .trc, .clock, .msc, .seq] s
      (refresh (passSecond (s.setClock { s.clock with prescaler := 0 }))) :=
  have hclock : Touches [.clock] s (s.setClock { s.clock with prescaler := 0 }) := touches_setClock s _
  ((hclock.mono (by simp)).trans ((touches_passSecond _).mono (by simp))).trans
    ((touches_refresh _).mono (by simp))

/-! ## The settings of the clock (R89, R160 to R163) -/

/-- A request hands the trips what its action hands them, for a refusal hands them nothing (R186). -/
theorem Service.take_trc {v : Service} (h : ∀ f s, (v.serve f s).trc = s.trc) (f : Frame) (s : State) :
    (v.take f s).trc = s.trc := by
  unfold Service.take
  split
  · simp
  · exact h f s

/-- A frame handed on leaves the trips to its taker (R19). -/
theorem dispatch_trc {k : Frame → State → State} (h : ∀ f s, (k f s).trc = s.trc) (id : Byte) (s : State) :
    (dispatch id k s).trc = s.trc := by
  rcases dispatch_cases id k s with heq | ⟨f, rest, -, -, -, heq⟩ <;> rw [heq]
  exact h f _

/-- A button event leaves the trips to its action (R171). -/
theorem onButton_trc {act : State → State} (h : ∀ s, (act s).trc = s.trc) (e : ButtonEvent) (s : State) :
    (onButton e act s).trc = s.trc := by
  unfold onButton
  split
  · split <;> simp [h]
  · rfl

/-- SET CLOCK leaves the trips alone. -/
theorem setClock_serve_trc (f : Frame) (s : State) : (setClock.serve f s).trc = s.trc := by
  simp [setClock]

/-- ADJUST HOUR leaves the trips alone. -/
theorem adjustHour_serve_trc (f : Frame) (s : State) : (adjustHour.serve f s).trc = s.trc := by
  unfold adjustHour
  dsimp only
  split <;> simp

/-- SET PRESS leaves the trips alone, whatever the line shows. -/
theorem inRun_setAction_trc (s : State) : (inRun setAction s).trc = s.trc := by
  unfold inRun
  split <;> simp

/-- A setting of the clock is no counted second (R89). -/
theorem exec_setting_trc {c : Instr} (hc : c ∈ [Instr.setClock, .setPress, .adjustHour]) {s t : State}
    (h : exec c s = .next t) : t.trc = s.trc := by
  simp only [List.mem_cons, List.not_mem_nil, or_false] at hc
  rcases hc with rfl | rfl | rfl
  case inl =>
    obtain rfl : refresh (dispatch 0x77 setClock.take s) = t := Host.Outcome.next.inj h
    simp [dispatch_trc (Service.take_trc setClock_serve_trc)]
  case inr.inl =>
    obtain rfl : onButton (.press .set) (inRun setAction) s = t := Host.Outcome.next.inj h
    exact onButton_trc inRun_setAction_trc _ s
  case inr.inr =>
    obtain rfl : refresh (dispatch 0x79 adjustHour.take s) = t := Host.Outcome.next.inj h
    simp [dispatch_trc (Service.take_trc adjustHour_serve_trc)]

/-- Settles O50: the command is a passing second from prescaler 0, of which the clock, the trips, the bin and the offer
have their own lemmas, with the display composed behind it. -/
theorem secondPassageCounts : Obligations.SecondPassageCounts := by
  unfold Obligations.SecondPassageCounts
  refine ⟨fun s hclock hpower => ?second, fun c hc s t h => exec_setting_trc hc h⟩
  intro later
  have hok : ClockOk { s.clock with prescaler := 0 } := hclock.prescaler_zero
  refine ⟨_, exec_secondPassage hpower, touches_secondPassage s, ?_⟩
  simp only [refresh_frame, passSecond_clock, passSecond_trc, State.setClock_clock]
  refine ⟨Clock.secondOfDay_tick hok, hok.tick, Clock.day_tick hok, Clock.tick_eq _, trip_tripSecond _ .a,
    trip_tripSecond _ .b, trip_tripSecond _ .journey, binMetres_tripSecond _, binFuel_tripSecond _,
    fun hawake => ?instant, instant_tripSecond_of_not_awake, fun hquiet => passSecond_link_of_no_offer hquiet,
    fun hawake hsecond hroom hid => ?minute⟩
  case instant =>
    refine (instant_tripSecond_of_awake hawake).trans ?_
    cases s.settings.imperial <;> simp [instantOf]
  case minute => exact (queued_refresh _).mpr (queued_passSecond hawake hsecond.ge hroom hid)

end Sys2Proof.Machine
end

section
/-! SUPPORT. What it is for a step to keep an invariant, block by block: each invariant reads a few blocks of the state, so a
new block keeps every invariant that does not read it. -/

namespace Sys2Proof.Machine

open Sys2Proof

/-- The invariants that every shared operation keeps one by one. -/
inductive Invariant where
  | memory | store | pattern | tx | gauge | warning | chime | range | bounds
  /-- The queue of commands is a given one. -/
  | queue (l : List Instr)
  /-- The serial memory is a given one. -/
  | held (m : Memory)
deriving DecidableEq

/-- An invariant holds in a state. -/
def Invariant.Holds : Invariant → State → Prop
  | .memory => MemoryInv
  | .store => StoreInv
  | .pattern => PatternInv
  | .tx => TxInv
  | .gauge => GaugeInv
  | .warning => WarningInv
  | .chime => ChimeInv
  | .range => RangeInv
  | .bounds => BoundsInv
  | .queue l => fun s => s.pending = l
  | .held m => fun s => s.store = m

/-- An invariant that a write of the serial memory keeps: any but that which says what the memory is. -/
def Invariant.allowsWrites : Invariant → Bool
  | .held _ => false
  | _ => true

/-- An invariant is kept from one state to another. -/
def Keeps (k : Invariant) (s t : State) : Prop := k.Holds s → k.Holds t

theorem Keeps.refl (k : Invariant) (s : State) : Keeps k s s := id

theorem Keeps.trans {k : Invariant} {s t u : State} (h : Keeps k s t) (h' : Keeps k t u) : Keeps k s u := h' ∘ h

/-- The same with the last step first, for a composite that ends in it. -/
theorem Keeps.after {k : Invariant} {s t u : State} (h' : Keeps k t u) (h : Keeps k s t) : Keeps k s u := h' ∘ h

/-- A fold of operations that keep an invariant keeps it. -/
theorem keeps_foldl {k : Invariant} {α : Type} {f : State → α → State} (h : ∀ s a, Keeps k s (f s a)) (l : List α)
    (s : State) : Keeps k s (l.foldl f s) := by
  induction l generalizing s with
  | nil => exact Keeps.refl k s
  | cons a l ih => exact (h s a).trans (ih (f s a))

/-! ## The bounds, block by block -/

/-- The link counters, the ring and the count of abandoned frames are within their limits (R13, R18, R21). -/
def LinkBounds (l : Link) : Prop := CountersOk l.counters ∧ l.ring.length ≤ 12 ∧ l.abandonRun ≤ 3

/-- The arrival counts are bytes (R26). -/
def SignalBounds (v : Vector SignalRecord 18) : Prop := ∀ g : Signal, v[g.ix].count ≤ 255

/-- The button queue and the count of bad readings are within their limits (R50, R62). -/
def InputBounds (i : Input) : Prop := i.events.length ≤ 7 ∧ i.fuel.bad ≤ 5

/-- The trips and the range window are within their limits (R84, R96). -/
def TripBounds (c : TripComputer) : Prop :=
  TripOk c.tripA ∧ TripOk c.tripB ∧ TripOk c.journey ∧ c.window.length ≤ 16 ∧ c.openMetres ≤ 1999 ∧
    c.openFuel ≤ 4294967295

/-- The distances that the Odometer Unit holds fit 32 bits (R105). -/
def DistanceBounds (o : Odometer) : Prop :=
  o.committed ≤ 4294967295 ∧ o.pending ≤ 4294967295 ∧ (∀ v ∈ o.verified, v ≤ 4294967295) ∧
    ∀ v ∈ o.base, v ≤ 4294967295

/-- The distances in the odometer's jobs fit 32 bits (R107). -/
def JobBounds (c : StoreController) : Prop :=
  (∀ j ∈ c.waitOdometer, j.value ≤ 4294967295) ∧
    ∀ a w mark slot, c.active = some a → a.job = .odometer w mark slot → w ≤ 4294967295

/-- The warning log and the counts are within their limits (R133, R134). -/
def LogBounds (w : WarningUnit) : Prop :=
  w.log.length ≤ 16 ∧ w.overflow ≤ 255 ∧ ∀ n : Warning, w.counts[n.ix] ≤ 255

theorem boundsInv_iff (s : State) :
    BoundsInv s ↔
      LinkBounds s.link ∧ SignalBounds s.signals ∧ InputBounds s.input ∧ TripBounds s.trc ∧ DistanceBounds s.odo ∧
        JobBounds s.stc ∧ LogBounds s.wnu := by
  simp only [BoundsInv, LinkBounds, SignalBounds, InputBounds, TripBounds, DistanceBounds, JobBounds, LogBounds,
    OdometerOk, State.signal, and_assoc]

/-! ## A new block -/

variable {k : Invariant} {s : State}

theorem keeps_setLink {v : Link} (htx : k = .tx → TxInv s → TxInv (s.setLink v))
    (hb : LinkBounds s.link → LinkBounds v) : Keeps k s (s.setLink v) := by
  cases k
  case tx => exact htx rfl
  case bounds =>
    intro h
    obtain ⟨hl, h⟩ := (boundsInv_iff s).mp h
    exact (boundsInv_iff _).mpr ⟨hb hl, h⟩
  all_goals exact id

/-- A new link that holds the same queue, on the line or off it as before. -/
theorem keeps_setLink_of_queue {v : Link} (hq : v.txQueue = s.link.txQueue) (hl : v.onLine = s.link.onLine)
    (hb : LinkBounds s.link → LinkBounds v) : Keeps k s (s.setLink v) :=
  keeps_setLink (fun _ h => by simpa [TxInv, hq, hl] using h) hb

theorem keeps_setSignals {v : Vector SignalRecord 18} (hb : SignalBounds s.signals → SignalBounds v) :
    Keeps k s (s.setSignals v) := by
  cases k
  case bounds =>
    intro h
    obtain ⟨hl, hs, h⟩ := (boundsInv_iff s).mp h
    exact (boundsInv_iff _).mpr ⟨hl, hb hs, h⟩
  all_goals exact id

theorem keeps_setInput {v : Input} (hb : InputBounds s.input → InputBounds v) : Keeps k s (s.setInput v) := by
  cases k
  case bounds =>
    intro h
    obtain ⟨hl, hs, hi, h⟩ := (boundsInv_iff s).mp h
    exact (boundsInv_iff _).mpr ⟨hl, hs, hb hi, h⟩
  all_goals exact id

theorem keeps_setGdu {v : GaugeDrive} (hg : GaugeInv s → GaugeInv (s.setGdu v)) : Keeps k s (s.setGdu v) := by
  cases k
  case gauge => exact hg
  all_goals exact id

theorem keeps_setTrc {v : TripComputer} (hb : TripBounds s.trc → TripBounds v) : Keeps k s (s.setTrc v) := by
  cases k
  case bounds =>
    intro h
    obtain ⟨hl, hs, hi, ht, h⟩ := (boundsInv_iff s).mp h
    exact (boundsInv_iff _).mpr ⟨hl, hs, hi, hb ht, h⟩
  all_goals exact id

theorem keeps_setOdo {v : Odometer} (hb : DistanceBounds s.odo → DistanceBounds v) : Keeps k s (s.setOdo v) := by
  cases k
  case bounds =>
    intro h
    obtain ⟨hl, hs, hi, ht, ho, h⟩ := (boundsInv_iff s).mp h
    exact (boundsInv_iff _).mpr ⟨hl, hs, hi, ht, hb ho, h⟩
  all_goals exact id

theorem keeps_setStc {v : StoreController} (hs : StoreInv s → StoreInv (s.setStc v))
    (hb : BoundsInv s → JobBounds v) : Keeps k s (s.setStc v) := by
  cases k
  case store => exact hs
  case bounds =>
    intro hk
    obtain ⟨hl, hs, hi, ht, ho, -, h⟩ := (boundsInv_iff s).mp hk
    exact (boundsInv_iff _).mpr ⟨hl, hs, hi, ht, ho, hb hk, h⟩
  all_goals exact id

/-- A new store controller with the same jobs of the odometer and in progress. -/
theorem keeps_setStc_of_jobs {v : StoreController} (hw : v.writePos < 16 ∨ v.writePos = s.stc.writePos)
    (ha : v.active = s.stc.active) (ho : v.waitOdometer = s.stc.waitOdometer) : Keeps k s (s.setStc v) := by
  refine keeps_setStc (fun ⟨hpos, himage, hactive⟩ => ⟨hw.elim id (· ▸ hpos), himage, ?_⟩) fun h => ?_
  · simpa [ha] using hactive
  · obtain ⟨-, -, -, -, -, hj, -⟩ := (boundsInv_iff s).mp h
    simpa [JobBounds, ha, ho] using hj

theorem keeps_setWnu {v : WarningUnit} (hw : WarningInv s → WarningInv (s.setWnu v))
    (hc : ChimeInv s → ChimeInv (s.setWnu v)) (hb : LogBounds s.wnu → LogBounds v) : Keeps k s (s.setWnu v) := by
  cases k
  case warning => exact hw
  case chime => exact hc
  case bounds =>
    intro hk
    obtain ⟨hl, hs, hi, ht, ho, hj, h⟩ := (boundsInv_iff s).mp hk
    exact (boundsInv_iff _).mpr ⟨hl, hs, hi, ht, ho, hj, hb h⟩
  all_goals exact id

theorem keeps_setSru (s : State) (v : ServiceUnit) : Keeps k s (s.setSru v) := by
  cases k
  all_goals exact id

theorem keeps_setClock {v : Clock} (hc : ClockOk s.clock → ClockOk v) : Keeps k s (s.setClock v) := by
  cases k
  case range => exact fun ⟨hs, hclock, hset⟩ => ⟨hs, hc hclock, hset⟩
  all_goals exact id

theorem keeps_setMsc {v : MessageCentre}
    (h : RangeInv s → ∀ p ∈ v.clockSet, p.1 ≤ 23 ∧ p.2 ≤ 59) : Keeps k s (s.setMsc v) := by
  cases k
  case range => exact fun hr => ⟨hr.1, hr.2.1, h hr⟩
  all_goals exact id

/-- A new Message Centre with clock-set mode as before, or left. -/
theorem keeps_setMsc_of_clockSet {v : MessageCentre} (h : v.clockSet = s.msc.clockSet ∨ v.clockSet = none) :
    Keeps k s (s.setMsc v) :=
  keeps_setMsc fun ⟨_, _, hset⟩ => by
    rcases h with h | h
    · simpa [h] using hset
    · simp [h]

theorem keeps_setRqs {v : RequestServer} (hs : s.rqs.staging.length = 62 → v.staging.length = 62)
    (ht : (∀ r ∈ s.rqs.inService, r.id = 0x76) → ∀ r ∈ v.inService, r.id = 0x76) : Keeps k s (s.setRqs v) := by
  cases k
  case store => exact fun ⟨hpos, himage, hactive⟩ => ⟨hpos, hs himage, hactive⟩
  case tx =>
    exact fun ⟨hlen, hord, hkeys, hok, hsrc, hline, hserved⟩ => ⟨hlen, hord, hkeys, hok, hsrc, hline, ht hserved⟩
  all_goals exact id

theorem keeps_setStore {v : Memory} (hk : k.allowsWrites = true) (h : s.store.wf = true → v.wf = true) :
    Keeps k s (s.setStore v) := by
  cases k
  case memory => exact h
  case held => cases hk
  all_goals exact id

theorem keeps_setSeq (s : State) (n : Nat) : Keeps k s (s.setSeq n) := by
  cases k
  all_goals exact id

theorem keeps_setDraw (s : State) (n : Nat) : Keeps k s (s.setDraw n) := by
  cases k
  all_goals exact id

theorem keeps_setPending {v : List Instr} (h : ∀ l, k ≠ .queue l) : Keeps k s (s.setPending v) := by
  cases k
  case queue l => exact absurd rfl (h l)
  all_goals exact id

/-- A new power record over the same pattern memory and configuration, outside STARTING. -/
theorem keeps_setPower {v : PowerUnit} (hm : v.patternMemory = s.power.patternMemory)
    (hp : v.patternSpoiled = s.power.patternSpoiled) (hc : v.configured = s.power.configured)
    (hs : v.state ≠ .starting ∨ (v.state = s.power.state ∧ v.step = s.power.step)) : Keeps k s (s.setPower v) := by
  cases k
  case pattern =>
    intro h hmade
    exact hm.trans (h (hp.symm.trans hmade))
  case gauge =>
    intro ⟨hok, hconf, hstep⟩
    refine ⟨hok, fun h => hconf (hc ▸ h), fun h => ?_⟩
    rcases hs with hs | ⟨hstate, hstep'⟩
    · exact absurd h hs
    · rw [State.setPower_power] at h ⊢
      rw [hc, hstep']
      exact hstep (hstate ▸ h)
  case warning => exact fun ⟨hnodup, hok, hmade⟩ => ⟨hnodup, hok, fun h => hmade (hp.symm.trans h)⟩
  all_goals exact id

theorem keeps_nextMoment (s : State) : Keeps k s s.nextMoment := keeps_setSeq s _

theorem keeps_nextDraw (s : State) : Keeps k s s.nextDraw := keeps_setDraw s _

theorem keeps_recordCode (c : Byte) (s : State) : Keeps k s (recordCode c s) := keeps_setRqs id id

end Sys2Proof.Machine
end

section
/-! SUPPORT. What the link keeps: an offer keeps the transmit queue in order and its keys apart (R14 to R17), an attempt
ends with no entry under attempt (R10 to R13), and reception leaves the queue alone (R5 to R7). -/

namespace Sys2Proof.Machine

open Sys2Proof

variable {k : Invariant} {s : State}

/-! ## The transmit queue -/

/-- The transmit queue in order, of frames of the catalogue from a station address, no two of one key. -/
def QueueOk (address : Nat) (q : List TxEntry) : Prop :=
  q.length ≤ 8 ∧ q.Pairwise (fun x y => x.frame.cls ≤ y.frame.cls) ∧
    q.Pairwise (fun x y => x.frame.sameKey y.frame = false) ∧ (∀ e ∈ q, EntryOk e) ∧
    ∀ e ∈ q, e.frame.source = address ∧ ∀ h ∈ e.held, h.source = address

theorem txInv_iff (s : State) :
    TxInv s ↔
      QueueOk s.settings.address s.link.txQueue ∧
        s.link.txQueue.countP (·.underAttempt) = (if s.link.onLine then 1 else 0) ∧
        ∀ r ∈ s.rqs.inService, r.id = 0x76 := by
  simp only [TxInv, QueueOk, and_assoc]

theorem queueOk_nil (address : Nat) : QueueOk address [] := by simp [QueueOk]

/-- A message id has one class in the catalogue. -/
theorem OwnClass.cls_eq {f g : Frame} (hf : OwnClass f) (hg : OwnClass g) (h : f.id = g.id) : f.cls = g.cls := by
  unfold OwnClass at hf hg
  rw [h] at hf
  rcases hf with ⟨hi, hc⟩ | ⟨hi, hc⟩ | ⟨hi, hc⟩ | ⟨hi, hc⟩ | ⟨hi, hi', hc⟩ <;>
    rcases hg with ⟨hj, hd⟩ | ⟨hj, hd⟩ | ⟨hj, hd⟩ | ⟨hj, hd⟩ | ⟨hj, hj', hd⟩ <;>
    simp_all

/-- What an offer of a frame makes of an entry that is in the queue (R14, R17). -/
def TxEntry.offered (f : Frame) (e : TxEntry) : TxEntry :=
  if e.frame.sameKey f then (if e.underAttempt then { e with held := some f } else { e with frame := f }) else e

theorem txReplace_eq_map (f : Frame) (q : List TxEntry) : txReplace f q = q.map (TxEntry.offered f) := rfl

@[simp] theorem TxEntry.offered_underAttempt (f : Frame) (e : TxEntry) :
    (e.offered f).underAttempt = e.underAttempt := by
  unfold TxEntry.offered
  split_ifs <;> simp_all

/-- An offered entry keeps its key and its class. -/
theorem TxEntry.offered_frame {f : Frame} {e : TxEntry} (hf : OwnClass f) (he : OwnClass e.frame) :
    (e.offered f).frame.cls = e.frame.cls ∧ (e.offered f).frame.id = e.frame.id ∧
      (e.offered f).frame.target = e.frame.target := by
  unfold TxEntry.offered
  split_ifs with hkey hunder
  · simp
  · obtain ⟨hid, htarget⟩ := Frame.sameKey_iff.mp hkey
    exact ⟨hf.cls_eq he hid.symm, hid.symm, htarget.symm⟩
  · simp

theorem TxEntry.offered_ok {f : Frame} {e : TxEntry} (hf : OwnClass f) (he : EntryOk e) : EntryOk (e.offered f) := by
  obtain ⟨hcls, hfailed, hheld⟩ := he
  unfold TxEntry.offered
  split_ifs with hkey hunder
  · refine ⟨hcls, hfailed, ?_⟩
    rintro h ⟨rfl⟩
    obtain ⟨hid, htarget⟩ := Frame.sameKey_iff.mp hkey
    exact ⟨hf, Frame.sameKey_iff.mpr ⟨hid.symm, htarget.symm⟩, hunder⟩
  · refine ⟨hf, hfailed, fun h hh => ?_⟩
    exact absurd (hheld h hh).2.2 hunder
  · exact ⟨hcls, hfailed, hheld⟩

theorem TxEntry.offered_source {f : Frame} {e : TxEntry} {address : Nat} (hf : f.source = address)
    (he : e.frame.source = address ∧ ∀ h ∈ e.held, h.source = address) :
    (e.offered f).frame.source = address ∧ ∀ h ∈ (e.offered f).held, h.source = address := by
  unfold TxEntry.offered
  split_ifs
  · exact ⟨he.1, by rintro h ⟨rfl⟩; exact hf⟩
  · exact ⟨hf, he.2⟩
  · exact he

theorem queueOk_txReplace {address : Nat} {f : Frame} {q : List TxEntry} (hf : OwnClass f)
    (hsrc : f.source = address) (h : QueueOk address q) : QueueOk address (txReplace f q) := by
  obtain ⟨hlen, hord, hkeys, hok, hsource⟩ := h
  have hframe (e : TxEntry) (he : e ∈ q) := TxEntry.offered_frame hf (hok e he).1
  rw [txReplace_eq_map]
  refine ⟨by simpa using hlen, ?_, ?_, ?_, ?_⟩
  · refine List.pairwise_map.mpr (hord.imp_of_mem fun {x y} hx hy hle => ?_)
    rwa [(hframe x hx).1, (hframe y hy).1]
  · refine List.pairwise_map.mpr (hkeys.imp_of_mem fun {x y} hx hy hne => ?_)
    obtain ⟨-, hxid, hxt⟩ := hframe x hx
    obtain ⟨-, hyid, hyt⟩ := hframe y hy
    simpa [Frame.sameKey, hxid, hxt, hyid, hyt] using hne
  · exact List.forall_mem_map.mpr fun e he => TxEntry.offered_ok hf (hok e he)
  · exact List.forall_mem_map.mpr fun e he => TxEntry.offered_source hsrc (hsource e he)

theorem txInsert_perm (e : TxEntry) (q : List TxEntry) : (txInsert e q).Perm (e :: q) := by
  induction q with
  | nil => exact List.Perm.refl _
  | cons x xs ih =>
    unfold txInsert
    split_ifs
    · exact (ih.cons x).trans (List.Perm.swap e x xs)
    · exact List.Perm.refl _

/-- A fresh entry of a key that no entry has joins a queue with room (R14). -/
theorem queueOk_txInsert {address m : Nat} {f : Frame} {q : List TxEntry} (hf : OwnClass f)
    (hsrc : f.source = address) (hroom : q.length < 8) (hnew : ∀ e ∈ q, e.frame.sameKey f = false)
    (h : QueueOk address q) : QueueOk address (txInsert (freshEntry f m) q) := by
  obtain ⟨hlen, hord, hkeys, hok, hsource⟩ := h
  have hfresh : EntryOk (freshEntry f m) := ⟨hf, by simp [freshEntry], by simp [freshEntry]⟩
  refine ⟨by simpa using hroom, ?_, ?_, ?_, ?_⟩
  · obtain ⟨p, r, rfl, hp, hr, heq⟩ := exists_txInsert_eq (freshEntry f m) hord
    rw [heq]
    obtain ⟨hop, hor, hpr⟩ := List.pairwise_append.mp hord
    refine List.pairwise_append.mpr ⟨hop, List.pairwise_cons.mpr ⟨fun x hx => (hr x hx).le, hor⟩, ?_⟩
    rintro x hx y (_ | ⟨_, hy⟩)
    · exact hp x hx
    · exact hpr x hx y hy
  · have hsymm : ∀ {x y : TxEntry}, x.frame.sameKey y.frame = false → y.frame.sameKey x.frame = false := by
      intro x y hxy
      rw [← Bool.not_eq_true, Frame.sameKey_iff] at hxy ⊢
      exact fun hk => hxy ⟨hk.1.symm, hk.2.symm⟩
    refine ((txInsert_perm _ q).pairwise_iff hsymm).mpr (List.pairwise_cons.mpr ⟨fun x hx => ?_, hkeys⟩)
    exact hsymm (hnew x hx)
  · intro e he
    rcases mem_txInsert.mp he with rfl | he
    · exact hfresh
    · exact hok e he
  · intro e he
    rcases mem_txInsert.mp he with rfl | he
    · exact ⟨hsrc, by simp [freshEntry]⟩
    · exact hsource e he

theorem QueueOk.sublist {address : Nat} {p q : List TxEntry} (hs : p.Sublist q) (h : QueueOk address q) :
    QueueOk address p := by
  obtain ⟨hlen, hord, hkeys, hok, hsource⟩ := h
  exact ⟨hs.length_le.trans hlen, hord.sublist hs, hkeys.sublist hs, fun e he => hok e (hs.subset he),
    fun e he => hsource e (hs.subset he)⟩

theorem txRemoveYoungest_sublist (c : Nat) (q : List TxEntry) : (txRemoveYoungest c q).Sublist q :=
  List.eraseP_sublist

/-- No entry under attempt is given up (R15). -/
theorem countP_txRemoveYoungest (c : Nat) (q : List TxEntry) :
    (txRemoveYoungest c q).countP (·.underAttempt) = q.countP (·.underAttempt) := by
  rcases List.exists_or_eq_self_of_eraseP
    (fun e : TxEntry => !e.underAttempt && e.frame.cls == c && e.entered == txYoungest c q) q with
    heq | ⟨e, p, r, -, he, hq, heq⟩
  · rw [txRemoveYoungest, heq]
  · have hwait : e.underAttempt = false := by simp_all
    rw [txRemoveYoungest, heq]
    conv_rhs => rw [hq]
    simp [hwait]

theorem countP_txOffer (f : Frame) (m : Nat) (q : List TxEntry) :
    (txOffer f m q).1.countP (·.underAttempt) = q.countP (·.underAttempt) := by
  have hinsert (q : List TxEntry) :
      (txInsert (freshEntry f m) q).countP (·.underAttempt) = q.countP (·.underAttempt) := by
    rw [(txInsert_perm _ q).countP_eq]
    simp [freshEntry]
  unfold txOffer
  split_ifs
  · simp [txReplace_eq_map, List.countP_map, Function.comp_def]
  · exact hinsert q
  · cases txLowestClass q with
    | none => rfl
    | some low =>
      dsimp only
      split_ifs
      · rw [hinsert, countP_txRemoveYoungest]
      · rfl

theorem queueOk_txOffer {address m : Nat} {f : Frame} {q : List TxEntry} (hf : OwnClass f)
    (hsrc : f.source = address) (h : QueueOk address q) : QueueOk address (txOffer f m q).1 := by
  unfold txOffer
  split_ifs with hany hroom
  · exact queueOk_txReplace hf hsrc h
  · exact queueOk_txInsert hf hsrc hroom (by simpa using hany) h
  · cases hlow : txLowestClass q with
    | none => exact h
    | some low =>
      dsimp only
      split_ifs
      · obtain ⟨⟨e, he, hw, hc⟩, -⟩ := txLowestClass_eq_some_iff.mp hlow
        have hlen := txRemoveYoungest_length_add_one he hw hc
        have hsub := txRemoveYoungest_sublist low q
        have hq := h.1
        refine queueOk_txInsert hf hsrc (by omega) (fun x hx => ?_) (h.sublist hsub)
        have hnew : ∀ e ∈ q, e.frame.sameKey f = false := by simpa using hany
        exact hnew x (hsub.subset hx)
      · exact h

/-! ## Offers -/

/-- An offer of a frame of the catalogue from the address in force (R14, R40). -/
theorem keeps_offer {f : Frame} (hf : k = .tx → OwnClass f) (hsrc : f.source = s.settings.address) :
    Keeps k s (offer f s) := by
  refine Keeps.trans (keeps_setLink (fun hk h => ?_) ?_) (keeps_nextMoment _)
  · obtain ⟨hq, hline, hserved⟩ := (txInv_iff s).mp h
    refine (txInv_iff _).mpr ⟨queueOk_txOffer (hf hk) hsrc hq, ?_, hserved⟩
    rw [State.setLink_link, countP_txOffer, hline]
    by_cases hidle : s.link.tx = .idle
    · rw [show s.link.onLine = false by simp [Link.onLine, hidle]]
      simp only [Link.onLine, hidle, true_and]
      split_ifs <;> simp_all
    · simp [Link.onLine, hidle]
  · rintro ⟨⟨h1, h2, h3, h4, h5, h6⟩, hring, hrun⟩
    refine ⟨?_, hring, hrun⟩
    dsimp only
    split_ifs
    · exact ⟨h1, h2, h3, h4, min_le_right _ _, h6⟩
    · exact ⟨h1, h2, h3, h4, h5, h6⟩

theorem keeps_offerBroadcast {cls : Nat} {id : Byte} {data : List Byte}
    (h : (id = 0x60 ∧ cls = 2) ∨ (id = 0x61 ∧ cls = 2) ∨ (id = 0x62 ∧ cls = 1) ∨ (id = 0x63 ∧ cls = 3)) :
    Keeps k s (offerBroadcast cls id data s) :=
  keeps_offer (fun _ => by unfold OwnClass; tauto) rfl

theorem keeps_offerDistance (s : State) : Keeps k s (offerDistance s) := keeps_offerBroadcast (by simp)

theorem keeps_offerTime (s : State) : Keeps k s (offerTime s) := keeps_offerBroadcast (by simp)

theorem keeps_offerWarnings (s : State) : Keeps k s (offerWarnings s) := keeps_offerBroadcast (by simp)

/-- A message id of the workshop requests (R186). -/
abbrev RequestId (id : Byte) : Prop := 0x70 ≤ id.toNat ∧ id.toNat ≤ 0x7C

theorem keeps_respond {id : Byte} (hid : k = .tx → RequestId id) (requester : Nat) (data : List Byte) :
    Keeps k s (respond id requester data s) :=
  keeps_offer (fun h => .inr (.inr (.inr (.inr ⟨(hid h).1, (hid h).2, rfl⟩)))) rfl

theorem keeps_answer {f : Frame} (hid : RequestId f.id) (data : List Byte) : Keeps k s (answer data f s) :=
  keeps_respond (fun _ => hid) _ _

theorem keeps_refuse {f : Frame} (hid : RequestId f.id) (c : Byte) : Keeps k s (refuse c f s) :=
  (keeps_recordCode c s).trans (keeps_respond (fun _ => hid) _ _)

/-! ## Reception and the dispatcher -/

theorem LinkBounds.ring_tail {l : Link} {f : Frame} {rest : List Frame} (hring : l.ring = f :: rest)
    (h : LinkBounds l) : LinkBounds { l with ring := rest } := by
  obtain ⟨hc, hr, hrun⟩ := h
  rw [hring, List.length_cons] at hr
  exact ⟨hc, by dsimp only; omega, hrun⟩

/-- A frame leaves the ring for its taker (R19). -/
theorem keeps_dispatch {id : Byte} {act : Frame → State → State} (h : ∀ f t, f.id = id → Keeps k t (act f t))
    (s : State) : Keeps k s (dispatch id act s) := by
  rcases dispatch_cases id act s with heq | ⟨f, rest, hring, -, hid, heq⟩ <;> rw [heq]
  · exact Keeps.refl k s
  · refine Keeps.trans ?_ (h f _ hid)
    exact keeps_setLink_of_queue rfl rfl (LinkBounds.ring_tail hring)

theorem keeps_countForeign (s : State) : Keeps k s (countForeign s) :=
  keeps_setLink_of_queue rfl rfl fun ⟨⟨h1, h2, _, h4, h5, h6⟩, hring, hrun⟩ =>
    ⟨⟨h1, h2, min_le_right _ _, h4, h5, h6⟩, hring, hrun⟩

theorem LinkBounds.checkError {l : Link} {r : Receiver} (h : LinkBounds l) :
    LinkBounds { l with receiver := r, counters := l.counters.checkError } := by
  obtain ⟨⟨-, hc⟩, h⟩ := h
  exact ⟨⟨min_le_right _ _, hc⟩, h⟩

theorem keeps_checkClash {source : Nat} (h : s.link.onLine = false) : Keeps k s (checkClash source s) := by
  unfold checkClash
  split_ifs
  · refine Keeps.trans ?_ (keeps_recordCode _ _)
    exact keeps_setLink_of_queue rfl (h ▸ rfl) id
  · exact Keeps.refl k s

theorem keeps_offerRing (f : Frame) (s : State) : Keeps k s (offerRing f s) := by
  unfold offerRing
  split_ifs with haccepted hroom
  · refine keeps_setLink_of_queue rfl rfl fun ⟨hc, _, hrun⟩ => ⟨hc, ?_, hrun⟩
    simpa using hroom
  · refine Keeps.trans ?_ (keeps_recordCode _ _)
    exact keeps_setLink_of_queue rfl rfl fun ⟨⟨h1, h2, h3, h4, h5, _⟩, hring, hrun⟩ =>
      ⟨⟨h1, h2, h3, h4, h5, min_le_right _ _⟩, hring, hrun⟩
  · exact Keeps.refl k s

/-! ## Attempts (R9 to R13) -/

/-- An entry whose attempt is over holds no contents besides its own (R17). -/
theorem TxEntry.settle_ok {e : TxEntry} {n : Nat} (hn : n ≤ 3) (h : EntryOk e) : EntryOk (e.settle n) := by
  obtain ⟨hcls, -, hheld⟩ := h
  refine ⟨?_, hn, by simp [TxEntry.settle]⟩
  cases hh : e.held with
  | none => simpa [TxEntry.settle, hh] using hcls
  | some f => simpa [TxEntry.settle, hh] using (hheld f hh).1

theorem TxEntry.settle_frame {e : TxEntry} {n : Nat} (h : EntryOk e) :
    (e.settle n).frame.cls = e.frame.cls ∧ (e.settle n).frame.id = e.frame.id ∧
      (e.settle n).frame.target = e.frame.target := by
  obtain ⟨hcls, -, hheld⟩ := h
  cases hh : e.held with
  | none => simp [TxEntry.settle, hh]
  | some f =>
    obtain ⟨hf, hkey, -⟩ := hheld f hh
    obtain ⟨hid, htarget⟩ := Frame.sameKey_iff.mp hkey
    simpa [TxEntry.settle, hh] using ⟨hf.cls_eq hcls hid, hid, htarget⟩

theorem TxEntry.settle_source {e : TxEntry} {n address : Nat}
    (h : e.frame.source = address ∧ ∀ h ∈ e.held, h.source = address) :
    (e.settle n).frame.source = address ∧ ∀ h ∈ (e.settle n).held, h.source = address := by
  refine ⟨?_, by simp [TxEntry.settle]⟩
  cases hh : e.held with
  | none => simpa [TxEntry.settle, hh] using h.1
  | some f => simpa [TxEntry.settle, hh] using h.2 f hh

/-- The end of an attempt that leaves every entry in its place: those under attempt are settled. -/
theorem queueOk_map_settle {address : Nat} {q : List TxEntry} {n : TxEntry → Nat} (h : QueueOk address q)
    (hn : ∀ e ∈ q, e.underAttempt = true → n e ≤ 3) :
    QueueOk address (q.map (fun e => if e.underAttempt then e.settle (n e) else e)) := by
  obtain ⟨hlen, hord, hkeys, hok, hsource⟩ := h
  have hframe : ∀ e ∈ q, ∀ e', e' = (if e.underAttempt then e.settle (n e) else e) →
      e'.frame.cls = e.frame.cls ∧ e'.frame.id = e.frame.id ∧ e'.frame.target = e.frame.target := by
    rintro e he _ rfl
    split_ifs
    · exact TxEntry.settle_frame (hok e he)
    · simp
  refine ⟨by simpa using hlen, ?_, ?_, ?_, ?_⟩
  · refine List.pairwise_map.mpr (hord.imp_of_mem fun {x y} hx hy hle => ?_)
    rwa [(hframe x hx _ rfl).1, (hframe y hy _ rfl).1]
  · refine List.pairwise_map.mpr (hkeys.imp_of_mem fun {x y} hx hy hne => ?_)
    obtain ⟨-, hxid, hxt⟩ := hframe x hx _ rfl
    obtain ⟨-, hyid, hyt⟩ := hframe y hy _ rfl
    simpa [Frame.sameKey, hxid, hxt, hyid, hyt] using hne
  · refine List.forall_mem_map.mpr fun e he => ?_
    split_ifs with hunder
    · exact TxEntry.settle_ok (hn e he hunder) (hok e he)
    · exact hok e he
  · refine List.forall_mem_map.mpr fun e he => ?_
    split_ifs
    · exact TxEntry.settle_source (hsource e he)
    · exact hsource e he

theorem countP_map_settle (q : List TxEntry) (n : TxEntry → Nat) :
    (q.map (fun e => if e.underAttempt then e.settle (n e) else e)).countP (·.underAttempt) = 0 := by
  rw [List.countP_eq_zero]
  refine List.forall_mem_map.mpr fun e _ => ?_
  split_ifs with h <;> simp [TxEntry.settle, h]

/-- The entries left after a success or an abandonment are settled entries of the queue (R16, R17). -/
theorem filterMap_leaveEntry_eq (q : List TxEntry) :
    q.filterMap leaveEntry =
      (q.filter (fun e => !e.underAttempt || e.held.isSome)).map
        (fun e => if e.underAttempt then e.settle 0 else e) := by
  rw [← List.filterMap_eq_map, List.filterMap_filter]
  refine List.filterMap_congr fun e _ => ?_
  unfold leaveEntry
  cases hu : e.underAttempt <;> cases hh : e.held <;> simp [hu]

theorem queueOk_leave {address : Nat} {q : List TxEntry} (h : QueueOk address q) :
    QueueOk address (q.filterMap leaveEntry) := by
  rw [filterMap_leaveEntry_eq]
  exact queueOk_map_settle (h.sublist List.filter_sublist) fun _ _ _ => Nat.zero_le _

theorem countP_leave (q : List TxEntry) : (q.filterMap leaveEntry).countP (·.underAttempt) = 0 := by
  rw [filterMap_leaveEntry_eq]
  exact countP_map_settle _ _

/-- A new link with no entry under attempt and the transmitter off the line. -/
theorem keeps_setLink_offLine {v : Link} (hq : QueueOk s.settings.address s.link.txQueue → QueueOk s.settings.address v.txQueue)
    (hc : v.txQueue.countP (·.underAttempt) = 0) (hl : v.onLine = false) (hb : LinkBounds s.link → LinkBounds v) :
    Keeps k s (s.setLink v) := by
  refine keeps_setLink (fun _ h => ?_) hb
  obtain ⟨hqueue, -, hserved⟩ := (txInv_iff s).mp h
  exact (txInv_iff _).mpr ⟨hq hqueue, by simp [hc, hl], hserved⟩

theorem countP_markHead {e : TxEntry} {q : List TxEntry} (h : (e :: q).countP (·.underAttempt) = 0) :
    (markHead (e :: q)).countP (·.underAttempt) = 1 := by
  rw [List.countP_cons] at h
  have hq : q.countP (·.underAttempt) = 0 := by omega
  simp [markHead, hq]

theorem queueOk_markHead {address : Nat} {q : List TxEntry} (h : QueueOk address q) :
    QueueOk address (markHead q) := by
  cases q with
  | nil => exact h
  | cons e q =>
    obtain ⟨hlen, hord, hkeys, hok, hsource⟩ := h
    refine ⟨hlen, ?_, ?_, ?_, ?_⟩
    · exact List.pairwise_cons.mpr (List.pairwise_cons.mp hord)
    · exact List.pairwise_cons.mpr (List.pairwise_cons.mp hkeys)
    · refine List.forall_mem_cons.mpr ⟨?_, fun x hx => hok x (List.mem_cons_of_mem e hx)⟩
      obtain ⟨hcls, hfailed, hheld⟩ := hok e List.mem_cons_self
      exact ⟨hcls, hfailed, fun g hg => ⟨(hheld g hg).1, (hheld g hg).2.1, rfl⟩⟩
    · exact List.forall_mem_cons.mpr
        ⟨hsource e List.mem_cons_self, fun x hx => hsource x (List.mem_cons_of_mem e hx)⟩

end Sys2Proof.Machine
end

section
/-! SUPPORT. The chime queue (R135, R136): what a request given to it leaves in it, and that the queue and the tone stay in
agreement whatever is given, cancelled or preempted (R138 to R140). -/

namespace Sys2Proof.Machine

open Sys2Proof

variable {k : Invariant} {s : State}

/-! ## The queue -/

/-- A chime queue: at most eight requests in order, one for each source (R135, R136). -/
def ChimesOk (q : List ChimeRequest) : Prop :=
  q.length ≤ 8 ∧ q.Pairwise ChimeBefore ∧ (q.map (·.source)).Nodup

/-- The queue agrees with the tone: empty under an IDLE one, and behind a sounding request nothing of its source and nothing
of a smaller class number (R138, R139). -/
def ToneOk (q : List ChimeRequest) : Tone → Prop
  | .idle => q = []
  | .sounding r => ∀ x ∈ q, x.source ≠ r.source ∧ r.cls ≤ x.cls
  | .silent => True
  | .spacing => True

theorem chimeInv_iff (s : State) : ChimeInv s ↔ ChimesOk s.wnu.chimes ∧ ToneOk s.wnu.chimes s.wnu.tone := by
  unfold ChimeInv ChimesOk
  cases s.wnu.tone <;> simp only [ToneOk, and_assoc]

theorem ChimesOk.sublist {p q : List ChimeRequest} (hs : p.Sublist q) (h : ChimesOk q) : ChimesOk p :=
  ⟨hs.length_le.trans h.1, h.2.1.sublist hs, h.2.2.sublist (hs.map _)⟩

theorem ToneOk.subset {p q : List ChimeRequest} {t : Tone} (hs : p ⊆ q) (h : ToneOk q t) : ToneOk p t := by
  cases t with
  | idle => exact List.subset_nil.mp (h ▸ hs)
  | sounding r => exact fun x hx => h x (hs hx)
  | silent => trivial
  | spacing => trivial

theorem chimeRemove_sublist (src : ChimeSource) (q : List ChimeRequest) : (chimeRemove src q).Sublist q :=
  List.filter_sublist

theorem mem_chimeRemove {src : ChimeSource} {q : List ChimeRequest} {x : ChimeRequest} :
    x ∈ chimeRemove src q ↔ x ∈ q ∧ x.source ≠ src := by
  simp [chimeRemove]

theorem chimeRemoveYoungest_sublist (c : Nat) (q : List ChimeRequest) : (chimeRemoveYoungest c q).Sublist q :=
  List.eraseP_sublist

/-- Only a request of the class is given up (R136). -/
theorem mem_chimeRemoveYoungest_of_cls_ne {c : Nat} {q : List ChimeRequest} {x : ChimeRequest} (hx : x ∈ q)
    (hc : x.cls ≠ c) : x ∈ chimeRemoveYoungest c q :=
  (List.mem_eraseP_of_neg (by simp [hc])).mpr hx

theorem chimeLowestClass_eq_some_iff {q : List ChimeRequest} {c : Nat} :
    chimeLowestClass q = some c ↔ (∃ x ∈ q, x.cls = c) ∧ ∀ x ∈ q, x.cls ≤ c := by
  rw [chimeLowestClass, List.max?_eq_some_iff, List.forall_mem_map]
  simp

/-- The latest time of entry of a class that waits is that of a request of it (R136). -/
theorem exists_latest {c : Nat} {q : List ChimeRequest} {x : ChimeRequest} (hx : x ∈ q) (hc : x.cls = c) :
    ∃ y ∈ q, y.cls = c ∧ (∀ z ∈ q, z.cls = c → z.entered ≤ y.entered) ∧
      y.entered = (((q.filter (fun r => r.cls == c)).map (·.entered)).max?).getD 0 := by
  have hmem : x.entered ∈ (q.filter (fun r => r.cls == c)).map (·.entered) :=
    List.mem_map_of_mem (List.mem_filter.mpr ⟨hx, by simp [hc]⟩)
  obtain ⟨n, hn⟩ := Option.isSome_iff_exists.mp (List.isSome_max?_of_mem hmem)
  obtain ⟨hin, hmax⟩ := List.max?_eq_some_iff.mp hn
  obtain ⟨y, hy, rfl⟩ := List.mem_map.mp hin
  obtain ⟨hyq, hyc⟩ := List.mem_filter.mp hy
  refine ⟨y, hyq, by simpa using hyc, fun z hz hzc => ?_, by simp [hn]⟩
  exact hmax z.entered (List.mem_map_of_mem (List.mem_filter.mpr ⟨hz, by simp [hzc]⟩))

theorem chimeRemoveYoungest_length {c : Nat} {q : List ChimeRequest} (h : chimeLowestClass q = some c) :
    (chimeRemoveYoungest c q).length + 1 = q.length := by
  obtain ⟨⟨x, hx, hc⟩, -⟩ := chimeLowestClass_eq_some_iff.mp h
  obtain ⟨y, hy, hyc, -, hye⟩ := exists_latest hx hc
  exact List.length_eraseP_add_one hy (by simp [hyc, hye])

theorem chimeInsert_perm (r : ChimeRequest) (q : List ChimeRequest) : (chimeInsert r q).Perm (r :: q) := by
  induction q with
  | nil => exact List.Perm.refl _
  | cons x xs ih =>
    unfold chimeInsert
    split_ifs
    · exact (ih.cons x).trans (List.Perm.swap r x xs)
    · exact List.Perm.refl _

theorem chimesOk_insert {r : ChimeRequest} {q : List ChimeRequest} (h : ChimesOk q) (hroom : q.length < 8)
    (hnew : ∀ x ∈ q, x.source ≠ r.source) : ChimesOk (chimeInsert r q) := by
  refine ⟨by simpa using hroom, chimeInsert_sorted h.2.1, ?_⟩
  rw [((chimeInsert_perm r q).map _).nodup_iff, List.map_cons, List.nodup_cons]
  exact ⟨fun hmem => by obtain ⟨x, hx, he⟩ := List.mem_map.mp hmem; exact hnew x hx he, h.2.2⟩

theorem chimeOf_eq_none_iff {src : ChimeSource} {q : List ChimeRequest} :
    chimeOf src q = none ↔ ∀ x ∈ q, x.source ≠ src := by
  simp [chimeOf]

theorem chimeOf_eq_some {src : ChimeSource} {q : List ChimeRequest} {x : ChimeRequest} (h : chimeOf src q = some x) :
    x ∈ q ∧ x.source = src :=
  ⟨List.mem_of_find?_eq_some h, by simpa using List.find?_some h⟩

/-- A source has one waiting request at most. -/
theorem ChimesOk.eq_of_source {q : List ChimeRequest} (h : ChimesOk q) {x y : ChimeRequest} (hx : x ∈ q) (hy : y ∈ q)
    (hs : x.source = y.source) : x = y :=
  List.inj_on_of_nodup_map h.2.2 hx hy hs

/-- What giving a request to the queue can do: replace the request of its source, join, displace a request of the largest
class number, or be dropped (R135, R136). -/
theorem chimeJoin_cases (r : ChimeRequest) (q : List ChimeRequest) :
    (∃ old ∈ q, old.source = r.source ∧
        chimeJoin r q = (chimeInsert { r with entered := old.entered } (chimeRemove r.source q), true)) ∨
      (∀ x ∈ q, x.source ≠ r.source) ∧
        ((q.length < 8 ∧ chimeJoin r q = (chimeInsert r q, true)) ∨
          (8 ≤ q.length ∧ ∃ low, chimeLowestClass q = some low ∧ r.cls < low ∧
            chimeJoin r q = (chimeInsert r (chimeRemoveYoungest low q), true)) ∨
          (8 ≤ q.length ∧ (∀ x ∈ q, x.cls ≤ r.cls) ∧ chimeJoin r q = (q, false))) := by
  unfold chimeJoin
  cases hof : chimeOf r.source q with
  | some old => exact .inl ⟨old, (chimeOf_eq_some hof).1, (chimeOf_eq_some hof).2, rfl⟩
  | none =>
    refine .inr ⟨chimeOf_eq_none_iff.mp hof, ?_⟩
    dsimp only
    split_ifs with hlen
    · exact .inl ⟨hlen, rfl⟩
    · refine .inr ?_
      cases hlow : chimeLowestClass q with
      | none =>
        have hnil : q = [] := by simpa [chimeLowestClass] using hlow
        simp [hnil] at hlen
      | some low =>
        dsimp only
        split_ifs with hlt
        · exact .inl ⟨by omega, low, rfl, hlt, rfl⟩
        · refine .inr ⟨by omega, fun x hx => ?_, rfl⟩
          exact ((chimeLowestClass_eq_some_iff.mp hlow).2 x hx).trans (not_lt.mp hlt)

theorem chimesOk_chimeJoin {r : ChimeRequest} {q : List ChimeRequest} (h : ChimesOk q) :
    ChimesOk (chimeJoin r q).1 := by
  rcases chimeJoin_cases r q with ⟨old, hold, hsrc, heq⟩ | ⟨hnew, ⟨hlen, heq⟩ | ⟨-, low, hlow, -, heq⟩ | ⟨-, -, heq⟩⟩ <;>
    rw [heq]
  · have hlt : (chimeRemove r.source q).length < q.length :=
      List.length_filter_lt_length_iff_exists.mpr ⟨old, hold, by simp [hsrc]⟩
    have hlen := h.1
    exact chimesOk_insert (h.sublist (chimeRemove_sublist _ q)) (by omega) fun x hx => (mem_chimeRemove.mp hx).2
  · exact chimesOk_insert h hlen hnew
  · have hlen := h.1
    have hgone := chimeRemoveYoungest_length hlow
    have hsub := chimeRemoveYoungest_sublist low q
    exact chimesOk_insert (h.sublist hsub) (by omega) fun x hx => hnew x (hsub.subset hx)
  · exact h

/-- What waits after a request was given waited before, from another source, or is the request, but for its time of
entry. -/
theorem mem_chimeJoin {r x : ChimeRequest} {q : List ChimeRequest} (hx : x ∈ (chimeJoin r q).1) :
    (∃ n, x = { r with entered := n }) ∨ (x ∈ q ∧ x.source ≠ r.source) := by
  rcases chimeJoin_cases r q with ⟨old, -, -, heq⟩ | ⟨hnew, ⟨-, heq⟩ | ⟨-, low, -, -, heq⟩ | ⟨-, -, heq⟩⟩ <;>
    rw [heq] at hx
  · rcases mem_chimeInsert.mp hx with rfl | hx
    · exact .inl ⟨_, rfl⟩
    · exact .inr (mem_chimeRemove.mp hx)
  · rcases mem_chimeInsert.mp hx with rfl | hx
    · exact .inl ⟨x.entered, rfl⟩
    · exact .inr ⟨hx, hnew x hx⟩
  · rcases mem_chimeInsert.mp hx with rfl | hx
    · exact .inl ⟨x.entered, rfl⟩
    · have hx := (chimeRemoveYoungest_sublist low q).subset hx
      exact .inr ⟨hx, hnew x hx⟩
  · exact .inr ⟨hx, hnew x hx⟩

/-- A request that is taken is in the queue, at its time of entry or that of the one it replaced. -/
theorem exists_mem_chimeJoin {r : ChimeRequest} {q : List ChimeRequest} (h : (chimeJoin r q).2 = true) :
    ∃ n, { r with entered := n } ∈ (chimeJoin r q).1 := by
  rcases chimeJoin_cases r q with ⟨old, -, -, heq⟩ | ⟨-, ⟨-, heq⟩ | ⟨-, low, -, -, heq⟩ | ⟨-, -, heq⟩⟩ <;>
    rw [heq] at h ⊢
  · exact ⟨_, mem_chimeInsert.mpr (.inl rfl)⟩
  · exact ⟨r.entered, mem_chimeInsert.mpr (.inl rfl)⟩
  · exact ⟨r.entered, mem_chimeInsert.mpr (.inl rfl)⟩
  · exact absurd h Bool.false_ne_true

/-- A request of a smaller class number from another source stays in the queue. -/
theorem mem_chimeJoin_of_cls_lt {r x : ChimeRequest} {q : List ChimeRequest} (hx : x ∈ q) (hs : x.source ≠ r.source)
    (hc : x.cls < r.cls) : x ∈ (chimeJoin r q).1 := by
  rcases chimeJoin_cases r q with ⟨old, -, -, heq⟩ | ⟨-, ⟨-, heq⟩ | ⟨-, low, -, hlt, heq⟩ | ⟨-, -, heq⟩⟩ <;>
    rw [heq]
  · exact mem_chimeInsert.mpr (.inr (mem_chimeRemove.mpr ⟨hx, hs⟩))
  · exact mem_chimeInsert.mpr (.inr hx)
  · exact mem_chimeInsert.mpr (.inr (mem_chimeRemoveYoungest_of_cls_ne hx (by omega)))
  · exact hx

/-! ## The tone -/

/-- The Warning Unit's chimes are in order and agree with its tone. -/
def WarningUnit.ChimeOk (w : WarningUnit) : Prop := ChimesOk w.chimes ∧ ToneOk w.chimes w.tone

theorem chimeOk_startHead {w : WarningUnit} (h : ChimesOk w.chimes) : w.startHead.ChimeOk := by
  unfold WarningUnit.startHead
  cases hq : w.chimes with
  | nil => exact ⟨by simpa [hq] using h, by simp [ToneOk]⟩
  | cons r rest =>
    rw [hq] at h
    have hsub : rest.Sublist (r :: rest) := List.sublist_cons_self r rest
    refine ⟨h.sublist hsub, fun x hx => ⟨fun hs => ?_, ?_⟩⟩
    · have hnot := (List.nodup_cons.mp h.2.2).1
      exact hnot (List.mem_map.mpr ⟨x, hx, hs⟩)
    · rcases (List.pairwise_cons.mp h.2.1).1 x hx with hlt | ⟨heq, -⟩
      · exact hlt.le
      · exact heq.le

theorem chimeOk_allowTone {w : WarningUnit} (h : w.ChimeOk) : w.allowTone.ChimeOk := by
  unfold WarningUnit.allowTone
  split_ifs
  · exact chimeOk_startHead h.1
  · exact h

theorem chimeOk_endPattern {w : WarningUnit} (h : ChimesOk w.chimes) : w.endPattern.ChimeOk := ⟨h, trivial⟩

theorem stopSounding_eq (w : WarningUnit) (src : ChimeSource) (stops : Pattern → Bool) :
    w.stopSounding src stops = w ∨ w.stopSounding src stops = w.endPattern := by
  unfold WarningUnit.stopSounding
  cases w.tone with
  | sounding r =>
    dsimp only
    split_ifs
    · exact .inr rfl
    · exact .inl rfl
  | idle | silent | spacing => exact .inl rfl

theorem chimeOk_stopSounding {w : WarningUnit} (h : w.ChimeOk) (src : ChimeSource) (stops : Pattern → Bool) :
    (w.stopSounding src stops).ChimeOk := by
  rcases stopSounding_eq w src stops with heq | heq <;> rw [heq]
  · exact h
  · exact chimeOk_endPattern h.1

/-- A queue that loses requests stays in agreement with the tone. -/
theorem WarningUnit.ChimeOk.sublist {w : WarningUnit} {q : List ChimeRequest} (hs : q.Sublist w.chimes)
    (h : w.ChimeOk) : WarningUnit.ChimeOk { w with chimes := q } :=
  ⟨h.1.sublist hs, h.2.subset hs.subset⟩

/-- The request that a preemption sounds: it waits in the queue given back the preempted one, and nothing of a smaller class
number waits beside it (R139). -/
theorem preempt_spec {w : WarningUnit} {cur r : ChimeRequest} (hq : ChimesOk w.chimes) (hr : r ∈ w.chimes)
    (hcur : ∀ x ∈ w.chimes, x.source ≠ r.source → cur.cls ≤ x.cls) (hsrc : cur.source ≠ r.source)
    (hcls : r.cls < cur.cls) :
    let q := if cur.pattern.continuous then (chimeJoin cur w.chimes).1 else w.chimes
    ChimesOk q ∧ r ∈ q ∧ (∀ x ∈ q, x.source ≠ r.source → r.cls ≤ x.cls) ∧
      w.preempt cur r.source = { w with tone := .sounding r, chimes := chimeRemove r.source q } := by
  intro q
  have hok : ChimesOk q := by
    dsimp only [q]
    split_ifs
    · exact chimesOk_chimeJoin hq
    · exact hq
  have hmem : r ∈ q := by
    dsimp only [q]
    split_ifs
    · exact mem_chimeJoin_of_cls_lt hr (Ne.symm hsrc) hcls
    · exact hr
  have hle : ∀ x ∈ q, x.source ≠ r.source → r.cls ≤ x.cls := by
    intro x hx hne
    dsimp only [q] at hx
    split_ifs at hx
    · rcases mem_chimeJoin hx with ⟨n, rfl⟩ | ⟨hx, -⟩
      · exact hcls.le
      · exact hcls.le.trans (hcur x hx hne)
    · exact hcls.le.trans (hcur x hx hne)
  refine ⟨hok, hmem, hle, ?_⟩
  cases hof : chimeOf r.source q with
  | none => exact absurd rfl (chimeOf_eq_none_iff.mp hof r hmem)
  | some y =>
    obtain ⟨hy, hys⟩ := chimeOf_eq_some hof
    rw [hok.eq_of_source hy hmem hys] at hof
    change (match chimeOf r.source q with
      | none => w
      | some r' => { w with tone := .sounding r', chimes := chimeRemove r.source q }) = _
    rw [hof]

theorem chimeOk_giveChime {w : WarningUnit} {r : ChimeRequest} (h : w.ChimeOk) : (w.giveChime r).1.ChimeOk := by
  have hq := chimesOk_chimeJoin (r := r) h.1
  have htone := h.2
  unfold WarningUnit.giveChime
  cases hw : w.tone with
  | silent => exact ⟨hq, by simp [ToneOk]⟩
  | spacing => exact ⟨hq, by simp [ToneOk]⟩
  | idle => exact chimeOk_startHead hq
  | sounding cur =>
    rw [hw] at htone
    dsimp only
    split_ifs with hsame hpre
    · exact ⟨hq, trivial⟩
    · obtain ⟨htaken, hlt⟩ := hpre
      obtain ⟨n, hn⟩ := exists_mem_chimeJoin htaken
      have hcur : ∀ x ∈ (chimeJoin r w.chimes).1, x.source ≠ r.source → cur.cls ≤ x.cls := by
        intro x hx hne
        rcases mem_chimeJoin hx with ⟨m, rfl⟩ | ⟨hx, -⟩
        · exact absurd rfl hne
        · exact (htone x hx).2
      obtain ⟨hok, -, hle, heq⟩ :=
        preempt_spec (w := { w with chimes := (chimeJoin r w.chimes).1, tone := .sounding cur }) (cur := cur)
          (r := { r with entered := n }) hq hn hcur hsame hlt
      change WarningUnit.ChimeOk (WarningUnit.preempt _ cur { r with entered := n }.source)
      rw [heq]
      refine ⟨hok.sublist (chimeRemove_sublist _ _), fun x hx => ?_⟩
      obtain ⟨hx, hne⟩ := mem_chimeRemove.mp hx
      exact ⟨hne, hle x hx hne⟩
    · refine ⟨hq, ?_⟩
      intro x hx
      rcases mem_chimeJoin hx with ⟨n, rfl⟩ | ⟨hx, -⟩
      · refine ⟨Ne.symm hsame, ?_⟩
        by_contra hlt
        have htaken : (chimeJoin r w.chimes).2 = false := by simpa using fun h => hpre ⟨h, not_le.mp hlt⟩
        rcases chimeJoin_cases r w.chimes with
          ⟨_, -, -, heq⟩ | ⟨hnew, ⟨-, heq⟩ | ⟨-, _, -, -, heq⟩ | ⟨-, -, heq⟩⟩ <;> rw [heq] at htaken hx
        · exact Bool.noConfusion htaken
        · exact Bool.noConfusion htaken
        · exact Bool.noConfusion htaken
        · exact hnew _ hx rfl
      · exact htone x hx

end Sys2Proof.Machine
end

section
/-! SUPPORT. The warnings: a status record fits its warning and the active list (R124 to R131), an announcement and a
leaving change both together, and the working out of conditions is made of such moves. -/

namespace Sys2Proof.Machine

open Sys2Proof

variable {k : Invariant} {s : State}

/-! ## Records and the list -/

/-- A status record fits a warning that is on the active list or not (R124 to R130). -/
def RecordFits (listed : Prop) (n : Warning) (r : WarningRecord) : Prop :=
  (listed ↔ r.state = .active ∨ r.state = .acknowledged ∨ r.state = .clearing) ∧
    (r.timer.isSome = true ↔ r.state = .pending ∨ r.state = .clearing) ∧
    (r.reannounce.isSome = true → r.state = .acknowledged) ∧
    (r.autoAck.isSome = true → r.unacknowledged = true) ∧
    (r.display.isSome = true → r.unacknowledged = true ∧ (n = .serviceDue ∨ n = .serviceSoon))

/-- The timers of a status record go by the class of its warning (R128, R129). -/
def ClassFits (n : Warning) (r : WarningRecord) : Prop :=
  (r.state = .acknowledged → (r.reannounce.isSome = true ↔ n.cls = 0)) ∧ (r.autoAck.isSome = true → n.cls = 2)

theorem warningInv_iff (s : State) :
    WarningInv s ↔
      s.wnu.list.Nodup ∧ (∀ n, RecordFits (n ∈ s.wnu.list) n (s.wnu.record n)) ∧
        (AsMade s → s.wnu.list.Pairwise (fun a b => a.cls ≤ b.cls) ∧ ∀ n, ClassFits n (s.wnu.record n)) := Iff.rfl

/-- The records and the list decide the invariant. -/
theorem WarningInv.congr {t : State} (hr : t.wnu.records = s.wnu.records) (hl : t.wnu.list = s.wnu.list)
    (hp : AsMade t → AsMade s) (h : WarningInv s) : WarningInv t := by
  have hrec (n : Warning) : t.wnu.record n = s.wnu.record n := by simp [WarningUnit.record, hr]
  rw [warningInv_iff] at h ⊢
  simp only [hl, hrec]
  exact ⟨h.1, h.2.1, fun hmade => h.2.2 (hp hmade)⟩

@[simp] theorem WarningUnit.setRecord_list (w : WarningUnit) (n : Warning) (r : WarningRecord) :
    (w.setRecord n r).list = w.list := rfl
@[simp] theorem WarningUnit.setRecord_chimes (w : WarningUnit) (n : Warning) (r : WarningRecord) :
    (w.setRecord n r).chimes = w.chimes := rfl
@[simp] theorem WarningUnit.setRecord_tone (w : WarningUnit) (n : Warning) (r : WarningRecord) :
    (w.setRecord n r).tone = w.tone := rfl
@[simp] theorem WarningUnit.setRecord_counts (w : WarningUnit) (n : Warning) (r : WarningRecord) :
    (w.setRecord n r).counts = w.counts := rfl

/-- A warning unit with another active list. -/
def WarningUnit.withList (w : WarningUnit) (l : List Warning) : WarningUnit := { w with list := l }

@[simp] theorem WarningUnit.withList_list (w : WarningUnit) (l : List Warning) : (w.withList l).list = l := rfl
@[simp] theorem WarningUnit.withList_record (w : WarningUnit) (l : List Warning) (n : Warning) :
    (w.withList l).record n = w.record n := rfl

/-- One record is replaced by one that fits, and the list stays. -/
theorem WarningInv.setRecord {n : Warning} {r : WarningRecord} (h : WarningInv s)
    (hr : RecordFits (n ∈ s.wnu.list) n r) (hc : AsMade s → ClassFits n r) :
    WarningInv (s.setWnu (s.wnu.setRecord n r)) := by
  obtain ⟨hnodup, hfits, hmade⟩ := (warningInv_iff s).mp h
  refine (warningInv_iff _).mpr ⟨hnodup, fun m => ?_, fun hm => ⟨(hmade hm).1, fun m => ?_⟩⟩
  · rcases eq_or_ne m n with rfl | hne
    · simpa using hr
    · simpa [WarningUnit.record_setRecord_other _ _ hne] using hfits m
  · rcases eq_or_ne m n with rfl | hne
    · simpa using hc hm
    · simpa [WarningUnit.record_setRecord_other _ _ hne] using (hmade hm).2 m

/-- Chimes and log apart, a warning unit that replaces a record. -/
theorem keeps_setRecord {n : Warning} {r : WarningRecord}
    (hr : WarningInv s → RecordFits (n ∈ s.wnu.list) n r) (hc : WarningInv s → AsMade s → ClassFits n r) :
    Keeps k s (s.setWnu (s.wnu.setRecord n r)) :=
  keeps_setWnu (fun h => h.setRecord (hr h) (hc h)) id id

/-- A new warning unit with the same records, list and log. -/
theorem keeps_setWnu_of_records {v : WarningUnit} (hr : v.records = s.wnu.records) (hl : v.list = s.wnu.list)
    (hc : s.wnu.ChimeOk → v.ChimeOk) (hb : LogBounds s.wnu → LogBounds v) : Keeps k s (s.setWnu v) :=
  keeps_setWnu (WarningInv.congr hr hl id) (fun h => (chimeInv_iff _).mpr (hc ((chimeInv_iff s).mp h))) hb

/-! ## The head of the unacknowledged list (R128) -/

theorem headUnacknowledged_eq_some {w : WarningUnit} {n : Warning} (h : w.headUnacknowledged = some n) :
    n ∈ w.list ∧ (w.record n).unacknowledged = true :=
  ⟨List.mem_of_find?_eq_some h, by simpa using List.find?_some h⟩

/-- Noting the head sets the mark and starts the 4 s of one ADVISORY warning, or does nothing. -/
theorem noteHead_cases (cls : Warning → Nat) (w : WarningUnit) :
    w.noteHead cls = w ∨
      ∃ n, w.headUnacknowledged = some n ∧ cls n = 2 ∧ (w.record n).headed = false ∧
        w.noteHead cls = w.setRecord n { w.record n with headed := true, autoAck := some 4000 } := by
  unfold WarningUnit.noteHead
  cases hhead : w.headUnacknowledged with
  | none => exact .inl rfl
  | some n =>
    dsimp only
    split_ifs with h
    · exact .inr ⟨n, rfl, h.1, by simpa using h.2, rfl⟩
    · exact .inl rfl

theorem keeps_noteHead (s : State) : Keeps k s (noteHead s) := by
  unfold noteHead
  rcases noteHead_cases s.classOf s.wnu with heq | ⟨n, hhead, hcls, -, heq⟩ <;> rw [heq]
  · exact Keeps.refl k s
  · obtain ⟨-, hun⟩ := headUnacknowledged_eq_some hhead
    refine keeps_setRecord (fun h => ?_) fun h hmade => ?_
    · obtain ⟨hlisted, htimer, hre, -, hdisplay⟩ := h.2.1 n
      exact ⟨hlisted, htimer, hre, fun _ => hun, hdisplay⟩
    · exact ⟨((h.2.2 hmade).2 n).1, fun _ => (classOf_asMade hmade n).symm.trans hcls⟩

/-! ## Chimes and the log -/

theorem keeps_giveChime (r : ChimeRequest) (s : State) : Keeps k s (s.setWnu (s.wnu.giveChime r).1) := by
  have heq : (s.wnu.giveChime r).1.records = s.wnu.records ∧ (s.wnu.giveChime r).1.list = s.wnu.list ∧
      (LogBounds s.wnu → LogBounds (s.wnu.giveChime r).1) := by
    unfold WarningUnit.giveChime WarningUnit.startHead WarningUnit.preempt
    dsimp only
    repeat' split
    all_goals exact ⟨rfl, rfl, id⟩
  exact keeps_setWnu_of_records heq.1 heq.2.1 chimeOk_giveChime heq.2.2

theorem keeps_chimeForWarning (n : Warning) (s : State) : Keeps k s (chimeForWarning n s) := by
  unfold chimeForWarning
  split
  · exact Keeps.refl k s
  · split_ifs
    · exact (keeps_giveChime _ s).trans (keeps_nextMoment _)
    · exact Keeps.refl k s

theorem keeps_logAppend (n : Warning) (s : State) : Keeps k s (logAppend n s) := by
  unfold logAppend
  split_ifs with hcls hroom
  · refine keeps_setWnu_of_records rfl rfl id fun ⟨_, hover, hcount⟩ => ⟨?_, hover, hcount⟩
    simpa using hroom
  · exact keeps_setWnu_of_records rfl rfl id fun ⟨hlog, _, hcount⟩ => ⟨hlog, min_le_right _ _, hcount⟩
  · exact Keeps.refl k s

/-- A count of occurrences rises within its byte. -/
theorem LogBounds.count {w : WarningUnit} (n : Warning) (h : LogBounds w) :
    LogBounds { w with counts := w.counts.set n.ix (satInc 255 w.counts[n.ix]) } := by
  obtain ⟨hlog, hover, hcount⟩ := h
  refine ⟨hlog, hover, fun m => ?_⟩
  have hm := hcount m
  rw [Fin.getElem_fin] at hm ⊢
  rw [Vector.getElem_set]
  split_ifs
  · exact min_le_right _ _
  · exact hm

theorem keeps_countOccurrence (n : Warning) (s : State) : Keeps k s (countOccurrence n s) :=
  keeps_setWnu_of_records rfl rfl id (LogBounds.count n)

/-! ## Announcement, acknowledgement, leaving (R125 to R127) -/

theorem listInsert_perm (cls : Warning → Nat) (n : Warning) (l : List Warning) :
    (listInsert cls n l).Perm (n :: l) := by
  obtain ⟨p, q, rfl, heq, -⟩ := listInsert_split cls n l
  exact heq ▸ List.perm_middle

theorem announcedRecord_fits (n : Warning) (moment : Nat) : RecordFits True n (announcedRecord n moment) := by
  unfold RecordFits announcedRecord WarningRecord.unacknowledged
  by_cases h : n = .serviceDue ∨ n = .serviceSoon <;> simp [h]

theorem inactiveRecord_fits (n : Warning) : RecordFits False n inactiveRecord := by simp [RecordFits, inactiveRecord]

/-- A warning that is on no list joins it with its record (R125, R131). -/
theorem WarningInv.announce {n : Warning} {moment : Nat} (h : WarningInv s)
    (hn : (s.wnu.record n).state = .inactive ∨ (s.wnu.record n).state = .pending) :
    WarningInv (s.setWnu
      ((s.wnu.setRecord n (announcedRecord n moment)).withList (listInsert s.classOf n s.wnu.list))) := by
  obtain ⟨hnodup, hfits, hmade⟩ := (warningInv_iff s).mp h
  have hnot : n ∉ s.wnu.list := fun hin => by
    rcases (hfits n).1.mp hin with h' | h' | h' <;> rcases hn with hn | hn <;> simp [hn] at h'
  refine (warningInv_iff _).mpr ⟨?_, fun m => ?_, fun hm => ⟨?_, fun m => ?_⟩⟩
  · exact (listInsert_perm _ n _).nodup_iff.mpr (List.nodup_cons.mpr ⟨hnot, hnodup⟩)
  · rcases eq_or_ne m n with rfl | hne
    · simpa [mem_listInsert] using announcedRecord_fits m moment
    · simpa [WarningUnit.record_setRecord_other _ _ hne, mem_listInsert, hne] using hfits m
  · have hcls : s.classOf = Warning.cls := funext fun m => classOf_asMade hm m
    simpa [hcls] using listInsert_sorted (n := n) (hmade hm).1
  · rcases eq_or_ne m n with rfl | hne
    · simp [ClassFits, announcedRecord]
    · simpa [WarningUnit.record_setRecord_other _ _ hne] using (hmade hm).2 m

theorem keeps_announce {n : Warning}
    (hn : (s.wnu.record n).state = .inactive ∨ (s.wnu.record n).state = .pending) : Keeps k s (announce n s) := by
  have hput : Keeps k s (s.setWnu { s.wnu.setRecord n (announcedRecord n s.moment) with
      list := listInsert s.classOf n s.wnu.list }) := keeps_setWnu (fun h => h.announce hn) id id
  exact hput.trans ((keeps_nextMoment _).trans ((keeps_offerWarnings _).trans ((keeps_logAppend n _).trans
    ((keeps_countOccurrence n _).trans ((keeps_chimeForWarning n _).trans (keeps_noteHead _))))))

/-- A warning leaves the list as its record becomes INACTIVE (R126). -/
theorem WarningInv.leave (n : Warning) (h : WarningInv s) :
    WarningInv (s.setWnu ((s.wnu.setRecord n inactiveRecord).withList (s.wnu.list.filter (· != n)))) := by
  obtain ⟨hnodup, hfits, hmade⟩ := (warningInv_iff s).mp h
  refine (warningInv_iff _).mpr ⟨hnodup.filter _, fun m => ?_, fun hm => ⟨(hmade hm).1.filter _, fun m => ?_⟩⟩
  · rcases eq_or_ne m n with rfl | hne
    · simpa using inactiveRecord_fits m
    · simpa [WarningUnit.record_setRecord_other _ _ hne, hne] using hfits m
  · rcases eq_or_ne m n with rfl | hne
    · simp [ClassFits, inactiveRecord]
    · simpa [WarningUnit.record_setRecord_other _ _ hne] using (hmade hm).2 m

/-- The end of a source's pattern leaves the records, the list and the log alone. -/
theorem stopSounding_records (w : WarningUnit) (src : ChimeSource) (stops : Pattern → Bool) :
    (w.stopSounding src stops).records = w.records ∧ (w.stopSounding src stops).list = w.list ∧
      (LogBounds w → LogBounds (w.stopSounding src stops)) := by
  rcases stopSounding_eq w src stops with heq | heq <;> rw [heq]
  · exact ⟨rfl, rfl, id⟩
  · exact ⟨rfl, rfl, id⟩

/-- A source's waiting request leaves the queue and its pattern ends (R140). -/
theorem keeps_cancel (src : ChimeSource) (stops : Pattern → Bool) (s : State) :
    Keeps k s
      (s.setWnu ({ s.wnu with chimes := chimeRemove src s.wnu.chimes }.stopSounding src stops)) := by
  obtain ⟨hr, hl, hb⟩ := stopSounding_records { s.wnu with chimes := chimeRemove src s.wnu.chimes } src stops
  exact keeps_setWnu_of_records hr hl
    (fun h => chimeOk_stopSounding (h.sublist (chimeRemove_sublist src _)) src stops) hb

theorem keeps_leaveList (n : Warning) (s : State) : Keeps k s (leaveList n s) := by
  have hput : Keeps k s (s.setWnu { s.wnu.setRecord n inactiveRecord with list := s.wnu.list.filter (· != n) }) :=
    keeps_setWnu (WarningInv.leave n) id id
  exact hput.trans ((keeps_cancel (.warning n) (fun _ => true) _).trans
    ((keeps_offerWarnings _).trans (keeps_noteHead _)))

theorem acknowledgedRecord_fits {n : Warning} {r : WarningRecord} {listed : Prop} (hun : r.unacknowledged = true)
    (h : RecordFits listed n r) (cls : Nat) : RecordFits listed n (acknowledgedRecord cls r) := by
  obtain ⟨hlisted, htimer, hre, -, -⟩ := h
  unfold acknowledgedRecord RecordFits
  split_ifs with hactive hcls
  · simp_all
  · simp_all
  · have hstate : r.state = .clearing := by
      simp only [WarningRecord.unacknowledged, Bool.or_eq_true, Bool.and_eq_true, beq_iff_eq] at hun
      exact (hun.resolve_left hactive).1
    simp_all

theorem keeps_acknowledge (n : Warning) (s : State) : Keeps k s (acknowledge n s) := by
  unfold acknowledge
  dsimp only
  split_ifs with hun
  · refine Keeps.trans (t := s.setWnu (s.wnu.setRecord n (acknowledgedRecord (s.classOf n) (s.wnu.record n)))) ?_
      ((keeps_cancel (.warning n) (·.continuous) _).trans (keeps_noteHead _))
    refine keeps_setRecord (fun h => acknowledgedRecord_fits hun (h.2.1 n) _) fun h hmade => ?_
    obtain ⟨hack, hauto⟩ := (h.2.2 hmade).2 n
    rw [classOf_asMade hmade]
    unfold acknowledgedRecord ClassFits
    split_ifs with hactive hcls
    · simp [hcls]
    · simp [hcls]
    · exact ⟨hack, by simp⟩
  · exact Keeps.refl k s

theorem keeps_acknowledgeHead (s : State) : Keeps k s (acknowledgeHead s) := by
  unfold acknowledgeHead
  split
  · exact keeps_acknowledge _ s
  · exact Keeps.refl k s

/-! ## Moves (R122, R124, R126) -/

/-- A warning moves only from the states that have the move (R124, R126). -/
theorem warnMove_cases (d : WarningDefinition) (st : WarnState) (c : Bool) :
    (warnMove d st c = .qualify → st = .inactive) ∧ (warnMove d st c = .drop → st = .pending) ∧
      (warnMove d st c = .announce → st = .inactive) ∧
      (warnMove d st c = .clear → st = .active ∨ st = .acknowledged) ∧
      (warnMove d st c = .restore → st = .clearing) := by
  unfold warnMove
  cases st <;> cases c <;> dsimp only <;> (try split_ifs) <;> simp

/-- A move is that of the warning's condition, for SERVICE_DUE and SERVICE_SOON have none (R122, R130). -/
theorem moveOf_eq {n : Warning} {m : WarnMove} (h : s.moveOf n = m) (hm : m ≠ .stay) :
    warnMove (s.definition n) (s.wnu.record n).state (condition n s) = m := by
  unfold State.moveOf at h
  split_ifs at h
  · exact absurd h.symm hm
  · exact h

theorem keeps_applyMove (n : Warning) (s : State) : Keeps k s (applyMove n s) := by
  unfold applyMove
  dsimp only
  have hcases := warnMove_cases (s.definition n) (s.wnu.record n).state (condition n s)
  obtain ⟨hqualify, hdrop, hannounce, hclear, hrestore⟩ := hcases
  have hput {r : WarningRecord} (hr : WarningInv s → RecordFits (n ∈ s.wnu.list) n r)
      (hc : WarningInv s → AsMade s → ClassFits n r) :
      Keeps k s (noteHead (s.setWnu (s.wnu.setRecord n r))) :=
    (keeps_setRecord hr hc).trans (keeps_noteHead _)
  cases hmove : s.moveOf n with
  | stay => exact Keeps.refl k s
  | qualify =>
    have hstate := hqualify (moveOf_eq hmove (by simp))
    refine hput (fun h => ?_) fun h hmade => ?_
    · have := h.2.1 n
      simp_all [RecordOk, RecordFits, WarningRecord.unacknowledged]
    · have := (h.2.2 hmade).2 n
      simp_all [ClassOk, ClassFits]
  | drop =>
    have hstate := hdrop (moveOf_eq hmove (by simp))
    refine hput (fun h => ?_) fun h hmade => ?_
    · have := h.2.1 n
      simp_all [RecordOk, RecordFits, WarningRecord.unacknowledged]
    · have := (h.2.2 hmade).2 n
      simp_all [ClassOk, ClassFits]
  | announce => exact keeps_announce (.inl (hannounce (moveOf_eq hmove (by simp))))
  | clear =>
    have hstate := hclear (moveOf_eq hmove (by simp))
    refine hput (fun h => ?_) fun h hmade => ?_
    · have := h.2.1 n
      rcases hstate with hstate | hstate <;>
        simp_all [RecordOk, RecordFits, WarningRecord.unacknowledged, clearingRecord]
    · have := (h.2.2 hmade).2 n
      simp_all [ClassOk, ClassFits, clearingRecord]
  | leave => exact keeps_leaveList n s
  | restore =>
    have hstate := hrestore (moveOf_eq hmove (by simp))
    refine hput (fun h => ?_) fun h hmade => ?_
    · have := h.2.1 n
      cases hack : (s.wnu.record n).heldAck <;>
        simp_all [RecordOk, RecordFits, WarningRecord.unacknowledged, restoredRecord]
    · have := (h.2.2 hmade).2 n
      rw [classOf_asMade hmade]
      cases hack : (s.wnu.record n).heldAck <;>
        by_cases hcls : n.cls = 0 <;>
          simp_all [ClassOk, ClassFits, restoredRecord]

/-! ## Other warnings -/

/-- A status record is as it was, but for the two fields that belong to the head of the unacknowledged list. -/
abbrev SameRecord (m : Warning) (s t : State) : Prop := RecordIs m t (s.wnu.record m)

theorem SameRecord.refl (m : Warning) (s : State) : SameRecord m s s := rfl

theorem SameRecord.state {m : Warning} {s t : State} (h : SameRecord m s t) :
    (t.wnu.record m).state = (s.wnu.record m).state := by
  rw [SameRecord, RecordIs] at h
  rw [h]

theorem RecordIs.trans {m : Warning} {t u : State} {x : WarningRecord} (h : RecordIs m t x) (h' : SameRecord m t u) :
    RecordIs m u x := by
  rw [SameRecord, RecordIs] at h'
  rw [RecordIs] at h ⊢
  rw [h', h]

theorem SameRecord.trans {m : Warning} {s t u : State} (h : SameRecord m s t) (h' : SameRecord m t u) :
    SameRecord m s u := RecordIs.trans h h'

theorem SameRecord.of_record {m : Warning} {s t : State} (h : t.wnu.record m = s.wnu.record m) : SameRecord m s t := by
  rw [SameRecord, RecordIs, h]

theorem SameRecord.of_records {m : Warning} {s t : State} (h : t.wnu.records = s.wnu.records) : SameRecord m s t :=
  SameRecord.of_record (by simp [WarningUnit.record, h])

theorem sameRecord_noteHead (m : Warning) (s : State) : SameRecord m s (noteHead s) := by
  unfold noteHead
  rcases noteHead_cases s.classOf s.wnu with heq | ⟨n, -, -, -, heq⟩ <;> rw [heq]
  · exact SameRecord.refl m s
  · rcases eq_or_ne m n with rfl | hne
    · simp [SameRecord, RecordIs]
    · exact SameRecord.of_record (WarningUnit.record_setRecord_other s.wnu _ hne)

theorem giveChime_records (w : WarningUnit) (r : ChimeRequest) :
    (w.giveChime r).1 = { w with tone := (w.giveChime r).1.tone, chimes := (w.giveChime r).1.chimes } := by
  unfold WarningUnit.giveChime WarningUnit.startHead WarningUnit.preempt
  dsimp only
  repeat' split
  all_goals rfl

theorem chimeForWarning_wnu (n : Warning) (s : State) :
    (chimeForWarning n s).wnu =
      { s.wnu with tone := (chimeForWarning n s).wnu.tone, chimes := (chimeForWarning n s).wnu.chimes } := by
  unfold chimeForWarning
  split
  · rfl
  · split_ifs
    · exact giveChime_records _ _
    · rfl

theorem logAppend_wnu (n : Warning) (s : State) :
    (logAppend n s).wnu =
      { s.wnu with log := (logAppend n s).wnu.log, overflow := (logAppend n s).wnu.overflow } := by
  unfold logAppend
  split_ifs <;> rfl

theorem countOccurrence_wnu (n : Warning) (s : State) :
    (countOccurrence n s).wnu =
      { s.wnu with counts := s.wnu.counts.set n.ix (min (s.wnu.counts[n.ix] + 1) 255) } := rfl

/-- The state between the record that an announcement makes and the noting of the head (R125). -/
def announcing (n : Warning) (s : State) : State :=
  chimeForWarning n (countOccurrence n (logAppend n (offerWarnings
    (s.setWnu { s.wnu.setRecord n (announcedRecord n s.moment) with
      list := listInsert s.classOf n s.wnu.list }).nextMoment)))

theorem announce_eq (n : Warning) (s : State) : announce n s = noteHead (announcing n s) := rfl

theorem announcing_records (n : Warning) (s : State) :
    (announcing n s).wnu.records = (s.wnu.setRecord n (announcedRecord n s.moment)).records ∧
      (announcing n s).wnu.list = listInsert s.classOf n s.wnu.list := by
  unfold announcing
  rw [chimeForWarning_wnu, countOccurrence_wnu, logAppend_wnu]
  simp

theorem announcing_record (n : Warning) (s : State) :
    (announcing n s).wnu.record n = announcedRecord n s.moment := by
  have h := (announcing_records n s).1
  have h' := WarningUnit.record_setRecord_same s.wnu n (announcedRecord n s.moment)
  simpa [WarningUnit.record, h] using h'

theorem recordIs_announce (n : Warning) (s : State) : RecordIs n (announce n s) (announcedRecord n s.moment) := by
  rw [announce_eq]
  refine RecordIs.trans (t := announcing n s) ?_ (sameRecord_noteHead n _)
  rw [RecordIs, announcing_record]

theorem sameRecord_announce {n m : Warning} (h : m ≠ n) (s : State) : SameRecord m s (announce n s) := by
  rw [announce_eq]
  refine SameRecord.trans (t := announcing n s) (SameRecord.of_record ?_) (sameRecord_noteHead m _)
  have hr := (announcing_records n s).1
  have h' := WarningUnit.record_setRecord_other s.wnu (announcedRecord n s.moment) h
  simpa [WarningUnit.record, hr] using h'

theorem stopSounding_wnu (w : WarningUnit) (src : ChimeSource) (stops : Pattern → Bool) :
    w.stopSounding src stops = { w with tone := (w.stopSounding src stops).tone } := by
  rcases stopSounding_eq w src stops with heq | heq <;> rw [heq]
  rfl

/-- The state between the record that a leaving makes and the noting of the head (R126). -/
def leaving (n : Warning) (s : State) : State :=
  offerWarnings (s.setWnu (WarningUnit.cancelLeft
    { s.wnu.setRecord n inactiveRecord with list := s.wnu.list.filter (· != n) } n))

theorem leaveList_eq (n : Warning) (s : State) : leaveList n s = noteHead (leaving n s) := rfl

theorem leaving_wnu (n : Warning) (s : State) :
    (leaving n s).wnu =
      { s.wnu.setRecord n inactiveRecord with
        list := s.wnu.list.filter (· != n), chimes := chimeRemove (.warning n) s.wnu.chimes
        tone := (leaving n s).wnu.tone } := by
  have h : (leaving n s).wnu = _ := (offerWarnings_frame _).2.2.2.2.2.2.2.1
  rw [h, State.setWnu_wnu, WarningUnit.cancelLeft, stopSounding_wnu]
  rfl

theorem leaving_record_other {n m : Warning} (h : m ≠ n) (s : State) :
    (leaving n s).wnu.record m = s.wnu.record m := by
  rw [leaving_wnu]
  exact WarningUnit.record_setRecord_other s.wnu inactiveRecord h

theorem leaving_record (n : Warning) (s : State) : (leaving n s).wnu.record n = inactiveRecord := by
  rw [leaving_wnu]
  exact WarningUnit.record_setRecord_same s.wnu n inactiveRecord

theorem sameRecord_leaveList {n m : Warning} (h : m ≠ n) (s : State) : SameRecord m s (leaveList n s) :=
  SameRecord.trans (SameRecord.of_record (leaving_record_other h s)) (sameRecord_noteHead m _)

theorem sameRecord_applyMove {n m : Warning} (h : m ≠ n) (s : State) : SameRecord m s (applyMove n s) := by
  unfold applyMove
  dsimp only
  have hput (r : WarningRecord) : SameRecord m s (noteHead (s.setWnu (s.wnu.setRecord n r))) :=
    SameRecord.trans (SameRecord.of_record (WarningUnit.record_setRecord_other s.wnu r h)) (sameRecord_noteHead m _)
  cases s.moveOf n with
  | stay => exact SameRecord.refl m s
  | announce => exact sameRecord_announce h s
  | leave => exact sameRecord_leaveList h s
  | qualify | drop | clear | restore => exact hput _

theorem sameRecord_applyLoud {raised : List Warning} {n m : Warning} (h : m ≠ n) (s : State) :
    SameRecord m s (applyLoud raised n s) := by
  unfold applyLoud
  split_ifs
  · exact sameRecord_announce h s
  · exact sameRecord_applyMove h s

/-- SERVICE_DUE and SERVICE_SOON have no condition of R121 and make no move (R130). -/
theorem moveOf_service {n : Warning} (h : n = .serviceDue ∨ n = .serviceSoon) (s : State) : s.moveOf n = .stay :=
  if_pos h

theorem applyMove_service {n : Warning} (h : n = .serviceDue ∨ n = .serviceSoon) (s : State) : applyMove n s = s := by
  simp [applyMove, moveOf_service h]

/-! ## Working out conditions -/

theorem insertAt_perm {α : Type} (n : Nat) (x : α) (l : List α) : (insertAt n x l).Perm (x :: l) := by
  induction l generalizing n with
  | nil => cases n <;> exact List.Perm.refl _
  | cons y ys ih =>
    cases n with
    | zero => exact List.Perm.refl _
    | succ n => exact ((ih n).cons y).trans (List.Perm.swap x y ys)

theorem arrange_perm {α : Type} (n : Nat) (l : List α) : (arrange n l).Perm l := by
  induction l generalizing n with
  | nil => cases n <;> exact List.Perm.refl _
  | cons x xs ih => exact (insertAt_perm _ x _).trans ((ih _).cons x)

/-- The warnings that R130 raises: INACTIVE service warnings, each once. -/
def RaisedOk (raised : List Warning) (s : State) : Prop :=
  raised.Nodup ∧ ∀ n ∈ raised, (n = .serviceDue ∨ n = .serviceSoon) ∧ (s.wnu.record n).state = .inactive

theorem raisedOk_nil (s : State) : RaisedOk [] s := by simp [RaisedOk]

theorem raisedOk_raisedService (s : State) : RaisedOk (raisedService s) s := by
  unfold raisedService RaisedOk
  split_ifs <;> simp_all

theorem keeps_foldl_applyMove (l : List Warning) (s : State) :
    Keeps k s (l.foldl (fun t n => applyMove n t) s) := keeps_foldl (fun t n => keeps_applyMove n t) l s

theorem sameRecord_foldl_applyMove {m : Warning} (hm : m = .serviceDue ∨ m = .serviceSoon) (l : List Warning) (s : State) :
    SameRecord m s (l.foldl (fun t n => applyMove n t) s) := by
  induction l generalizing s with
  | nil => exact SameRecord.refl m s
  | cons n l ih =>
    refine SameRecord.trans ?_ (ih (applyMove n s))
    rcases eq_or_ne m n with rfl | hne
    · rw [applyMove_service hm]
      exact SameRecord.refl m s
    · exact sameRecord_applyMove hne s

/-- Warnings that change together keep the invariants in any order, as long as each raised one comes once. -/
theorem keeps_foldl_applyLoud {raised l : List Warning}
    (hinactive : ∀ n ∈ raised, n ∈ l → (s.wnu.record n).state = .inactive) (honce : ∀ n ∈ raised, l.count n ≤ 1) :
    Keeps k s (l.foldl (fun t n => applyLoud raised n t) s) := by
  induction l generalizing s with
  | nil => exact Keeps.refl k s
  | cons n l ih =>
    have hstep : Keeps k s (applyLoud raised n s) := by
      unfold applyLoud
      split_ifs with hn
      · exact keeps_announce (.inl (hinactive n (by simpa using hn) List.mem_cons_self))
      · exact keeps_applyMove n s
    refine hstep.trans (ih (fun m hm hml => ?_) fun m hm => ?_)
    · have hne : m ≠ n := by
        rintro rfl
        have h := honce m hm
        rw [List.count_cons_self] at h
        exact absurd (List.count_pos_iff.mpr hml) (by omega)
      rw [(sameRecord_applyLoud hne s).state]
      exact hinactive m hm (List.mem_cons_of_mem n hml)
    · exact (List.count_le_count_cons).trans (honce m hm)

theorem keeps_applyTogether {raised loud : List Warning}
    (hinactive : ∀ n ∈ raised, n ∈ loud → (s.wnu.record n).state = .inactive)
    (honce : ∀ n ∈ raised, loud.count n ≤ 1) : Keeps k s (applyTogether raised loud s) := by
  unfold applyTogether
  split
  · exact Keeps.refl k s
  · exact keeps_foldl_applyLoud (l := [_]) hinactive honce
  · refine (keeps_nextDraw s).trans (keeps_foldl_applyLoud (fun n hn hl => ?_) fun n hn => ?_)
    · exact hinactive n hn ((arrange_perm _ _).mem_iff.mp hl)
    · exact ((arrange_perm _ _).count_eq n).trans_le (honce n hn)

theorem keeps_evalTogether {raised : List Warning} (h : RaisedOk raised s) (ws : List Warning) :
    Keeps k s (evalTogether raised ws s) := by
  unfold evalTogether
  split_ifs
  · dsimp only
    refine (keeps_foldl_applyMove _ s).trans (keeps_applyTogether (fun n hn _ => ?_) fun n hn => ?_)
    · rw [(sameRecord_foldl_applyMove (h.2 n hn).1 _ s).state]
      exact (h.2 n hn).2
    · have hnot : n ∉ ws.filter (fun m => (s.moveOf m).listChange) := by
        simp [moveOf_service (h.2 n hn).1, WarnMove.listChange]
      rw [List.count_append, List.count_eq_zero_of_not_mem hnot, zero_add]
      exact List.nodup_iff_count_le_one.mp h.1 n
  · exact Keeps.refl k s

theorem keeps_evalWarnings (ws : List Warning) (s : State) : Keeps k s (evalWarnings ws s) :=
  keeps_evalTogether (raisedOk_nil s) ws

theorem keeps_evalSpoiled (ws : List Warning) (s : State) : Keeps k s (evalSpoiled ws s) := by
  unfold evalSpoiled
  split_ifs
  · exact keeps_evalWarnings ws s
  · exact Keeps.refl k s

theorem keeps_followEngine (s : State) : Keeps k s (followEngine s) := by
  unfold followEngine
  dsimp only
  split_ifs
  · exact Keeps.refl k s
  · exact keeps_setWnu_of_records rfl rfl id id
  · exact keeps_setWnu_of_records rfl rfl id id

end Sys2Proof.Machine
end

section
/-! SUPPORT. The gauges stay within their spans: each operation on a gauge record by itself (R68 to R82), and then in the
state. -/

namespace Sys2Proof.Machine

open Sys2Proof

variable {k : Invariant} {s : State} {span : Nat} {g : Gauge}

/-! ## A gauge record -/

/-- A gauge whose motor can be driven from rest: TRACKING, SWEEP or PARKING (R69). -/
def Gauge.Drives (g : Gauge) : Prop := g.state = .tracking ∨ g.state = .sweep ∨ g.state = .parking

theorem GaugeOk.stop (h : GaugeOk span g) : GaugeOk span g.stop := by
  obtain ⟨hpos, htarget, hstale, -, hrest, hmin, hmax, hlift, -, hpark, hparked⟩ := h
  exact ⟨hpos, htarget, hstale, Nat.zero_le _, hrest, hmin, hmax, hlift, fun _ => rfl, hpark, hparked⟩

theorem GaugeOk.depart (h : GaugeOk span g) (hs : g.Drives) (goal : Nat) : GaugeOk span (g.depart goal) := by
  obtain ⟨hpos, htarget, hstale, -, hrest, hmin, hmax, hlift, -, hpark, hparked⟩ := h
  refine ⟨hpos, htarget, hstale, Nat.zero_le _, hrest, hmin, hmax, hlift, fun hstate => ?_, hpark, hparked⟩
  exact absurd hstate (by rcases hs with hs | hs | hs <;> simp [Gauge.depart, hs])

theorem GaugeOk.examine (h : GaugeOk span g) (hs : g.Drives) (deadband : Nat) : GaugeOk span (g.examine deadband) := by
  unfold Gauge.examine
  split_ifs
  · exact h
  · exact h.depart hs _

theorem GaugeOk.park (h : GaugeOk span g) (hpos : g.position = 0) : GaugeOk span g.park := by
  obtain ⟨hpos', -, hstale, -, hrest, hmin, hmax, hlift, -⟩ := h
  exact ⟨hpos', Nat.zero_le _, hstale, Nat.zero_le _, hrest, hmin, hmax, hlift, fun _ => rfl, fun _ => rfl,
    fun _ => hpos⟩

/-- A gauge in SWEEP, at any phase of it, or in TRACKING, may have any motion. -/
theorem GaugeOk.withState {st : GaugeState} (h : GaugeOk span g) (hst : st = .tracking ∨ st = .sweep)
    (ph : SweepPhase) : GaugeOk span { g with state := st, phase := ph } := by
  obtain ⟨hpos, htarget, hstale, hramp, hrest, hmin, hmax, hlift, -⟩ := h
  refine ⟨hpos, htarget, hstale, hramp, hrest, hmin, hmax, hlift, ?_, ?_, ?_⟩ <;>
    rcases hst with rfl | rfl <;> simp

theorem GaugeOk.withPhase (h : GaugeOk span g) (ph : SweepPhase) : GaugeOk span { g with phase := ph } := h

theorem GaugeOk.atGoal (h : GaugeOk span g) (deadband : Nat) : GaugeOk span (g.atGoal span deadband) := by
  unfold Gauge.atGoal
  cases hst : g.state with
  | tracking => exact h.examine (.inl hst) _
  | parking =>
    dsimp only
    split_ifs with hpos
    · exact h.park hpos
    · exact h.depart (.inr (.inr hst)) _
  | sweep =>
    dsimp only
    split_ifs
    · exact h.stop.withPhase _
    · exact h.depart (.inr (.inl hst)) _
  | unhomed | homing | faulted | parked => exact h

theorem GaugeOk.stepped (h : GaugeOk span g) (hs : g.state ≠ .parked) : GaugeOk span (g.stepped span) := by
  obtain ⟨hpos, htarget, hstale, hramp, hrest, hmin, hmax, hlift, hmotion, hpark, hparked⟩ := h
  refine ⟨?_, htarget, hstale, min_le_left _ _, hrest, hmin, hmax, hlift, hmotion, hpark, fun h => absurd h hs⟩
  unfold Gauge.stepped
  dsimp only
  split_ifs <;> omega

theorem GaugeOk.follow (h : GaugeOk span g) (hs : g.Drives) (goal : Nat) : GaugeOk span (g.follow goal) := by
  unfold Gauge.follow
  split_ifs
  · exact h.stop
  · exact h
  · obtain ⟨hpos, htarget, hstale, hramp, -, hmin, hmax, hlift, -, hpark, hparked⟩ := h
    refine ⟨hpos, htarget, hstale, hramp, Nat.zero_le _, hmin, hmax, hlift, fun hstate => ?_, hpark, hparked⟩
    exact absurd hstate (by rcases hs with hs | hs | hs <;> simp [hs])

theorem GaugeOk.enterHoming (h : GaugeOk span g) (sweepMark testMark : Bool) :
    GaugeOk span (g.enterHoming span sweepMark testMark) := by
  obtain ⟨-, htarget, hstale, -⟩ := h
  simp [GaugeOk, Gauge.enterHoming, Gauge.stop, htarget, hstale]

theorem GaugeOk.close (h : GaugeOk span g) (deadband : Nat) (parkInForce ignition : Bool) :
    GaugeOk span (g.close span deadband parkInForce ignition) := by
  have hzero : ∀ st, st = GaugeState.tracking ∨ st = .sweep ∨ st = .parked → ∀ target ≤ span,
      (st = .parked → target = 0) → ∀ ph,
      GaugeOk span
        { g.stop with
          position := 0, lift := none, testMark := false, state := st, target := target, phase := ph } := by
    obtain ⟨-, -, hstale, -, hrest, hmin, hmax, -⟩ := h
    intro st hst target htarget hpark ph
    refine ⟨Nat.zero_le _, htarget, hstale, Nat.zero_le _, hrest, hmin, hmax, by simp, fun _ => rfl, ?_, fun _ => rfl⟩
    rcases hst with rfl | rfl | rfl
    · simp
    · simp
    · exact fun _ => hpark rfl
  have htarget := h.2.1
  unfold Gauge.close
  dsimp only
  split_ifs
  · exact hzero .parked (by simp) 0 (Nat.zero_le _) (fun _ => rfl) _
  · unfold Gauge.beginSweep
    exact (hzero .sweep (by simp) g.target htarget (by simp) .toSpan).atGoal 0
  · exact (hzero .tracking (by simp) g.target htarget (by simp) _).examine (.inl rfl) _

theorem GaugeOk.trackingStep (h : GaugeOk span g) (hs : g.state = .tracking) (closed : Bool) :
    GaugeOk span (g.trackingStep span closed) := by
  have hstep : GaugeOk span (g.stepped span) := h.stepped (by simp [hs])
  unfold Gauge.trackingStep
  dsimp only
  split_ifs
  · exact hstep.enterHoming _ _
  · exact hstep.follow (.inl hs) _

theorem GaugeOk.sweepStep (h : GaugeOk span g) (hs : g.state = .sweep) (deadband : Nat) (closed : Bool) :
    GaugeOk span (g.sweepStep span deadband closed) := by
  have hstep : GaugeOk span (g.stepped span) := h.stepped (by simp [hs])
  unfold Gauge.sweepStep
  dsimp only
  split_ifs
  · exact (hstep.stop.withState (.inl rfl) _).examine (.inl rfl) _
  · exact hstep.enterHoming _ _
  · exact hstep.stop.withPhase _
  · exact hstep.follow (.inr (.inl hs)) _

theorem GaugeOk.parkingStep (h : GaugeOk span g) (hs : g.state = .parking) : GaugeOk span (g.parkingStep span) := by
  have hstep : GaugeOk span (g.stepped span) := h.stepped (by simp [hs])
  unfold Gauge.parkingStep
  dsimp only
  split_ifs with hpos
  · exact hstep.park hpos
  · exact hstep.follow (.inr (.inr hs)) _

theorem GaugeOk.stepEnd (h : GaugeOk span g) (deadband : Nat) (closed : Bool) :
    GaugeOk span (g.stepEnd span deadband closed) := by
  unfold Gauge.stepEnd
  split_ifs
  · cases hst : g.state with
    | tracking => exact h.trackingStep hst closed
    | sweep => exact h.sweepStep hst deadband closed
    | parking => exact h.parkingStep hst
    | unhomed | homing | faulted | parked => exact h
  · exact h

theorem GaugeOk.reversalBoundary (h : GaugeOk span g) (deadband : Nat) :
    GaugeOk span (g.reversalBoundary span deadband) := by
  have hcount : GaugeOk span { g with rest := min 4 (g.rest + 1) } := by
    obtain ⟨hpos, htarget, hstale, hramp, -, h⟩ := h
    exact ⟨hpos, htarget, hstale, hramp, min_le_left _ _, h⟩
  unfold Gauge.reversalBoundary
  split_ifs
  · dsimp only
    split_ifs
    · exact hcount.stop.atGoal deadband
    · exact hcount
  · exact h

theorem GaugeOk.sweepRestEnd (h : GaugeOk span g) : GaugeOk span (g.sweepRestEnd span) := by
  unfold Gauge.sweepRestEnd
  split_ifs with hs
  · exact (h.withPhase .toZero).depart (.inr (.inl hs.1)) _
  · exact h

theorem GaugeOk.restBoundary (h : GaugeOk span g) (deadband : Nat) : GaugeOk span (g.restBoundary span deadband) := by
  unfold Gauge.restBoundary
  split_ifs
  · exact h.atGoal deadband
  · exact h

theorem GaugeOk.orderPark (h : GaugeOk span g) : GaugeOk span g.orderPark := by
  have hparking : GaugeOk span { g with state := .parking, target := 0 } := by
    obtain ⟨hpos, -, hstale, hramp, hrest, hmin, hmax, hlift, -⟩ := h
    exact ⟨hpos, Nat.zero_le _, hstale, hramp, hrest, hmin, hmax, hlift, by simp, fun _ => rfl, by simp⟩
  have henter (r : Gauge) (hr : r = { g with state := .parking, target := 0 }) :
      GaugeOk span (if g.motion = .atRest then (if g.position = 0 then r.park else r.depart 0) else r) := by
    subst hr
    split_ifs with _ hpos
    · exact hparking.park hpos
    · exact hparking.depart (.inr (.inr rfl)) 0
    · exact hparking
  unfold Gauge.orderPark
  cases g.state with
  | tracking | sweep => exact henter _ rfl
  | unhomed | homing | faulted | parking | parked => exact h

/-! ## The operations leave an UNHOMED gauge alone -/

theorem Gauge.stepEnd_unhomed (h : g.state = .unhomed) (deadband : Nat) (closed : Bool) :
    g.stepEnd span deadband closed = g := by
  unfold Gauge.stepEnd
  split_ifs <;> simp [h]

theorem Gauge.restBoundary_unhomed (h : g.state = .unhomed) (deadband : Nat) : g.restBoundary span deadband = g := by
  simp [Gauge.restBoundary, h]

theorem Gauge.sweepRestEnd_unhomed (h : g.state = .unhomed) : g.sweepRestEnd span = g := by
  simp [Gauge.sweepRestEnd, h]

theorem Gauge.reversalBoundary_atRest (h : g.motion = .atRest) (deadband : Nat) :
    g.reversalBoundary span deadband = g := by
  simp [Gauge.reversalBoundary, h]

theorem Gauge.orderPark_unhomed (h : g.state = .unhomed) : g.orderPark = g := by simp [Gauge.orderPark, h]

/-! ## The state -/

theorem State.setGauge_span (s : State) (g : GaugeId) (r : Gauge) (h : GaugeId) : (s.setGauge g r).span h = s.span h :=
  rfl

/-- A gauge that has left UNHOMED tells that the configuration is in force (R64, R70). -/
theorem GaugeInv.configured (h : GaugeInv s) {g : GaugeId} (hg : (s.gauge g).state ≠ .unhomed) :
    s.power.configured = true := by
  by_contra hc
  exact hg (h.2.1 (by simpa using hc) g).1

theorem GaugeInv.setGauge {g : GaugeId} {r : Gauge} (h : GaugeInv s) (hr : GaugeOk (s.span g) r)
    (hc : s.power.configured = false → r.state = .unhomed ∧ r.target = 0 ∧ r.staleTarget = 0) :
    GaugeInv (s.setGauge g r) := by
  obtain ⟨hok, hconf, hstep⟩ := h
  refine ⟨fun x => ?_, fun hc' x => ?_, hstep⟩
  · rw [State.setGauge_span]
    rcases eq_or_ne x g with rfl | hne
    · simpa using hr
    · rw [State.gauge_setGauge_other _ _ hne]
      exact hok x
  · rcases eq_or_ne x g with rfl | hne
    · simpa using hc hc'
    · rw [State.gauge_setGauge_other _ _ hne]
      exact hconf hc' x

theorem keeps_setGauge {g : GaugeId} {r : Gauge} (hr : GaugeInv s → GaugeOk (s.span g) r)
    (hc : GaugeInv s → s.power.configured = false → r.state = .unhomed ∧ r.target = 0 ∧ r.staleTarget = 0) :
    Keeps k s (s.setGauge g r) :=
  keeps_setGdu fun h => h.setGauge (hr h) (hc h)

/-- A gauge that has left UNHOMED is given a record within its span. -/
theorem keeps_setGauge_homed {g : GaugeId} {r : Gauge} (hg : (s.gauge g).state ≠ .unhomed)
    (hr : GaugeOk (s.span g) (s.gauge g) → GaugeOk (s.span g) r) : Keeps k s (s.setGauge g r) :=
  keeps_setGauge (fun h => hr (h.1 g)) fun h hc => absurd (h.configured hg) (by simp [hc])

/-- An operation that leaves an UNHOMED gauge at rest as it is. -/
theorem keeps_setGauge_op {g : GaugeId} {op : Gauge → Gauge} (hr : ∀ r, GaugeOk (s.span g) r → GaugeOk (s.span g) (op r))
    (hu : ∀ r, r.state = .unhomed → r.motion = .atRest → op r = r) : Keeps k s (s.setGauge g (op (s.gauge g))) :=
  keeps_setGauge (fun h => hr _ (h.1 g)) fun h hc => by
    obtain ⟨hstate, htargets⟩ := h.2.1 hc g
    have hrest : (s.gauge g).motion = .atRest := by
      obtain ⟨-, -, -, -, -, -, -, -, hmotion, -⟩ := h.1 g
      exact hmotion (.inl hstate)
    rw [hu _ hstate hrest]
    exact ⟨hstate, htargets⟩

theorem targetOf_le {g : GaugeId} (h : (s.gauge g).staleTarget ≤ s.span g) : s.targetOf g ≤ s.span g := by
  unfold State.targetOf
  split_ifs
  · dsimp only
    repeat' split
    · exact min_le_left _ _
    · exact h
    · exact Nat.zero_le _
  · exact Nat.zero_le _

theorem GaugeOk.withTarget {target : Nat} (h : GaugeOk span g) (ht : target ≤ span)
    (hs : g.state ≠ .parking ∧ g.state ≠ .parked) : GaugeOk span { g with target := target } := by
  obtain ⟨hpos, -, hstale, hramp, hrest, hmin, hmax, hlift, hmotion, -, hparked⟩ := h
  exact ⟨hpos, ht, hstale, hramp, hrest, hmin, hmax, hlift, hmotion, fun h => by simp_all, hparked⟩

/-- A gauge that is not PARKING or PARKED takes the target that its record gives, and the others keep theirs (R67, R81). -/
theorem decideTarget_cases (s : State) (g : GaugeId) :
    (((s.gauge g).state = .parking ∨ (s.gauge g).state = .parked) ∧ decideTarget s g = s) ∨
      ((s.gauge g).state ≠ .parking ∧ (s.gauge g).state ≠ .parked ∧
        decideTarget s g = s.setGauge g { s.gauge g with target := s.targetOf g }) := by
  unfold decideTarget
  cases hst : (s.gauge g).state <;> simp

theorem keeps_decideTarget (s : State) (g : GaugeId) : Keeps k s (decideTarget s g) := by
  rcases decideTarget_cases s g with ⟨-, heq⟩ | ⟨hparking, hparked, heq⟩ <;> rw [heq]
  · exact Keeps.refl k s
  · refine keeps_setGauge (fun h => (h.1 g).withTarget (targetOf_le ?_) ⟨hparking, hparked⟩) fun h hc => ?_
    · obtain ⟨-, -, hstale, -⟩ := h.1 g
      exact hstale
    · obtain ⟨hstate, -, hstale⟩ := h.2.1 hc g
      exact ⟨hstate, by simp [State.targetOf, hc], hstale⟩

theorem keeps_decideTargets (sig : Signal) (s : State) : Keeps k s (decideTargets sig s) :=
  keeps_foldl keeps_decideTarget _ s

theorem keeps_holdTargets (sig : Signal) (s : State) : Keeps k s (holdTargets sig s) := by
  refine keeps_foldl (fun t g => ?_) _ s
  refine keeps_setGauge (fun h => ?_) fun h hc => ?_
  · obtain ⟨hpos, htarget, -, hrest⟩ := h.1 g
    exact ⟨hpos, htarget, htarget, hrest⟩
  · obtain ⟨hstate, htarget, -⟩ := h.2.1 hc g
    exact ⟨hstate, htarget, htarget⟩

theorem keeps_closeGauge {g : GaugeId} {r : Gauge} (hg : (s.gauge g).state ≠ .unhomed)
    (hr : GaugeOk (s.span g) (s.gauge g) → GaugeOk (s.span g) r) : Keeps k s (closeGauge g r s) :=
  keeps_setGauge_homed hg fun h => (hr h).close _ _ _

/-- A gauge homes once the configuration is in force (R70). -/
theorem keeps_homeGauge {sweepMark testMark : Bool} {contacts : BitVec 6}
    (hc : k = .gauge → s.power.configured = true) (g : GaugeId) :
    Keeps k s (homeGauge sweepMark testMark contacts s g) := by
  unfold homeGauge State.setGauge
  cases k
  case gauge =>
    refine keeps_setGdu fun h => h.setGauge ?_ fun h' => absurd (hc rfl) (by simp [h'])
    unfold Gauge.attemptBegins
    split_ifs
    · exact ((h.1 g).enterHoming _ _).close _ _ _
    · exact (h.1 g).enterHoming _ _
  all_goals exact id

theorem homeGauge_power (sweepMark testMark : Bool) (contacts : BitVec 6) (s : State) (g : GaugeId) :
    (homeGauge sweepMark testMark contacts s g).power = s.power := rfl

theorem keeps_homeAll {contacts : BitVec 6} (hc : k = .gauge → s.power.configured = true) :
    Keeps k s (homeAll contacts s) := by
  unfold homeAll
  generalize s.settings.sweepEnable = mark
  generalize GaugeId.all = l
  induction l generalizing s with
  | nil => exact Keeps.refl k s
  | cons g l ih => exact (keeps_homeGauge hc g).trans (ih (s := homeGauge mark false contacts s g) hc)

theorem keeps_failAttempt {g : GaugeId} {r : Gauge} (hg : (s.gauge g).state = .homing)
    (hok : GaugeOk (s.span g) (s.gauge g) → GaugeOk (s.span g) r) : Keeps k s (failAttempt g r s) := by
  have hne : (s.gauge g).state ≠ .unhomed := by simp [hg]
  unfold failAttempt
  split_ifs with hattempt
  · refine keeps_setGauge_homed hne fun h => ?_
    obtain ⟨hpos, htarget, hstale, hramp, hrest, hmin, hmax, -, h⟩ := hok h
    refine ⟨hpos, htarget, hstale, hramp, hrest, hmin, hmax, ?_, h⟩
    rintro x ⟨rfl⟩
    exact ⟨by omega, by dsimp only; omega⟩
  · refine Keeps.trans ?_ ((keeps_recordCode _ _).trans (keeps_evalWarnings _ _))
    refine keeps_setGauge_homed hne fun h => ?_
    obtain ⟨hpos, htarget, hstale, -, hrest, hmin, hmax, -⟩ := hok h
    exact ⟨hpos, htarget, hstale, Nat.zero_le _, hrest, hmin, hmax, by simp, fun _ => rfl, by simp, by simp⟩

theorem State.gauge_orderPark (s : State) (g : GaugeId) : (orderPark s).gauge g = (s.gauge g).orderPark := by
  simp [orderPark, State.gauge]

theorem keeps_orderPark (s : State) : Keeps k s (orderPark s) := by
  refine keeps_setGdu fun ⟨hok, hconf, hstep⟩ => ⟨fun g => ?_, fun hc g => ?_, hstep⟩
  · exact (State.gauge_orderPark s g) ▸ (hok g).orderPark
  · obtain ⟨hstate, htargets⟩ := hconf hc g
    have h := State.gauge_orderPark s g
    rw [Gauge.orderPark_unhomed hstate] at h
    exact (show (s.setGdu _).gauge g = _ from h) ▸ ⟨hstate, htargets⟩

theorem keeps_resumeGauge (s : State) (g : GaugeId) : Keeps k s (resumeGauge s g) := by
  unfold resumeGauge
  dsimp only
  have hok (h : GaugeOk (s.span g) (s.gauge g)) :
      GaugeOk (s.span g) { s.gauge g with state := .tracking, target := s.targetOf g } := by
    obtain ⟨hpos, -, hstale, hramp, hrest, hmin, hmax, hlift, -⟩ := h
    exact ⟨hpos, targetOf_le hstale, hstale, hramp, hrest, hmin, hmax, hlift, by simp, by simp, by simp⟩
  cases hst : (s.gauge g).state with
  | parking => exact keeps_setGauge_homed (by simp [hst]) hok
  | parked =>
    refine keeps_setGauge_homed (by simp [hst]) fun h => GaugeOk.examine ?_ (.inl rfl) _
    exact (hok h).stop
  | unhomed | homing | sweep | tracking | faulted => exact Keeps.refl k s

theorem keeps_withdrawPark (s : State) : Keeps k s (withdrawPark s) := by
  unfold withdrawPark
  split_ifs
  · refine Keeps.trans (keeps_setGdu fun ⟨hok, hconf, hstep⟩ => ?_) (keeps_foldl keeps_resumeGauge _ _)
    exact ⟨fun g => hok g, fun hc g => hconf hc g, hstep⟩
  · exact Keeps.refl k s

theorem keeps_testGauge (contacts : BitVec 6) (s : State) (g : GaugeId) : Keeps k s (testGauge contacts s g) := by
  unfold testGauge
  dsimp only
  cases hst : (s.gauge g).state with
  | tracking =>
    refine keeps_setGauge_homed (by simp [hst]) fun h => ?_
    have hsweep : GaugeOk (s.span g) { s.gauge g with state := .sweep, phase := .toSpan } := h.withState (.inr rfl) _
    split_ifs
    · exact hsweep.atGoal _
    · exact hsweep
  | homing => exact keeps_setGauge_homed (by simp [hst]) fun h => by simpa [GaugeOk, hst] using h
  | faulted =>
    intro h
    refine keeps_homeGauge (fun hk => ?_) g h
    subst hk
    exact GaugeInv.configured h (g := g) (by simp [hst])
  | unhomed | sweep | parking | parked => exact Keeps.refl k s

theorem keeps_testGauges (contacts : BitVec 6) (s : State) : Keeps k s (testGauges contacts s) :=
  (keeps_foldl (keeps_testGauge contacts) _ s).trans (keeps_evalWarnings _ _)

end Sys2Proof.Machine
end

section
/-! SUPPORT. The trips, the odometer, the store's jobs, the service records, the signals and the clock keep each invariant. -/

namespace Sys2Proof.Machine

open Sys2Proof

variable {k : Invariant} {s : State}

/-! ## The trips (R84 to R99) -/

theorem tripOk_fresh (total : Nat) (stamp : Option Stamp) : TripOk (TripRecord.fresh total stamp) := by
  simp [TripOk, TripRecord.fresh]

theorem TripRecord.addMetre_ok {r : TripRecord} (h : TripOk r) : TripOk r.addMetre := by
  unfold TripRecord.addMetre
  split_ifs
  · exact h
  · exact ⟨min_le_right _ _, h.2⟩

theorem TripRecord.addFuel_ok {r : TripRecord} (q : Nat) (h : TripOk r) : TripOk (r.addFuel q) := by
  unfold TripRecord.addFuel
  split_ifs
  · exact h
  · exact ⟨h.1, min_le_right _ _, h.2.2⟩

theorem TripRecord.addSecond_ok {r : TripRecord} (h : TripOk r) : TripOk r.addSecond := by
  unfold TripRecord.addSecond
  split_ifs
  · exact h
  · exact ⟨h.1, h.2.1, min_le_right _ _⟩

theorem TripBounds.mapTrips {c : TripComputer} {f : TripRecord → TripRecord} (hf : ∀ r, TripOk r → TripOk (f r))
    (h : TripBounds c) : TripBounds (c.mapTrips f) :=
  ⟨hf _ h.1, hf _ h.2.1, hf _ h.2.2.1, h.2.2.2⟩

theorem TripBounds.setTrip {c : TripComputer} {t : Trip} {r : TripRecord} (hr : TripOk r) (h : TripBounds c) :
    TripBounds (c.setTrip t r) := by
  obtain ⟨ha, hb, hj, h⟩ := h
  cases t
  case a => exact ⟨hr, hb, hj, h⟩
  case b => exact ⟨ha, hr, hj, h⟩
  case journey => exact ⟨ha, hb, hr, h⟩

theorem TripBounds.addSegmentMetre {c : TripComputer} (h : TripBounds c) : TripBounds c.addSegmentMetre.1 := by
  obtain ⟨ha, hb, hj, hwindow, -, hfuel⟩ := h
  unfold TripComputer.addSegmentMetre
  split_ifs
  · refine ⟨ha, hb, hj, ?_, Nat.zero_le _, Nat.zero_le _⟩
    dsimp only
    split_ifs <;> simp at * <;> omega
  · exact ⟨ha, hb, hj, hwindow, by dsimp only; omega, hfuel⟩

theorem keeps_resetTrip (t : Trip) (s : State) : Keeps k s (resetTrip t s) := by
  have h : Keeps k s (s.setTrc (s.trc.setTrip t (TripRecord.fresh (fit32 s.odo.total) s.clock.stamp))) :=
    keeps_setTrc (TripBounds.setTrip (tripOk_fresh _ _))
  unfold resetTrip
  dsimp only
  split_ifs
  · exact h.trans (keeps_setSru _ _)
  · exact h

theorem keeps_resetTrips (p : TripRecord → Bool) (s : State) : Keeps k s (resetTrips p s) := by
  refine keeps_foldl (fun t _ => ?_) _ s
  split_ifs
  · exact keeps_resetTrip _ t
  · exact Keeps.refl k t

theorem keeps_tripsResolved (s : State) : Keeps k s (tripsResolved s) := by
  unfold tripsResolved
  cases s.power.kind <;> exact keeps_resetTrips _ s

theorem keeps_journeyRule (s : State) : Keeps k s (journeyRule s) := by
  have h : Keeps k s (s.setTrc { s.trc with journeyRuleDue := false, journeyStamp := none }) := keeps_setTrc fun h => h
  unfold journeyRule
  split_ifs
  · exact h.trans (keeps_resetTrip _ _)
  · exact h
  · exact Keeps.refl k s

theorem keeps_recomputeRange (s : State) : Keeps k s (recomputeRange s) := by
  unfold recomputeRange
  dsimp only
  split
  · exact keeps_setTrc fun h => h
  · exact Keeps.refl k s

theorem keeps_tripMetre (s : State) : Keeps k s (tripMetre s) := by
  have h (c : TripComputer) (hc : TripBounds s.trc → TripBounds c) : Keeps k s (s.setTrc c.addSegmentMetre.1) :=
    keeps_setTrc fun hb => (hc hb).addSegmentMetre
  have hmap (n : Nat) (hb : TripBounds s.trc) :
      TripBounds { s.trc.mapTrips TripRecord.addMetre with binMetres := n } :=
    hb.mapTrips fun _ => TripRecord.addMetre_ok
  unfold tripMetre
  dsimp only
  split_ifs
  · exact (h _ (hmap _)).trans (keeps_recomputeRange _)
  · exact h _ (hmap _)

theorem keeps_fuelHandOn (count : Nat) (s : State) : Keeps k s (fuelHandOn count s) := by
  unfold fuelHandOn
  dsimp only
  split
  · exact keeps_setTrc fun h => h
  · split_ifs
    · exact keeps_setTrc fun h => h
    · refine keeps_setTrc fun h => ?_
      obtain ⟨ha, hb, hj, hwindow, hmetres, -⟩ :=
        TripBounds.mapTrips (f := TripRecord.addFuel _) (fun _ => TripRecord.addFuel_ok _) h
      exact ⟨ha, hb, hj, hwindow, hmetres, min_le_right _ _⟩
    · exact keeps_setTrc fun h => h

theorem keeps_tripSecond (s : State) : Keeps k s (tripSecond s) := by
  have hc (h : TripBounds s.trc) :
      TripBounds (if s.power.state = .run then s.trc.mapTrips TripRecord.addSecond else s.trc) := by
    split_ifs
    · exact h.mapTrips fun _ => TripRecord.addSecond_ok
    · exact h
  exact keeps_setTrc fun h => hc h

/-! ## The store's jobs (R107 to R111) -/

theorem Odometer.jobValue_le {o : Odometer} (h : DistanceBounds o) : o.jobValue ≤ 4294967295 :=
  max_le h.1 (held32_fit32 o.total).1

theorem BoundsInv.jobs (h : BoundsInv s) : JobBounds s.stc := by
  obtain ⟨-, -, -, -, -, h, -⟩ := (boundsInv_iff s).mp h
  exact h

theorem BoundsInv.distances (h : BoundsInv s) : DistanceBounds s.odo := by
  obtain ⟨-, -, -, -, h, -⟩ := (boundsInv_iff s).mp h
  exact h

/-- A job is put in progress at its first unit, and an odometer job waits no more than before. -/
theorem keeps_setStc_start {j : Job} {c : StoreController} (hj : StoreInv s → ActiveOk ⟨j, 0, false⟩)
    (hw : s.stc.writePos = c.writePos) (ho : c.waitOdometer = none ∨ c.waitOdometer = s.stc.waitOdometer)
    (hb : BoundsInv s → ∀ w mark slot, j = .odometer w mark slot → w ≤ 4294967295) :
    Keeps k s (s.setStc (c.start j)) := by
  refine keeps_setStc (fun h => ⟨hw ▸ h.1, h.2.1, ?_⟩) fun h => ⟨?_, ?_⟩
  · rintro a ⟨rfl⟩
    exact hj h
  · rcases ho with ho | ho
    · simp [StoreController.start, ho]
    · simpa [StoreController.start, ho] using h.jobs.1
  · rintro a w mark slot ⟨rfl⟩ hjob
    exact hb h w mark slot hjob

theorem keeps_stcBegin (s : State) : Keeps k s (stcBegin s) := by
  unfold stcBegin
  dsimp only
  split
  · split
    next j hj =>
      refine Keeps.trans ?_ (keeps_setOdo fun h => h)
      refine keeps_setStc_start (fun h => ⟨Nat.one_pos, h.1⟩) rfl (.inl rfl) fun h w mark slot hjob => ?_
      obtain ⟨rfl, -⟩ := Job.odometer.inj hjob
      exact h.jobs.1 j hj
    next hnone =>
      split
      next e es he =>
        exact keeps_setStc_start (fun _ => ⟨by simp [Job.units], trivial⟩) rfl (.inr rfl) fun _ w mark slot hjob =>
          nomatch hjob
      next =>
        split
        · exact keeps_setStc_start (fun _ => ⟨by simp [Job.units], trivial⟩) rfl (.inr rfl) fun _ w mark slot hjob =>
            nomatch hjob
        · exact Keeps.refl k s
  · exact Keeps.refl k s

/-- A waiting odometer job takes the present total. -/
theorem keeps_setStc_waiting {mark : Bool} :
    Keeps k s (s.setStc { s.stc with waitOdometer := some { value := s.odo.jobValue, mark := mark } }) := by
  refine keeps_setStc (fun h => h) fun h => ⟨?_, h.jobs.2⟩
  rintro j ⟨rfl⟩
  exact Odometer.jobValue_le h.distances

theorem keeps_commitStart (s : State) : Keeps k s (commitStart s) :=
  (keeps_stcBegin _).after ((keeps_setOdo fun h => by exact h).after keeps_setStc_waiting)

theorem keeps_handService (reset : Option ServiceItem) (s : State) : Keeps k s (handService reset s) :=
  (keeps_stcBegin _).after (keeps_setStc_of_jobs (.inr rfl) rfl rfl)

theorem keeps_handDirty (s : State) : Keeps k s (handDirty s) := by
  unfold handDirty
  split_ifs
  · exact keeps_handService _ s
  · exact Keeps.refl k s

theorem keeps_handConfiguration (s : State) : Keeps k s (handConfiguration s) :=
  (keeps_stcBegin _).after (keeps_setStc_of_jobs (.inr rfl) rfl rfl)

theorem keeps_saveOdometer (s : State) : Keeps k s (saveOdometer s) := by
  unfold saveOdometer
  cases s.odo.commit with
  | clear =>
    dsimp only
    split_ifs
    · exact keeps_commitStart s
    · exact Keeps.refl k s
  | waiting => exact Keeps.refl k s
  | writing => exact keeps_setOdo fun h => h
  | deferred => exact keeps_commitStart s

theorem DistanceBounds.verify {o : Odometer} {w : Nat} (hw : w ≤ 4294967295) (h : DistanceBounds o) :
    DistanceBounds (o.verify w) := by
  obtain ⟨-, hpending, -, hbase⟩ := h
  refine ⟨hw, (Nat.sub_le _ _).trans hpending, ?_, hbase⟩
  rintro v ⟨rfl⟩
  exact hw

theorem keeps_odometerVerified {w : Nat} (hw : k = .bounds → w ≤ 4294967295) : Keeps k s (odometerVerified w s) := by
  have h : Keeps k s (s.setOdo (s.odo.verify w)) := by
    cases k
    case bounds => exact keeps_setOdo fun h => h.verify (hw rfl)
    all_goals exact id
  unfold odometerVerified
  dsimp only
  split_ifs
  · exact h.trans (keeps_commitStart _)
  · exact h

theorem keeps_odometerFailed (w : Nat) (s : State) : Keeps k s (odometerFailed w s) := keeps_setOdo fun h => h

theorem keeps_raiseWaiting (s : State) : Keeps k s (raiseWaiting s) := by
  unfold raiseWaiting
  split
  next j hj =>
    refine keeps_setStc (fun h => h) fun h => ⟨?_, h.jobs.2⟩
    rintro i ⟨rfl⟩
    exact Odometer.jobValue_le h.distances
  next => exact Keeps.refl k s

theorem keeps_odometerMetre (s : State) : Keeps k s (odometerMetre s) := by
  have h : Keeps k s (s.setOdo { s.odo with pending := satInc max32 s.odo.pending }) :=
    keeps_setOdo fun h => ⟨h.1, min_le_right _ _, h.2.2⟩
  unfold odometerMetre
  dsimp only
  split
  · split_ifs
    · exact h.trans (keeps_commitStart _)
    · exact h
  · exact h.trans (keeps_raiseWaiting _)
  · exact h
  · split_ifs
    · exact h.trans (keeps_commitStart _)
    · exact h

theorem keeps_metreEvent (s : State) : Keeps k s (metreEvent s) :=
  (keeps_odometerMetre s).trans (keeps_tripMetre _)

theorem keeps_cutUnit (hk : k.allowsWrites = true) (s : State) : Keeps k s (cutUnit s) := by
  unfold cutUnit
  split
  · exact Keeps.refl k s
  · split
    · exact Keeps.refl k s
    · exact (keeps_setStore hk (tearBytes_wf _ _ _)).trans (keeps_nextDraw _)

/-! ## The service records (R145 to R154) -/

theorem keeps_setItem (s : State) (i : ServiceItem) (v : ServiceState) : Keeps k s (s.setItem i v) := keeps_setSru s _

theorem keeps_markOilReset (i : ServiceItem) (s : State) : Keeps k s (markOilReset i s) := by
  unfold markOilReset
  split_ifs
  · exact keeps_setSru s _
  · exact Keeps.refl k s

theorem keeps_serviceReset (i : ServiceItem) (km : Nat) (s : State) : Keeps k s (serviceReset i km s) :=
  (keeps_handService _ _).after ((keeps_markOilReset _ _).after (keeps_setItem _ _ _))

theorem keeps_fillItem (s : State) (i : ServiceItem) : Keeps k s (fillItem s i) := by
  unfold fillItem
  dsimp only
  split_ifs
  · exact keeps_setItem s _ _
  · exact Keeps.refl k s

theorem keeps_fillDueDays (s : State) : Keeps k s (fillDueDays s) := by
  unfold fillDueDays
  split_ifs
  · exact (keeps_handService _ _).after (keeps_foldl keeps_fillItem _ s)
  · exact Keeps.refl k s

theorem keeps_takeRecord (s : State) (i : ServiceItem) : Keeps k s (takeRecord s i) := by
  unfold takeRecord
  split
  · exact keeps_setItem s _ _
  · exact (keeps_recordCode _ _).after (keeps_setItem s _ _)

theorem keeps_takeRecords (s : State) : Keeps k s (takeRecords s) :=
  (keeps_fillDueDays _).after (keeps_foldl keeps_takeRecord _ s)

theorem keeps_repairItem (km : Nat) (s : State) (i : ServiceItem) : Keeps k s (repairItem km s i) := by
  unfold repairItem
  dsimp only
  split_ifs
  · exact keeps_setItem s _ _
  · exact keeps_setItem s _ _

theorem keeps_serviceHandOver (km : Nat) (s : State) : Keeps k s (serviceHandOver km s) := by
  have hrepair : Keeps k s (ServiceItem.all.foldl (repairItem km) s) := keeps_foldl (keeps_repairItem km) _ s
  have hreset (t : State) :
      Keeps k t
        (match t.sru.heldReset with
          | none => t
          | some i => serviceReset i km (t.setSru { t.sru with heldReset := none })) := by
    split
    · exact Keeps.refl k t
    · exact (keeps_serviceReset _ _ _).after (keeps_setSru t _)
  unfold serviceHandOver
  dsimp only
  refine Keeps.after (hreset _) ?_
  split_ifs
  · exact hrepair
  · exact hrepair.trans (keeps_handService _ _)

theorem keeps_openDrive (s : State) : Keeps k s (openDrive s) := by
  unfold openDrive
  split
  · exact Keeps.refl k s
  · exact keeps_setSru s _

theorem keeps_noteCoolant (s : State) : Keeps k s (noteCoolant s) := by
  unfold noteCoolant
  split_ifs
  · exact keeps_setSru s _
  · exact Keeps.refl k s

theorem keeps_applyPenalty (s : State) : Keeps k s (applyPenalty s) := by
  unfold applyPenalty
  split_ifs
  · exact keeps_setItem s _ _
  · exact Keeps.refl k s

theorem keeps_closeDrive (s : State) : Keeps k s (closeDrive s) := keeps_setSru s _

theorem keeps_saveService (s : State) : Keeps k s (saveService s) :=
  (keeps_closeDrive _).after ((keeps_handDirty _).after (keeps_applyPenalty s))

theorem keeps_cleanItem (s : State) (e : ServiceEntry) : Keeps k s (cleanItem s e) := by
  unfold cleanItem
  dsimp only
  split_ifs
  · exact keeps_setItem s _ _
  · exact Keeps.refl k s

theorem keeps_serviceReport (verified : List ServiceEntry) (s : State) : Keeps k s (serviceReport verified s) :=
  keeps_foldl keeps_cleanItem _ s

/-! ## The signals (R28 to R36) -/

theorem SignalBounds.setSignal {v : Vector SignalRecord 18} {g : Signal} {r : SignalRecord} (hr : r.count ≤ 255)
    (h : SignalBounds v) : SignalBounds (v.set g.ix r) := by
  intro x
  rcases eq_or_ne g.ix x.ix with heq | hne
  · simpa [heq] using hr
  · have hx := h x
    simp only [Fin.getElem_fin, Vector.getElem_set, Fin.val_inj, hne, if_false] at hx ⊢
    exact hx

theorem SignalRecord.written_count_le (r : SignalRecord) (v : Option Int) (timer : Timer) :
    (r.written v timer).count ≤ 255 := min_le_right _ _

theorem keeps_setSignal_written (s : State) (g : Signal) (v : Option Int) (timer : Timer) :
    Keeps k s (s.setSignal g ((s.signal g).written v timer)) :=
  keeps_setSignals (SignalBounds.setSignal (SignalRecord.written_count_le _ _ _))

theorem keeps_signalsChanged (sigs : List Signal) (s : State) : Keeps k s (signalsChanged sigs s) := by
  have hcoolant (t : State) : Keeps k t (if sigs.contains .coolantT then noteCoolant t else t) := by
    split_ifs
    · exact keeps_noteCoolant t
    · exact Keeps.refl k t
  have hengine (t : State) : Keeps k t (if sigs.contains .engFlags then followEngine t else t) := by
    split_ifs
    · exact keeps_followEngine t
    · exact Keeps.refl k t
  exact (keeps_evalWarnings _ _).after
    ((hengine _).after ((hcoolant _).after (keeps_foldl (fun t g => keeps_decideTargets g t) _ s)))

theorem keeps_arriveAll (arrivals : List (Signal × Option Int)) (s : State) : Keeps k s (arriveAll arrivals s) :=
  (keeps_signalsChanged _ _).after (keeps_foldl (fun t _ => keeps_setSignal_written t _ _ _) _ s)

theorem keeps_writeLocal (g : Signal) (v : Option Int) (s : State) : Keeps k s (writeLocal g v s) :=
  (keeps_signalsChanged _ _).after (keeps_setSignal_written s _ _ _)

theorem keeps_writeFuelLevel (level : Nat) (s : State) : Keeps k s (writeFuelLevel level s) := by
  unfold writeFuelLevel
  dsimp only
  split_ifs
  · exact (keeps_recomputeRange _).after (keeps_writeLocal _ _ s)
  · exact keeps_writeLocal _ _ s

theorem keeps_restartCourtesy (s : State) : Keeps k s (restartCourtesy s) := by
  unfold restartCourtesy
  split_ifs
  · exact keeps_setPower rfl rfl rfl (.inr ⟨rfl, rfl⟩)
  · exact Keeps.refl k s

/-! ## The clock (R156 to R163) -/

theorem keeps_passSecond (s : State) : Keeps k s (passSecond s) := by
  have h : Keeps k s (tripSecond (s.setClock s.clock.tick)) :=
    (keeps_tripSecond _).after (keeps_setClock ClockOk.tick)
  unfold passSecond
  dsimp only
  split_ifs
  · exact h.trans (keeps_offerTime _)
  · exact h

theorem keeps_setTime {hour minute second day : Nat}
    (ht : k = .range → hour ≤ 23 ∧ minute ≤ 59 ∧ second ≤ 59 ∧ day ≤ 36524) (s : State) :
    Keeps k s (setTime hour minute second day s) := by
  have h : Keeps k s
      (s.setClock
        { s.clock with
          hour := hour, minute := minute, second := second, day := day, prescaler := 0, valid := true }) := by
    cases k
    case range =>
      refine keeps_setClock fun hc => ?_
      obtain ⟨-, -, -, -, -, h⟩ := hc
      obtain ⟨hh, hm, hs, hd⟩ := ht rfl
      exact ⟨hh, hm, hs, hd, Nat.zero_lt_succ _, h⟩
    all_goals exact id
  unfold setTime
  refine (keeps_offerTime _).after ?_
  dsimp only
  split_ifs
  · exact h
  · exact (keeps_fillDueDays _).after ((keeps_evalWarnings _ _).after h)

/-! ## The Message Centre (R62, R166 to R174) -/

theorem keeps_refresh (s : State) : Keeps k s (refresh s) := by
  unfold refresh
  dsimp only
  split_ifs
  · exact keeps_setMsc_of_clockSet (.inl rfl)
  · exact keeps_setMsc_of_clockSet (.inl rfl)
  · exact Keeps.refl k s

theorem keeps_beginLampTest (s : State) : Keeps k s (beginLampTest s) := by
  unfold beginLampTest
  split_ifs
  · exact keeps_setMsc_of_clockSet (.inl rfl)
  · exact Keeps.refl k s

theorem keeps_overrunNotice (s : State) : Keeps k s (overrunNotice s) := by
  unfold overrunNotice
  cases s.input.overrun with
  | clear => exact Keeps.refl k s
  | clearRead => exact keeps_setInput fun h => h
  | raised => exact (keeps_setMsc_of_clockSet (.inr rfl)).after (keeps_setInput fun h => by exact h)
  | raisedAfterRead => exact keeps_setInput fun h => h

theorem keeps_takeEvent {e x : ButtonEvent} {rest : List ButtonEvent} (hr : s.input.events = x :: rest) :
    Keeps k s (takeEvent e rest s) := by
  have h : Keeps k s (overrunNotice (s.setInput { s.input with events := rest })) := by
    refine (keeps_overrunNotice _).after (keeps_setInput fun ⟨hevents, hbad⟩ => ⟨?_, hbad⟩)
    rw [hr] at hevents
    exact (Nat.le_succ _).trans hevents
  unfold takeEvent
  dsimp only
  split_ifs
  · exact h.trans (keeps_setMsc_of_clockSet (.inl rfl))
  · exact h

theorem keeps_markEvent (e : ButtonEvent) (s : State) : Keeps k s (markEvent e s) := by
  unfold markEvent
  split_ifs
  · exact keeps_setMsc_of_clockSet (.inl rfl)
  · exact Keeps.refl k s

theorem keeps_onButton {act : State → State} (e : ButtonEvent) (ha : ∀ t, Keeps k t (act t)) (s : State) :
    Keeps k s (onButton e act s) := by
  unfold onButton
  split
  next x rest hr =>
    split_ifs
    · exact (keeps_refresh _).after ((keeps_markEvent _ _).after ((ha _).after (keeps_takeEvent hr)))
    · exact Keeps.refl k s
  next => exact Keeps.refl k s

theorem keeps_endReview (s : State) : Keeps k s (endReview s) := keeps_setMsc_of_clockSet (.inl rfl)

theorem keeps_startReview (s : State) : Keeps k s (startReview s) := keeps_setMsc_of_clockSet (.inl rfl)

end Sys2Proof.Machine
end

section
/-! SUPPORT. The Power Unit's transitions keep each invariant: the starts and their steps, the entries to RUN and COURTESY,
the end of COURTESY, SLEEP and the odometer resolution. -/

namespace Sys2Proof.Machine

open Sys2Proof

variable {k : Invariant} {s : State}

/-! ## The configured values (R179) -/

theorem ranged_bounds {v lo hi dflt : Nat} (hlo : lo ≤ dflt) (hhi : dflt ≤ hi) :
    lo ≤ (ranged v lo hi dflt).1 ∧ (ranged v lo hi dflt).1 ≤ hi := by
  unfold ranged
  split_ifs with h
  · exact h
  · exact ⟨hlo, hhi⟩

theorem settingsOk_default : SettingsOk Settings.default := by
  unfold SettingsOk
  decide

theorem rangedSender_ok {t : List (Nat × Nat)} (h : t.length = 8) :
    (rangedSender t).1.length = 8 ∧ senderMonotonic (rangedSender t).1 = true := by
  unfold rangedSender
  split_ifs with hm
  · exact ⟨h, hm⟩
  · decide

theorem rangedTrim_bounds (v : Int) : -120 ≤ (rangedTrim v).1 ∧ (rangedTrim v).1 ≤ 120 := by
  unfold rangedTrim
  split_ifs with h
  · exact h
  · decide

theorem code2_lt (b : Byte) (i : Nat) : code2 b i < 4 := Nat.mod_lt _ (by decide)

theorem periodMs_mem {c : Nat} (h : c < 4) : periodMs c ∈ [1, 2, 4, 8] := by
  interval_cases c <;> decide

theorem ignitionSamples_mem {c : Nat} (h : c < 4) : ignitionSamples c ∈ [8, 32, 128, 512] := by
  interval_cases c <;> decide

theorem settingsOk_readConfiguration (bs : List Byte) : SettingsOk (readConfiguration bs).1 := by
  unfold readConfiguration
  split_ifs
  · exact settingsOk_default
  · refine ⟨ranged_bounds (by decide) (by decide), ranged_bounds (by decide) (by decide),
      ranged_bounds (by decide) (by decide), ranged_bounds (by decide) (by decide),
      ranged_bounds (by decide) (by decide), ranged_bounds (by decide) (by decide),
      rangedSender_ok (by simp [senderField]), ranged_bounds (by decide) (by decide),
      ranged_bounds (by decide) (by decide), ranged_bounds (by decide) (by decide),
      ranged_bounds (by decide) (by decide), ranged_bounds (by decide) (by decide),
      ranged_bounds (by decide) (by decide), fun i => ?_, fun i => ?_, Nat.le_of_lt_succ (code2_lt _ _),
      ignitionSamples_mem (Nat.mod_lt _ (by decide)), rangedTrim_bounds _, fun i => ?_, fun i => ?_,
      (ranged_bounds (by decide) (by decide)).2⟩
    · have hspan : ∀ i : Fin 6, 200 ≤ Settings.default.spans[i] ∧ Settings.default.spans[i] ≤ 1080 := by decide
      simpa [spanField] using ranged_bounds (v := word16 bs (32 + 2 * i.val)) (hspan i).1 (hspan i).2
    · simp only [Fin.getElem_fin, Vector.getElem_ofFn]
      split_ifs
      · exact periodMs_mem (code2_lt _ _)
      · exact periodMs_mem (code2_lt _ _)
    · simpa using Nat.le_of_lt_succ (byteAt bs (48 + i.val)).isLt
    · have hday : ∀ i : Fin 4, Settings.default.dayIntervals[i] ≤ 1095 := by decide
      simpa [dayField] using (ranged_bounds (v := word16 bs (52 + 2 * i.val)) (Nat.zero_le _) (hday i)).2

/-! ## A fresh state (R176) -/

theorem warningInv_of_inactive {t : State} (hl : t.wnu.list = []) (hr : ∀ n, t.wnu.record n = inactiveRecord) :
    WarningInv t := by
  simp [warningInv_iff, hl, hr, RecordFits, ClassFits, inactiveRecord, WarningRecord.unacknowledged]

theorem gaugeInv_of_unhomed {t : State}
    (hg : ∀ g, (t.gauge g).state = .unhomed ∧ (t.gauge g).target = 0 ∧ (t.gauge g).staleTarget = 0 ∧
      (t.gauge g).position = 0 ∧ (t.gauge g).motion = .atRest ∧ (t.gauge g).ramp = 0 ∧ (t.gauge g).rest = 0 ∧
      (t.gauge g).attempt = 1 ∧ (t.gauge g).lift = none)
    (hc : t.power.configured = false) (hs : t.power.step ≠ .step4 ∧ t.power.step ≠ .done) : GaugeInv t := by
  refine ⟨fun g => ?_, fun _ g => ?_, fun _ => by simp [hc, hs]⟩
  · obtain ⟨hstate, htarget, hstale, hpos, hmotion, hramp, hrest, hattempt, hlift⟩ := hg g
    simp [GaugeOk, hstate, htarget, hstale, hpos, hmotion, hramp, hrest, hattempt, hlift]
  · obtain ⟨hstate, htarget, hstale, -⟩ := hg g
    exact ⟨hstate, htarget, hstale⟩

theorem vector_replicate_ix {α : Type} {n : Nat} (v : α) (i : Fin n) : (Vector.replicate n v)[i] = v := by simp

/-- A COLD start over a memory that is canonical and a pattern memory as made keeps every invariant (R176). -/
theorem holds_cold {store : Memory} {pattern : List Byte} {spoiled : Bool} {seq draw : Nat} {pending : List Instr}
    (hm : k = .memory → store.wf = true)
    (hp : k = .pattern → spoiled = false → pattern = Config.patternMemory)
    (hq : ∀ l, k = .queue l → pending = l) (hs : ∀ m, k = .held m → store = m) :
    k.Holds (State.cold store pattern spoiled seq draw pending) := by
  cases k with
  | memory => exact hm rfl
  | store => simp [Invariant.Holds, StoreInv, State.cold]
  | pattern => exact hp rfl
  | tx => simp [Invariant.Holds, TxInv, State.cold, Link.onLine]
  | gauge => exact gaugeInv_of_unhomed (fun g => by simp [State.cold, State.gauge]) rfl (by simp [State.cold])
  | warning => exact warningInv_of_inactive rfl fun n => vector_replicate_ix _ _
  | chime => simp [Invariant.Holds, ChimeInv, State.cold]
  | range => exact ⟨settingsOk_default, by simp [ClockOk, State.cold], by simp [State.cold]⟩
  | bounds => simp [Invariant.Holds, BoundsInv, State.cold, CountersOk, TripOk, OdometerOk, State.signal]
  | queue l => exact hq l rfl
  | held m => exact hs m rfl

/-- A WARM or WAKE start keeps every invariant (R176). -/
theorem keeps_startAfresh {kind : StartKind} {step : StartStep} {hold : Timer}
    (hstep : step ≠ .step4 ∧ step ≠ .done) (s : State) : Keeps k s (startAfresh kind step hold s) := by
  intro h
  have hcold : k.Holds (State.cold s.store s.power.patternMemory s.power.patternSpoiled s.seq s.draw s.pending) :=
    holds_cold (fun hk => by subst hk; exact h) (fun hk => by subst hk; exact h) (fun l hk => by subst hk; exact h)
      (fun m hk => by subst hk; exact h)
  cases k with
  | memory => exact h
  | store => exact hcold
  | pattern => exact h
  | tx => exact hcold
  | gauge => exact gaugeInv_of_unhomed (fun g => by simp [startAfresh, State.cold, State.gauge]) rfl hstep
  | warning => exact hcold
  | chime => exact hcold
  | range =>
    obtain ⟨-, hclock, -⟩ := h
    exact ⟨settingsOk_default, hclock, by simp [startAfresh, State.cold]⟩
  | bounds =>
    obtain ⟨⟨hcounters, -⟩, -, -, ⟨ha, hb, hj, hwindow, hmetres, hfuel⟩, ⟨-, hpending, hverified, -⟩, -, hlog⟩ :=
      (boundsInv_iff s).mp h
    obtain ⟨-, hsignals, hinput, -, -, hjobs, -⟩ := (boundsInv_iff _).mp hcold
    exact (boundsInv_iff _).mpr
      ⟨⟨hcounters, Nat.zero_le _, Nat.zero_le _⟩, hsignals, hinput, ⟨ha, hb, hj, hwindow, hmetres, hfuel⟩,
        ⟨Nat.zero_le _, hpending, hverified, by simp [startAfresh, State.cold]⟩, hjobs, hlog⟩
  | queue l => exact h
  | held m => exact h

/-- A new power record with a step of STARTING, over the same pattern memory (R177 to R179). -/
theorem keeps_setPower_of_gauge {v : PowerUnit} (hm : v.patternMemory = s.power.patternMemory)
    (hp : v.patternSpoiled = s.power.patternSpoiled) (hg : k = .gauge → GaugeInv s → GaugeInv (s.setPower v)) :
    Keeps k s (s.setPower v) := by
  cases k
  case pattern => exact fun h hmade => hm.trans (h (hp.symm.trans hmade))
  case gauge => exact hg rfl
  case warning => exact fun ⟨hnodup, hok, hmade⟩ => ⟨hnodup, hok, fun h => hmade (hp.symm.trans h)⟩
  all_goals exact id

theorem GaugeInv.setPower_step {v : PowerUnit} (hc : v.configured = s.power.configured)
    (hs : s.power.configured = true ↔ v.step = .step4 ∨ v.step = .done) (h : GaugeInv s) : GaugeInv (s.setPower v) := by
  obtain ⟨hok, hconf, -⟩ := h
  exact ⟨fun g => hok g, fun h => hconf (hc ▸ h), fun _ => hc ▸ hs⟩

/-- The next step of STARTING, by a new power record over the same pattern memory. -/
theorem keeps_setPower_step {v : PowerUnit} (hm : v.patternMemory = s.power.patternMemory)
    (hp : v.patternSpoiled = s.power.patternSpoiled) (hc : v.configured = s.power.configured)
    (hstart : k = .gauge → s.power.state = .starting)
    (hs : (s.power.step = .step4 ∨ s.power.step = .done) ↔ (v.step = .step4 ∨ v.step = .done)) :
    Keeps k s (s.setPower v) :=
  keeps_setPower_of_gauge hm hp fun hk h => h.setPower_step hc ((h.2.2 (hstart hk)).trans hs)

theorem keeps_beginSteps (hstart : k = .gauge → s.power.state = .starting)
    (hs : s.power.step ≠ .step4 ∧ s.power.step ≠ .done) : Keeps k s (beginSteps s) := by
  have h : Keeps k s (s.setPower { s.power with step := .step1, restartHold := none }) :=
    keeps_setPower_step rfl rfl rfl hstart (by simp [hs])
  unfold beginSteps
  dsimp only
  split_ifs
  · exact h.trans (keeps_beginLampTest _)
  · exact h

theorem keeps_wakeStart (s : State) : Keeps k s (wakeStart s) :=
  (keeps_refresh _).after ((keeps_beginSteps (fun _ => rfl) (by simp [startAfresh])).after
    (keeps_startAfresh (by simp) s))

theorem keeps_wakeEvent (s : State) : Keeps k s (wakeEvent s) := by
  unfold wakeEvent
  split_ifs
  · exact keeps_wakeStart s
  · exact Keeps.refl k s

theorem keeps_panelRestart (hk : k.allowsWrites = true) (s : State) : Keeps k s (panelRestart s) :=
  (keeps_refresh _).after ((keeps_startAfresh (by simp) _).after (keeps_cutUnit hk s))

theorem holds_off {store : Memory} {pattern : List Byte} {spoiled : Bool} {seq draw : Nat} {pending : List Instr}
    (hm : k = .memory → store.wf = true)
    (hp : k = .pattern → spoiled = false → pattern = Config.patternMemory)
    (hq : ∀ l, k = .queue l → pending = l) (hs : ∀ m, k = .held m → store = m) :
    k.Holds (State.off store pattern spoiled seq draw pending) := by
  have h : k.Holds (State.cold store pattern spoiled seq draw pending) := holds_cold hm hp hq hs
  cases k
  case gauge => exact gaugeInv_of_unhomed (fun g => by simp [State.off, State.cold, State.gauge]) rfl (by simp [State.off])
  all_goals exact h

/-! ## The steps of STARTING (R177 to R180) -/

theorem patternCheck_eq_made (cells : List (Nat × Byte)) (s : State) (h : PatternInv s) :
    PatternInv (patternCheck cells s) := by
  intro hmade
  obtain ⟨hpower, hspoiled⟩ : s.power.patternSpoiled = false ∧ cells = [] := by
    have hor : (s.power.patternSpoiled || !cells.isEmpty) = false := by
      unfold patternCheck at hmade
      dsimp only at hmade
      split_ifs at hmade <;> exact hmade
    simpa using hor
  subst hspoiled
  have hmemory : (patternCheck [] s).power.patternMemory = s.power.patternMemory := by
    unfold patternCheck
    dsimp only
    split_ifs <;> rfl
  exact hmemory.trans (h hpower)

/-- Step 1 leaves everything but its own results and the pattern memory (R177). -/
theorem keeps_patternCheck (cells : List (Nat × Byte))
    (hstart : k = .gauge → s.power.state = .starting) (hs : s.power.step = .step1) :
    Keeps k s (patternCheck cells s) := by
  cases k
  case pattern => exact patternCheck_eq_made cells s
  case gauge =>
    intro h
    have hpower : GaugeInv
        (s.setPower
          { s.power with
            step := .step2, patternMemory := withCells cells s.power.patternMemory
            patternSpoiled := s.power.patternSpoiled || !cells.isEmpty
            patternFail := byteSum (withCells cells s.power.patternMemory) != 0 }) :=
      h.setPower_step rfl ((h.2.2 (hstart rfl)).trans (by simp [hs]))
    unfold patternCheck
    dsimp only
    split_ifs
    · exact keeps_recordCode (k := .gauge) _ _ hpower
    · exact hpower
  case warning =>
    rintro ⟨hnodup, hok, hmade⟩
    unfold patternCheck
    dsimp only
    split_ifs
    all_goals
      refine ⟨hnodup, hok, fun h => hmade ?_⟩
      obtain ⟨h, -⟩ := Bool.or_eq_false_iff.mp h
      exact h
  all_goals
    unfold patternCheck
    dsimp only
    split_ifs
    · exact id
    · exact id

theorem keeps_coldKeepAlive (s : State) : Keeps k s (coldKeepAlive s) := by
  cases k
  case range => exact fun ⟨hsettings, _, hset⟩ => ⟨hsettings, by simp [coldKeepAlive, ClockOk, State.cold], hset⟩
  case bounds =>
    intro h
    obtain ⟨⟨-, hring, hrun⟩, hsignals, ⟨hevents, hbad⟩, -, ⟨hcommitted, -, -, hbase⟩, hjobs, -⟩ :=
      (boundsInv_iff s).mp h
    refine (boundsInv_iff _).mpr
      ⟨⟨?_, hring, hrun⟩, hsignals, ⟨hevents, hbad⟩, ?_, ⟨hcommitted, Nat.zero_le _, ?_, hbase⟩, hjobs, ?_⟩
    · simp [coldKeepAlive, State.cold, CountersOk]
    · simp [coldKeepAlive, State.cold, TripBounds, TripOk]
    · simp [coldKeepAlive]
    · simp [coldKeepAlive, State.cold, LogBounds]
  all_goals exact id

theorem keeps_keepAliveCheck (found : Option (BitVec 16)) (ram : List (Vector Byte 8))
    (hstart : s.power.state = .starting) (hs : s.power.step = .step2) :
    Keeps k s (keepAliveCheck found ram s) := by
  have hcold (c : Prop) [Decidable c] :
      Keeps k s (if c then evalSpoiled [.lightsOn, .keyIn, .clockUnset] (coldKeepAlive s) else s) ∧
        (if c then evalSpoiled [.lightsOn, .keyIn, .clockUnset] (coldKeepAlive s) else s).power.state = .starting ∧
        (if c then evalSpoiled [.lightsOn, .keyIn, .clockUnset] (coldKeepAlive s) else s).power.step = .step2 := by
    split_ifs
    · exact ⟨(keeps_evalSpoiled _ _).after (keeps_coldKeepAlive s), by simp [coldKeepAlive, hstart],
        by simp [coldKeepAlive, hs]⟩
    · exact ⟨Keeps.refl k s, hstart, hs⟩
  have hcode (c : Prop) [Decidable c] (t : State) :
      Keeps k t (if c then recordCode 0x32 t else t) ∧ (if c then recordCode 0x32 t else t).power = t.power := by
    split_ifs
    · exact ⟨keeps_recordCode _ t, rfl⟩
    · exact ⟨Keeps.refl k t, rfl⟩
  unfold keepAliveCheck
  dsimp only
  refine Keeps.after (keeps_setPower_step rfl rfl rfl (fun _ => ?_) ?_) (Keeps.after (hcode _ _).1 (hcold _).1)
  · rw [(hcode _ _).2]
    exact (hcold _).2.1
  · rw [(hcode _ _).2, (hcold _).2.2]
    simp

end Sys2Proof.Machine
end

section
/-! SUPPORT. Steps 3 and 4 of a start, the entries to RUN and COURTESY, the end of COURTESY, SLEEP and the odometer
resolution keep each invariant. -/

namespace Sys2Proof.Machine

open Sys2Proof

variable {k : Invariant} {s : State}

/-! ## Steps 3 and 4 (R113, R114, R179) -/

theorem QueueOk.sentFrom {old : Nat} (address : Nat) {q : List TxEntry} (h : QueueOk old q) :
    QueueOk address (q.map (·.sentFrom address)) := by
  obtain ⟨hlen, hord, hkeys, hok, -⟩ := h
  refine ⟨by simpa using hlen, by simpa [List.pairwise_map] using hord, ?_, ?_, ?_⟩
  · simpa [List.pairwise_map, TxEntry.sentFrom] using hkeys
  · refine List.forall_mem_map.mpr fun e he => ?_
    obtain ⟨hcls, hfailed, hheld⟩ := hok e he
    refine ⟨hcls, hfailed, ?_⟩
    rintro x hx
    obtain ⟨y, hy, rfl⟩ := Option.mem_map.mp hx
    exact hheld y hy
  · exact List.forall_mem_map.mpr fun e _ => ⟨e.sentFrom_source address, e.sentFrom_held address⟩

theorem signalBounds_foldl_set (c : Settings) (l : List Signal) {v : Vector SignalRecord 18} (h : SignalBounds v) :
    SignalBounds (l.foldl (fun v g => v.set g.ix { v[g.ix] with expected := expectedSource c g }) v) := by
  induction l generalizing v with
  | nil => exact h
  | cons g l ih => exact ih (h.setSignal (h g))

/-- The configuration comes in force at step 3, the gauges standing UNHOMED at their spans (R64, R70, R179). -/
theorem keeps_takeConfiguration {bytes : List Byte} {c : Settings} {r : ConfigResult} (hbytes : bytes.length = 62)
    (hc : SettingsOk c) (hstart : s.power.state = .starting) (hs : s.power.step = .step3) :
    Keeps k s (takeConfiguration bytes c r s) := by
  cases k
  case store => exact fun ⟨hpos, _, hactive⟩ => ⟨hpos, hbytes, hactive⟩
  case tx =>
    intro h
    obtain ⟨hq, hline, hserved⟩ := (txInv_iff s).mp h
    refine (txInv_iff _).mpr ⟨hq.sentFrom c.address, ?_, hserved⟩
    rw [takeConfiguration_txQueue, List.countP_map]
    exact hline
  case gauge =>
    rintro ⟨hok, hconf, hstep⟩
    have hcold : s.power.configured = false := by
      have := hstep hstart
      simpa [hs] using this
    refine ⟨fun g => ?_, fun h => (nomatch h), fun _ => by simp [takeConfiguration]⟩
    obtain ⟨hstate, htarget, hstale⟩ := hconf hcold g
    obtain ⟨-, -, -, hramp, hrest, hmin, hmax, hlift, hmotion, -⟩ := hok g
    have hgauge : (takeConfiguration bytes c r s).gauge g = { s.gauge g with position := c.spans[g.ix] } := by
      simp [takeConfiguration, State.gauge]
    rw [hgauge]
    refine ⟨Nat.le_refl _, by simp [htarget], by simp [hstale], hramp, hrest, hmin, hmax, hlift, hmotion, ?_, ?_⟩
    · simp [hstate]
    · simp [hstate]
  case range =>
    rintro ⟨-, hclock, hset⟩
    refine ⟨hc, ?_, hset⟩
    obtain ⟨-, -, -, -, -, -, -, -, -, -, -, -, -, -, -, -, -, htrim, -⟩ := hc
    unfold takeConfiguration
    dsimp only
    split_ifs
    · obtain ⟨hh, hm, hsec, hd, hp, hw, ht, -⟩ := hclock
      refine ⟨hh, hm, hsec, hd, hp, hw, ht, ?_⟩
      rintro x ⟨rfl⟩
      exact htrim
    · exact hclock
  case bounds =>
    intro h
    obtain ⟨hl, hsignals, hi, h⟩ := (boundsInv_iff s).mp h
    exact (boundsInv_iff _).mpr ⟨hl, signalBounds_foldl_set c _ hsignals, hi, h⟩
  all_goals exact id

theorem keeps_readConfigurationStep (hstart : s.power.state = .starting) (hs : s.power.step = .step3) :
    Keeps k s (readConfigurationStep s) := by
  have hcode (r : ConfigResult) (t : State) : Keeps k t (recordConfigResult r t) := by
    unfold recordConfigResult
    split
    · exact keeps_recordCode _ t
    · exact Keeps.refl k t
    · exact keeps_recordCode _ t
  refine (keeps_evalWarnings _ _).after ((hcode _ _).after (keeps_takeConfiguration ?_ ?_ hstart hs))
  · simp [Memory.readBytes]
  · exact settingsOk_readConfiguration _

theorem beNat_lt (bs : List Byte) : beNat bs < 256 ^ bs.length := by
  have h : ∀ (bs : List Byte) n, bs.foldl (fun n (b : Byte) => 256 * n + b.toNat) n < (n + 1) * 256 ^ bs.length := by
    intro bs
    induction bs with
    | nil => intro n; simp
    | cons b bs ih =>
      intro n
      have hb : 256 * n + b.toNat + 1 ≤ (n + 1) * 256 := by have := b.isLt; omega
      calc _ < (256 * n + b.toNat + 1) * 256 ^ bs.length := ih _
        _ ≤ (n + 1) * 256 * 256 ^ bs.length := Nat.mul_le_mul_right _ hb
        _ = (n + 1) * 256 ^ (b :: bs).length := by rw [List.length_cons, pow_succ']; ring
  simpa [beNat] using h bs 0

theorem ringSlot_le {m : Memory} {i v : Nat} {mark : Bool} (h : ringSlot m i = some (v, mark)) : v ≤ 4294967295 := by
  unfold ringSlot slotRead at h
  split_ifs at h
  obtain ⟨rfl, -⟩ := Prod.mk.inj (Option.some.inj h)
  have hlt := beNat_lt (List.take 4 (m.readBytes (slotAddress i) 6))
  have hlen : (List.take 4 (m.readBytes (slotAddress i) 6)).length = 4 := by simp [Memory.readBytes]
  rw [hlen] at hlt
  omega

theorem reconcile_le {newest verified : Option Nat} {pending : Nat} (hn : ∀ v ∈ newest, v ≤ 4294967295)
    (hv : ∀ v ∈ verified, v ≤ 4294967295) (hp : pending ≤ 4294967295) :
    (∀ v ∈ (reconcile newest verified pending).1, v ≤ 4294967295) ∧
      (reconcile newest verified pending).2.1 ≤ 4294967295 := by
  unfold reconcile
  split
  · split_ifs
    · exact ⟨hn, (Nat.sub_le _ _).trans hp⟩
    · exact ⟨hv, hp⟩
    · exact ⟨hn, hp⟩
  · exact ⟨hn, hp⟩
  · exact ⟨hv, hp⟩
  · exact ⟨by simp, hp⟩

theorem ringWritePosition_lt (newest : Option (Nat × Nat × Bool)) : ringWritePosition newest < 16 := by
  unfold ringWritePosition
  split
  · exact Nat.mod_lt _ (by decide)
  · decide

theorem newestSlot_value_le {m : Memory} {n : Nat} : ∀ v ∈ (newestSlot m n).map (·.2.1), v ≤ 4294967295 := by
  intro v hv
  obtain ⟨⟨i, w, mark⟩, hslot, rfl⟩ := Option.mem_map.mp hv
  obtain ⟨-, h, -⟩ := (newestSlot_spec m n).2 i w mark hslot
  exact ringSlot_le h

theorem keeps_takeRing (s : State) : Keeps k s (takeRing s) := by
  have hput (pos : Nat) (restored : Bool) (hpos : pos < 16) :
      Keeps k s
        ((s.setStc { s.stc with writePos := pos }).setOdo
          { s.odo with
            committed := (reconcile ((newestSlot s.store 16).map (·.2.1)) s.odo.verified s.odo.pending).1.getD 0
            pending := (reconcile ((newestSlot s.store 16).map (·.2.1)) s.odo.verified s.odo.pending).2.1
            base := (reconcile ((newestSlot s.store 16).map (·.2.1)) s.odo.verified s.odo.pending).1
            baseCommit := (reconcile ((newestSlot s.store 16).map (·.2.1)) s.odo.verified s.odo.pending).2.2
            restored := restored }) := by
    refine Keeps.after (keeps_setOdo fun h => ?_) (keeps_setStc_of_jobs (.inl hpos) rfl rfl)
    obtain ⟨-, hpending, hverified, -⟩ := h
    obtain ⟨hbase, hp⟩ := reconcile_le (newestSlot_value_le (m := s.store) (n := 16)) hverified hpending
    refine ⟨?_, hp, hverified, hbase⟩
    cases hr : (reconcile ((newestSlot s.store 16).map (·.2.1)) s.odo.verified s.odo.pending).1 with
    | none => simp
    | some v => exact hbase v hr
  unfold takeRing
  dsimp only
  split_ifs
  · exact (keeps_recordCode _ _).after (hput _ _ (ringWritePosition_lt _))
  · exact hput _ _ (ringWritePosition_lt _)

theorem keeps_openPort (s : State) : Keeps k s (openPort s) :=
  (keeps_stcBegin _).after (keeps_setStc_of_jobs (.inr rfl) rfl rfl)

/-! ## RUN and COURTESY (R180 to R182) -/

/-- The tone leaves SILENT: nothing but it and the chime queue changes (R138). -/
theorem WarningUnit.allowTone_eq (w : WarningUnit) :
    w.allowTone = { w with tone := w.allowTone.tone, chimes := w.allowTone.chimes } := by
  unfold WarningUnit.allowTone WarningUnit.startHead
  split_ifs
  · split <;> rfl
  · rfl

theorem keeps_setWnu_allowTone {v : WarningUnit} (hr : v.records = s.wnu.allowTone.records)
    (hl : v.list = s.wnu.allowTone.list) (hc : s.wnu.allowTone.ChimeOk → v.ChimeOk)
    (hlog : v.log = s.wnu.allowTone.log) (hover : v.overflow = s.wnu.allowTone.overflow)
    (hcounts : v.counts = s.wnu.allowTone.counts) : Keeps k s (s.setWnu v) := by
  rw [WarningUnit.allowTone_eq] at hr hl hlog hover hcounts
  refine keeps_setWnu_of_records hr hl (fun h => hc (chimeOk_allowTone h)) fun ⟨hl, ho, hn⟩ => ?_
  exact ⟨hlog ▸ hl, hover ▸ ho, hcounts ▸ hn⟩

theorem keeps_leaveStarting (contacts : BitVec 6) (hc : k = .gauge → s.power.configured = true) :
    Keeps k s (leaveStarting contacts s) := by
  have hlink : Keeps k s
      (s.setLink { s.link with
        tx := if s.link.tx = .idle ∧ s.link.txQueue ≠ [] then .waitingIdle else s.link.tx }) := by
    refine keeps_setLink_of_queue rfl ?_ fun h => h
    unfold Link.onLine
    split_ifs with h
    · rw [h.1]
      rfl
    · rfl
  unfold leaveStarting
  dsimp only
  exact (keeps_setWnu_allowTone rfl rfl id rfl rfl rfl).after ((keeps_setInput fun h => by exact h).after
    ((keeps_setOdo fun h => by exact h).after ((keeps_homeAll (by exact hc)).after hlink)))

theorem raisedOk_serviceRaises (s : State) : RaisedOk s.serviceRaises s := by
  unfold State.serviceRaises
  split_ifs
  · exact raisedOk_raisedService s
  · exact raisedOk_nil s

theorem keeps_enterRun (s : State) : Keeps k s (enterRun s) := by
  unfold enterRun
  dsimp only
  refine Keeps.after (keeps_evalTogether (raisedOk_serviceRaises _) _) ?_
  refine Keeps.after (keeps_setWnu_allowTone rfl rfl (fun h => by exact h) rfl rfl rfl) ?_
  refine (keeps_openDrive _).after ((keeps_journeyRule _).after ((keeps_recomputeRange _).after ?_))
  refine Keeps.after (keeps_setTrc fun h => by exact h) (Keeps.after (keeps_setOdo fun h => by exact h) ?_)
  exact (keeps_withdrawPark _).after (keeps_setPower rfl rfl rfl (.inl (by simp)))

theorem keeps_enterCourtesy (s : State) : Keeps k s (enterCourtesy s) := by
  have hoffer (t : State) (c : Prop) [Decidable c] : Keeps k t (if c then offerDistance t else t) := by
    split_ifs
    · exact keeps_offerDistance t
    · exact Keeps.refl k t
  unfold enterCourtesy
  dsimp only
  refine (keeps_evalWarnings _ _).after ((hoffer _ _).after ?_)
  refine Keeps.after (keeps_setMsc_of_clockSet (.inr rfl)) ?_
  refine Keeps.after (keeps_setWnu_of_records rfl rfl (fun h => by exact h) fun h => by exact h) ?_
  refine Keeps.after (keeps_setTrc fun h => by exact h) (Keeps.after (keeps_setOdo fun h => by exact h) ?_)
  exact keeps_setPower rfl rfl rfl (.inl (by simp))

theorem keeps_endStarting (contacts : BitVec 6) (hc : k = .gauge → s.power.configured = true) :
    Keeps k s (endStarting contacts s) := by
  have hpower (next : Power) (hnext : next ≠ .starting) :
      Keeps k s (leaveStarting contacts (s.setPower { s.power with state := next, step := .none })) :=
    Keeps.after (keeps_leaveStarting contacts (by exact hc)) (keeps_setPower rfl rfl rfl (.inl hnext))
  unfold endStarting
  split_ifs
  · exact (keeps_enterRun _).after (hpower .run (by simp))
  · exact (keeps_enterCourtesy _).after (hpower .courtesy (by simp))

theorem keeps_maybeEndStarting (contacts : BitVec 6) (s : State) : Keeps k s (maybeEndStarting contacts s) := by
  unfold maybeEndStarting
  split_ifs with h
  · intro hk
    refine keeps_endStarting contacts (fun hgauge => ?_) hk
    subst hgauge
    obtain ⟨-, -, hstep⟩ := hk
    exact (hstep h.1).mpr (.inr h.2.1)
  · exact Keeps.refl k s

/-! ## The end of COURTESY and SLEEP (R118, R143, R183, R184) -/

theorem keeps_silenceWarnings (s : State) : Keeps k s (silenceWarnings s) := by
  have hend (t : State) : Keeps k t (endWarnings t) := by
    refine keeps_foldl (fun u n => ?_) _ t
    split_ifs
    · exact keeps_leaveList n u
    · exact Keeps.refl k u
  refine (keeps_evalSpoiled _ _).after ((hend _).after (keeps_setWnu_of_records rfl rfl (fun _ => ?_) fun h => h))
  exact ⟨by simp [ChimesOk], trivial⟩

theorem keeps_beginPark (s : State) : Keeps k s (beginPark s) :=
  (keeps_orderPark _).after (keeps_setPower rfl rfl rfl (.inr ⟨rfl, rfl⟩))

theorem keeps_sleepReport {j : Job} {n : Nat} {verified failed : Bool}
    (hw : k = .bounds → ∀ w mark slot, j = .odometer w mark slot → w ≤ 4294967295) (s : State) :
    Keeps k s (sleepReport j n verified failed s) := by
  unfold sleepReport
  cases j with
  | odometer w mark slot =>
    have hpos : Keeps k s (if verified || failed then s.setStc { s.stc with writePos := (slot + 1) % 16 } else s) := by
      split_ifs
      · exact keeps_setStc_of_jobs (.inl (Nat.mod_lt _ (by decide))) rfl rfl
      · exact Keeps.refl k s
    dsimp only
    cases verified
    · exact hpos
    · refine Keeps.after ?_ hpos
      cases k
      case bounds => exact keeps_setOdo (DistanceBounds.verify (hw rfl w mark slot rfl))
      all_goals exact id
  | service entries => exact keeps_serviceReport _ s
  | configuration image =>
    dsimp only
    split_ifs
    · exact keeps_setRqs id id
    · exact keeps_setRqs id id
    · exact Keeps.refl k s

theorem keeps_finishUnit (hk : k.allowsWrites = true) (s : State) : Keeps k s (finishUnit s) := by
  intro hs
  unfold finishUnit
  split
  · exact hs
  next a ha =>
    have hw : k = .bounds → ∀ w mark slot, a.job = .odometer w mark slot → w ≤ 4294967295 := by
      rintro rfl w mark slot hjob
      exact (BoundsInv.jobs hs).2 a w mark slot ha hjob
    have hput (m : Memory) (hm : s.store.wf = true → m.wf = true) (fault : Bool) :
        Keeps k s ((s.setStore m).nextDraw.setStc { (s.setStore m).nextDraw.stc with fault := fault }) :=
      Keeps.after (keeps_setStc_of_jobs (.inr rfl) rfl rfl) ((keeps_nextDraw _).after (keeps_setStore hk hm))
    split
    · exact hs
    · dsimp only
      split_ifs
      · exact ((keeps_sleepReport hw _).after (hput _ (Memory.writeBytes_wf _ _) false)) hs
      · exact ((keeps_sleepReport hw _).after ((keeps_recordCode _ _).after
          (hput _ (Memory.writeBytes_wf _ _) true))) hs

theorem keeps_closePort (hk : k.allowsWrites = true) (s : State) : Keeps k s (closePort s) := by
  refine Keeps.after (keeps_setOdo fun h => by exact h) (Keeps.after ?_ (keeps_finishUnit hk s))
  exact keeps_setStc (fun ⟨hpos, himage, _⟩ => ⟨hpos, himage, by simp⟩) fun _ => ⟨by simp, by simp⟩

theorem keeps_closeLink (s : State) : Keeps k s (closeLink s) := by
  have habandon : Keeps k s
      (if sleepAbandons s then
        recordCode 0x01
          (s.setLink
            { s.link with
              counters := { s.link.counters with txAbandoned := satInc 255 s.link.counters.txAbandoned } })
      else s) := by
    split_ifs
    · refine (keeps_recordCode _ _).after (keeps_setLink_of_queue rfl rfl ?_)
      exact fun ⟨⟨h1, h2, h3, _, h5, h6⟩, hring, hrun⟩ => ⟨⟨h1, h2, h3, min_le_right _ _, h5, h6⟩, hring, hrun⟩
    · exact Keeps.refl k s
  refine (keeps_nextDraw _).after (Keeps.after (keeps_setLink_offLine (fun _ => ?_) ?_ ?_ ?_) habandon)
  · exact queueOk_nil _
  · rfl
  · rfl
  · exact fun ⟨hc, _⟩ => ⟨hc, by simp, Nat.zero_le _⟩

theorem keeps_closeInputs (s : State) : Keeps k s (closeInputs s) := by
  refine Keeps.after (keeps_setSignals fun h g => ?_) (keeps_setInput fun h => ⟨Nat.zero_le _, h.2⟩)
  simpa using h g

theorem keeps_setWnu_sleep (s : State) : Keeps k s (s.setWnu s.wnu.sleep) := by
  refine keeps_setWnu (fun _ => ?_) (fun _ => ?_) fun h => h
  · exact warningInv_of_inactive rfl fun n => vector_replicate_ix _ _
  · exact (chimeInv_iff _).mpr ⟨by simp [ChimesOk, WarningUnit.sleep], trivial⟩

theorem keeps_enterSleep (hk : k.allowsWrites = true) (s : State) : Keeps k s (enterSleep s) := by
  have hsleep (t : State) : Keeps k t (if t.power.pendingWake then wakeStart t else t) := by
    split_ifs
    · exact keeps_wakeStart t
    · exact Keeps.refl k t
  unfold enterSleep
  dsimp only
  refine (hsleep _).after (Keeps.after (keeps_setPower rfl rfl rfl (.inl (by simp))) ?_)
  refine Keeps.after (keeps_setMsc_of_clockSet (.inr rfl)) ?_
  refine Keeps.after (keeps_setRqs (fun h => by exact h) (fun _ => by simp)) ?_
  refine (keeps_setSru _ _).after ((keeps_setWnu_sleep _).after ((keeps_closeDrive _).after ?_))
  exact (keeps_setTrc fun h => by exact h).after
    ((keeps_closeInputs _).after ((keeps_closeLink _).after (keeps_closePort hk s)))

theorem keeps_finishPark (hk : k.allowsWrites = true) (s : State) : Keeps k s (finishPark s) := by
  unfold finishPark
  split_ifs
  · exact keeps_enterSleep hk s
  · exact Keeps.refl k s

theorem keeps_finishSave (hk : k.allowsWrites = true) (s : State) : Keeps k s (finishSave s) := by
  unfold finishSave
  split_ifs
  · exact (keeps_finishPark hk _).after (keeps_beginPark s)
  · exact Keeps.refl k s

theorem keeps_endCourtesy (hk : k.allowsWrites = true) (s : State) : Keeps k s (endCourtesy s) := by
  have hclock (t : State) : Keeps k t (t.setClock { t.clock with lastOff := t.clock.stamp }) := keeps_setClock id
  have hmsc (t : State) (p : PowerUnit) (h : Keeps k s (t.setPower p)) :
      Keeps k s
        ((t.setPower p).setMsc
          { (t.setPower p).msc with
            peerText := none, peerTimer := none, lampTimer := none
            lampTest := if (t.setPower p).msc.lampTest = .running then .ended else (t.setPower p).msc.lampTest }) :=
    h.trans (keeps_setMsc_of_clockSet (.inl rfl))
  refine (keeps_finishSave hk _).after ((hclock _).after ((keeps_saveService _).after ((keeps_saveOdometer _).after
    ((keeps_silenceWarnings _).after (hmsc _ _ ?_)))))
  exact keeps_setPower rfl rfl rfl (.inr ⟨rfl, rfl⟩)

/-! ## The odometer resolution (R116) -/

theorem keeps_raiseRestored (s : State) : Keeps k s (raiseRestored s) :=
  (keeps_evalWarnings _ _).after (keeps_setWnu_of_records rfl rfl (fun h => by exact h) fun h => by exact h)

theorem keeps_handOverKm (s : State) : Keeps k s (handOverKm s) := by
  have hraise (t : State) : Keeps k t (if t.power.state = .run then evalTogether (raisedService t) [] t else t) := by
    split_ifs
    · exact keeps_evalTogether (raisedOk_raisedService t) _
    · exact Keeps.refl k t
  exact (hraise _).after ((keeps_serviceHandOver _ _).after (keeps_setOdo fun h => by exact h))

theorem keeps_handOverAndRaise (restored : Bool) (s : State) : Keeps k s (handOverAndRaise restored s) := by
  unfold handOverAndRaise
  split_ifs
  · exact (keeps_handOverKm _).after ((keeps_raiseRestored _).after (keeps_nextDraw s))
  · exact (keeps_raiseRestored _).after ((keeps_handOverKm _).after (keeps_nextDraw s))
  · exact keeps_handOverKm s

theorem keeps_offerCourtesyDistance (s : State) : Keeps k s (offerCourtesyDistance s) := by
  unfold offerCourtesyDistance
  split_ifs
  · exact (keeps_offerDistance _).after (keeps_setOdo fun h => by exact h)
  · exact Keeps.refl k s

theorem resolved_le {commitKm : Nat} {base echo : Option Nat} (hb : ∀ v ∈ base, v ≤ 4294967295)
    (he : ∀ v ∈ echo, v ≤ 4294967295) : (resolved commitKm base echo).1 ≤ 4294967295 := by
  unfold resolved
  split
  · exact he _ rfl
  · exact Nat.zero_le _
  · split_ifs
    · exact he _ rfl
    · exact hb _ rfl
  · exact hb _ rfl

theorem keeps_resolveOdometer {echo : Option Nat} (he : ∀ v ∈ echo, v ≤ 4294967295) (s : State) :
    Keeps k s (resolveOdometer echo s) := by
  have hcommit (t : State) (c : Prop) [Decidable c] : Keeps k t (if c then commitStart t else t) := by
    split_ifs
    · exact keeps_commitStart t
    · exact Keeps.refl k t
  unfold resolveOdometer
  dsimp only
  refine (hcommit _ _).after ((keeps_offerCourtesyDistance _).after ((keeps_handOverAndRaise _ _).after
    ((keeps_tripsResolved _).after (keeps_setOdo fun ⟨_, hpending, _, hbase⟩ => ?_))))
  have hr := resolved_le (commitKm := s.settings.commitKm) hbase he
  refine ⟨hr, hpending, ?_, hbase⟩
  rintro v ⟨rfl⟩
  exact hr

end Sys2Proof.Machine
end

section
/-! SUPPORT. What the Warning Unit does outside its own block: it offers frames and passes moments. So a relation of states
that allows these holds across its whole work. -/

namespace Sys2Proof.Machine

open Sys2Proof

variable {R : State → State → Prop} {s : State}

/-- A relation of states that the work of the Warning Unit keeps: a new block of its own, an offered CLUSTER_WARNINGS, and
a moment or a free choice passed. -/
structure WarnSteps (R : State → State → Prop) : Prop where
  refl : ∀ s, R s s
  trans : ∀ {s t u}, R s t → R t u → R s u
  setWnu : ∀ s v, R s (s.setWnu v)
  nextMoment : ∀ s, R s s.nextMoment
  nextDraw : ∀ s, R s s.nextDraw
  offerWarnings : ∀ s, R s (offerWarnings s)

theorem WarnSteps.foldl {α : Type} (h : WarnSteps R) {f : State → α → State} (hf : ∀ s a, R s (f s a)) (l : List α)
    (s : State) : R s (l.foldl f s) := by
  induction l generalizing s with
  | nil => exact h.refl s
  | cons a l ih => exact h.trans (hf s a) (ih (f s a))

theorem WarnSteps.noteHead (h : WarnSteps R) (s : State) : R s (noteHead s) := h.setWnu s _

theorem WarnSteps.chimeForWarning (h : WarnSteps R) (n : Warning) (s : State) : R s (chimeForWarning n s) := by
  unfold Machine.chimeForWarning
  split
  · exact h.refl s
  · split_ifs
    · exact h.trans (h.setWnu s _) (h.nextMoment _)
    · exact h.refl s

theorem WarnSteps.logAppend (h : WarnSteps R) (n : Warning) (s : State) : R s (logAppend n s) := by
  unfold Machine.logAppend
  split_ifs
  · exact h.setWnu s _
  · exact h.setWnu s _
  · exact h.refl s

theorem WarnSteps.announcing (h : WarnSteps R) (n : Warning) (s : State) : R s (announcing n s) :=
  h.trans (h.trans (h.trans (h.trans (h.trans (h.setWnu s _) (h.nextMoment _)) (h.offerWarnings _)) (h.logAppend n _))
    (h.setWnu _ _)) (h.chimeForWarning n _)

theorem WarnSteps.announce (h : WarnSteps R) (n : Warning) (s : State) : R s (announce n s) :=
  h.trans (h.announcing n s) (h.noteHead _)

theorem WarnSteps.leaveList (h : WarnSteps R) (n : Warning) (s : State) : R s (leaveList n s) :=
  h.trans (h.trans (h.setWnu s _) (h.offerWarnings _)) (h.noteHead _)

theorem WarnSteps.acknowledge (h : WarnSteps R) (n : Warning) (s : State) : R s (acknowledge n s) := by
  unfold Machine.acknowledge
  dsimp only
  split_ifs
  · exact h.trans (h.setWnu s _) (h.noteHead _)
  · exact h.refl s

theorem WarnSteps.applyMove (h : WarnSteps R) (n : Warning) (s : State) : R s (applyMove n s) := by
  have hput (r : WarningRecord) : R s (Machine.noteHead (s.setWnu (s.wnu.setRecord n r))) :=
    h.trans (h.setWnu s _) (h.noteHead _)
  unfold Machine.applyMove
  dsimp only
  cases s.moveOf n with
  | stay => exact h.refl s
  | announce => exact h.announce n s
  | leave => exact h.leaveList n s
  | qualify | drop | clear | restore => exact hput _

theorem WarnSteps.applyLoud (h : WarnSteps R) (raised : List Warning) (n : Warning) (s : State) :
    R s (applyLoud raised n s) := by
  unfold Machine.applyLoud
  split_ifs
  · exact h.announce n s
  · exact h.applyMove n s

theorem WarnSteps.applyTogether (h : WarnSteps R) (raised loud : List Warning) (s : State) :
    R s (applyTogether raised loud s) := by
  unfold Machine.applyTogether
  split
  · exact h.refl s
  · exact h.applyLoud raised _ s
  · exact h.trans (h.nextDraw s) (h.foldl (fun t n => h.applyLoud raised n t) _ _)

theorem WarnSteps.evalTogether (h : WarnSteps R) (raised ws : List Warning) (s : State) :
    R s (evalTogether raised ws s) := by
  unfold Machine.evalTogether
  split_ifs
  · exact h.trans (h.foldl (fun t n => h.applyMove n t) _ s) (h.applyTogether raised _ _)
  · exact h.refl s

theorem WarnSteps.evalWarnings (h : WarnSteps R) (ws : List Warning) (s : State) : R s (evalWarnings ws s) :=
  h.evalTogether [] ws s

theorem WarnSteps.evalSpoiled (h : WarnSteps R) (ws : List Warning) (s : State) : R s (evalSpoiled ws s) := by
  unfold Machine.evalSpoiled
  split_ifs
  · exact h.evalWarnings ws s
  · exact h.refl s

/-! ## The link -/

/-- Frames may have been offered to the transmit queue, and nothing else has happened to the link (R8, R14, R15). -/
def OnlyOffers (s t : State) : Prop :=
  t.link =
      { s.link with
        txQueue := t.link.txQueue, tx := t.link.tx
        counters := { s.link.counters with txDisplaced := t.link.counters.txDisplaced } } ∧
    (t.link.tx = s.link.tx ∨ (s.link.tx = .idle ∧ t.link.tx = .waitingIdle))

theorem OnlyOffers.of_link {t : State} (h : t.link = s.link) : OnlyOffers s t := by
  rw [OnlyOffers, h]
  exact ⟨rfl, .inl rfl⟩

theorem OnlyOffers.trans {t u : State} (h : OnlyOffers s t) (h' : OnlyOffers t u) : OnlyOffers s u := by
  obtain ⟨hlink, htx⟩ := h
  obtain ⟨hlink', htx'⟩ := h'
  refine ⟨by rw [hlink', hlink], ?_⟩
  rcases htx' with htx' | ⟨hidle, htx'⟩
  · rwa [htx']
  · rcases htx with htx | ⟨-, htx⟩
    · exact .inr ⟨htx ▸ hidle, htx'⟩
    · rw [htx] at hidle
      cases hidle

theorem onlyOffers_offer (f : Frame) (s : State) : OnlyOffers s (offer f s) := by
  have hdisplaced : (offer f s).link.counters =
      { s.link.counters with txDisplaced := (offer f s).link.counters.txDisplaced } := by
    rw [offer_link]
    dsimp only
    split_ifs <;> rfl
  refine ⟨?_, ?_⟩
  · rw [← hdisplaced, offer_link]
  · rw [offer_link]
    dsimp only
    split_ifs with h
    · exact .inr ⟨h.1, rfl⟩
    · exact .inl rfl

theorem warnSteps_onlyOffers : WarnSteps OnlyOffers where
  refl _ := OnlyOffers.of_link rfl
  trans := OnlyOffers.trans
  setWnu _ _ := OnlyOffers.of_link rfl
  nextMoment _ := OnlyOffers.of_link rfl
  nextDraw _ := OnlyOffers.of_link rfl
  offerWarnings s := onlyOffers_offer _ s

theorem OnlyOffers.onLine {t : State} (h : OnlyOffers s t) : t.link.onLine = s.link.onLine := by
  unfold Link.onLine
  rcases h.2 with htx | ⟨hidle, htx⟩
  · rw [htx]
  · rw [htx, hidle]
    rfl

end Sys2Proof.Machine
end

section
/-! SUPPORT. Each command keeps each invariant: the link, the signals and the inputs. -/

namespace Sys2Proof.Machine

open Sys2Proof

variable {k : Invariant} {s : State}

/-- A command keeps an invariant: where it answers a next state, the state holds it if it held. -/
def AnswerKeeps (k : Invariant) (s : State) (a : Answer) : Prop := ∀ t, a = .next t → Keeps k s t

theorem answerKeeps_next {t : State} (h : Keeps k s t) : AnswerKeeps k s (.next t) := by
  rintro u ⟨⟩
  exact h

theorem answerKeeps_done {t : State} (h : Keeps k s t) : AnswerKeeps k s (done t) :=
  answerKeeps_next ((keeps_refresh t).after h)

theorem answerKeeps_same : AnswerKeeps k s (.next s) := answerKeeps_next (Keeps.refl k s)

/-! ## The link -/

theorem keeps_acceptFrame {f : Frame} (hl : s.link.onLine = false) : Keeps k s (acceptFrame f s) := by
  have hroster : Keeps k s (refreshRoster f.source s) ∧ (refreshRoster f.source s).link.onLine = false := by
    have hput (r : Vector RosterEntry 14) : Keeps k s (s.setLink { s.link with roster := r }) :=
      keeps_setLink_of_queue rfl rfl fun h => h
    unfold refreshRoster
    dsimp only
    split_ifs
    · exact ⟨(keeps_evalWarnings _ _).after (hput _), ((warnSteps_onlyOffers.evalWarnings _ _).onLine).trans hl⟩
    · exact ⟨hput _, hl⟩
    · exact ⟨Keeps.refl k s, hl⟩
  exact (keeps_offerRing f _).after ((keeps_checkClash hroster.2).after hroster.1)

theorem keeps_takeByte (framing : Bool) (b : Byte) (s : State) : Keeps k s (takeByte framing b s) := by
  have hput (l : Link) (hq : l.txQueue = s.link.txQueue) (ht : l.tx = s.link.tx) (hr : l.ring = s.link.ring)
      (ha : l.abandonRun = s.link.abandonRun)
      (hc : l.counters = s.link.counters ∨ l.counters = s.link.counters.checkError) : Keeps k s (s.setLink l) := by
    refine keeps_setLink_of_queue hq (by rw [Link.onLine, ht]; rfl) fun h => ?_
    have h' := LinkBounds.checkError (r := .waiting) h
    obtain ⟨hcounters, hring, hrun⟩ := h
    refine ⟨?_, hr ▸ hring, ha ▸ hrun⟩
    rcases hc with hc | hc <;> rw [hc]
    · exact hcounters
    · exact h'.1
  unfold takeByte
  by_cases hon : s.link.listening ∧ s.link.tx ≠ .breaking
  · rw [if_pos hon]
    dsimp only
    split
    · exact hput _ rfl rfl rfl rfl (.inl rfl)
    · split_ifs
      · exact hput _ rfl rfl rfl rfl (.inr rfl)
      · exact hput _ rfl rfl rfl rfl (.inl rfl)
    · by_cases hframing : framing = true
      · rw [if_pos hframing]
        exact hput _ rfl rfl rfl rfl (.inr rfl)
      · rw [if_neg hframing]
        split
        · exact hput _ rfl rfl rfl rfl (.inl rfl)
        · split_ifs
          · exact hput _ rfl rfl rfl rfl (.inr rfl)
          · exact hput _ rfl rfl rfl rfl (.inl rfl)
        · unfold takeCheck
          dsimp only
          split_ifs with hcheck hsending
          · exact hput _ rfl rfl rfl rfl (.inr rfl)
          · exact hput _ rfl rfl rfl rfl (.inl rfl)
          · split
            · refine Keeps.after (keeps_acceptFrame ?_) (hput _ rfl rfl rfl rfl (.inl rfl))
              simp only [State.setLink_link] at hsending ⊢
              simp [Link.onLine, hsending, hon.2]
            · exact hput _ rfl rfl rfl rfl (.inl rfl)
  · rw [if_neg hon]
    exact Keeps.refl k s

theorem answerKeeps_byteGapTimeout : AnswerKeeps k s (execByteGapTimeout s) := by
  unfold execByteGapTimeout
  split
  · refine answerKeeps_next (keeps_setLink_of_queue rfl rfl fun h => ?_)
    obtain ⟨⟨h1, _, h3, h4, h5, h6⟩, hring, hrun⟩ := h
    exact ⟨⟨h1, min_le_right _ _, h3, h4, h5, h6⟩, hring, hrun⟩
  · exact answerKeeps_same
  · exact answerKeeps_same

theorem answerKeeps_skippingIdleEnd : AnswerKeeps k s (execSkippingIdleEnd s) := by
  unfold execSkippingIdleEnd
  split_ifs
  · exact answerKeeps_next (keeps_setLink_of_queue rfl rfl fun h => h)
  · exact answerKeeps_same

theorem answerKeeps_breakReceived : AnswerKeeps k s (execBreakReceived s) := by
  unfold execBreakReceived
  split_ifs
  · exact answerKeeps_next (keeps_setLink_of_queue rfl rfl fun h => h)
  · exact answerKeeps_same

theorem onLine_eq_false_of_tx {l : Link} (h : l.tx ≠ .sending) (h' : l.tx ≠ .breaking) : l.onLine = false := by
  simp [Link.onLine, h, h']

theorem onLine_eq_false_of_restingTx {l : Link} {q : List TxEntry} (h : l.tx = restingTx q s) : l.onLine = false := by
  unfold Link.onLine
  rw [h]
  unfold restingTx
  split_ifs <;> rfl

theorem TxInv.countP_eq_zero (h : TxInv s) (hl : s.link.onLine = false) :
    s.link.txQueue.countP (·.underAttempt) = 0 := by
  obtain ⟨-, hline, -⟩ := (txInv_iff s).mp h
  simpa [hl] using hline

theorem answerKeeps_attemptStart (idle : Nat) : AnswerKeeps k s (execAttemptStart idle s) := by
  unfold execAttemptStart
  dsimp only
  split_ifs with hmay
  · refine answerKeeps_next (keeps_setLink (fun _ h => ?_) fun h => h)
    cases hq : s.link.txQueue with
    | nil => simp [attemptMayStart, hq] at hmay
    | cons e q =>
      have hidle : s.link.tx = .waitingIdle := by
        simp only [attemptMayStart, hq, Bool.and_eq_true, beq_iff_eq] at hmay
        exact hmay.1.1.1
      have hzero := h.countP_eq_zero (onLine_eq_false_of_tx (by simp [hidle]) (by simp [hidle]))
      obtain ⟨hqueue, -, hserved⟩ := (txInv_iff s).mp h
      refine (txInv_iff _).mpr ⟨queueOk_markHead (hq ▸ hqueue), ?_, hserved⟩
      exact countP_markHead (hq ▸ hzero)
  · exact answerKeeps_next (keeps_setLink_of_queue rfl rfl fun h => h)
  · exact answerKeeps_same

theorem answerKeeps_arbitrationLost : AnswerKeeps k s (execArbitrationLost s) := by
  unfold execArbitrationLost
  split_ifs with hsending
  · refine answerKeeps_next (keeps_setLink_offLine (fun h => ?_) ?_ rfl fun h => h)
    · exact queueOk_map_settle h fun e he _ => (h.2.2.2.1 e he).2.1
    · exact countP_map_settle _ _
  · exact answerKeeps_same

theorem answerKeeps_bitError : AnswerKeeps k s (execBitError s) := by
  unfold execBitError
  split_ifs with hsending
  · refine answerKeeps_next (keeps_setLink_of_queue rfl ?_ fun h => h)
    simp [Link.onLine, hsending]
  · exact answerKeeps_same

theorem answerKeeps_attemptSuccess : AnswerKeeps k s (execAttemptSuccess s) := by
  unfold execAttemptSuccess
  split_ifs
  · refine answerKeeps_next (keeps_setLink_offLine (fun h => queueOk_leave h) (countP_leave _)
      (onLine_eq_false_of_restingTx rfl) fun h => ?_)
    exact ⟨h.1, h.2.1, Nat.zero_le _⟩
  · exact answerKeeps_same

theorem keeps_abandonEntry (s : State) : Keeps k s (abandonEntry s) := by
  unfold abandonEntry
  dsimp only
  refine Keeps.after (keeps_recordCode _ _) ?_
  split_ifs
  · refine keeps_setLink_offLine (fun h => queueOk_leave h) (countP_leave _) rfl fun h => ?_
    obtain ⟨⟨h1, h2, h3, _, h5, h6⟩, hring, _⟩ := h
    exact ⟨⟨h1, h2, h3, min_le_right _ _, h5, h6⟩, hring, Nat.zero_le _⟩
  · refine keeps_setLink_offLine (fun h => queueOk_leave h) (countP_leave _) (onLine_eq_false_of_restingTx rfl) fun h => ?_
    obtain ⟨⟨h1, h2, h3, _, h5, h6⟩, hring, _⟩ := h
    exact ⟨⟨h1, h2, h3, min_le_right _ _, h5, h6⟩, hring, by dsimp only; omega⟩

/-- With one entry under attempt, BREAK_END counts its failed attempts (R10, R12). -/
theorem failedAttempts_eq {q : List TxEntry} (h : q.countP (·.underAttempt) = 1) {e : TxEntry} (he : e ∈ q)
    (hu : e.underAttempt = true) : failedAttempts q = e.failed + 1 := by
  rw [List.countP_eq_length_filter, List.length_eq_one_iff] at h
  obtain ⟨x, hx⟩ := h
  have hmem : e ∈ q.filter (·.underAttempt) := List.mem_filter.mpr ⟨he, hu⟩
  have hfind : q.find? (·.underAttempt) = some x := by rw [← List.head?_filter, hx]; rfl
  rw [hx, List.mem_singleton] at hmem
  simp [failedAttempts, hfind, hmem]

theorem answerKeeps_breakEnd : AnswerKeeps k s (execBreakEnd s) := by
  have hsettle (l : Link) (hl : l.txQueue = s.link.txQueue.map failedEntry) (hoff : l.onLine = false)
      (hb : LinkBounds s.link → LinkBounds l) (hbreak : s.link.tx = .breaking)
      (hn : failedAttempts s.link.txQueue ≤ 3) : Keeps k s (s.setLink l) := by
    refine keeps_setLink (fun _ h => ?_) hb
    obtain ⟨hqueue, hline, hserved⟩ := (txInv_iff s).mp h
    have hone : s.link.txQueue.countP (·.underAttempt) = 1 := by simpa [Link.onLine, hbreak] using hline
    refine (txInv_iff _).mpr ⟨?_, ?_, hserved⟩
    · rw [State.setLink_link, hl]
      refine queueOk_map_settle hqueue fun e he hu => ?_
      rwa [← failedAttempts_eq hone he hu]
    · rw [State.setLink_link, hl, hoff]
      exact countP_map_settle _ _
  unfold execBreakEnd
  dsimp only
  split_ifs with hbreak hfour hthree
  · exact answerKeeps_next (keeps_abandonEntry s)
  · exact answerKeeps_next (hsettle _ rfl rfl (fun h => h) hbreak hthree.le)
  · exact answerKeeps_next (hsettle _ rfl (onLine_eq_false_of_restingTx rfl) (fun h => h) hbreak (by omega))
  · exact answerKeeps_same

theorem answerKeeps_pauseExpiry : AnswerKeeps k s (execPauseExpiry s) := by
  unfold execPauseExpiry
  split_ifs with hpaused
  · refine answerKeeps_next (keeps_setLink_of_queue rfl ?_ fun h => h)
    rw [onLine_eq_false_of_tx (l := s.link) (by simp [hpaused]) (by simp [hpaused])]
    exact onLine_eq_false_of_restingTx rfl
  · exact answerKeeps_same

theorem answerKeeps_muteExpiry : AnswerKeeps k s (execMuteExpiry s) := by
  unfold execMuteExpiry
  split_ifs with hmuted
  · refine answerKeeps_next (keeps_setLink_of_queue rfl ?_ fun h => h)
    rw [onLine_eq_false_of_tx (l := s.link) (by simp [hmuted]) (by simp [hmuted])]
    exact onLine_eq_false_of_restingTx rfl
  · exact answerKeeps_same

theorem keeps_stationSilent (station : Nat) (s : State) : Keeps k s (s.setWnu (s.wnu.stationSilent station)) := by
  have heq := stopSounding_wnu
    { s.wnu with chimes := s.wnu.chimes.filter (fun r => r.source != .station station || !r.pattern.continuous) }
    (.station station) (·.continuous)
  unfold WarningUnit.stationSilent
  refine keeps_setWnu_of_records (by rw [heq]) (by rw [heq]) (fun h => ?_) fun h => by rw [heq]; exact h
  exact chimeOk_stopSounding (h.sublist List.filter_sublist) _ _

theorem answerKeeps_rosterTimerExpiry (station : Nat) : AnswerKeeps k s (execRosterTimerExpiry station s) := by
  have hput (r : Vector RosterEntry 14) : Keeps k s (s.setLink { s.link with roster := r }) :=
    keeps_setLink_of_queue rfl rfl fun h => h
  unfold execRosterTimerExpiry
  split
  · split_ifs
    · exact answerKeeps_done ((keeps_evalWarnings _ _).after ((keeps_stationSilent _ _).after (hput _)))
    · exact answerKeeps_done ((keeps_stationSilent _ _).after (hput _))
    · exact answerKeeps_same
  · exact answerKeeps_same

/-! ## The catalogue's frames and the signals -/

theorem keeps_statusFrame {expected len : Nat} {effect : State → State} (h : ∀ t, Keeps k t (effect t)) (f : Frame)
    (s : State) : Keeps k s (statusFrame expected len effect f s) := by
  unfold statusFrame
  split_ifs
  · exact keeps_countForeign s
  · exact Keeps.refl k s
  · exact h s

theorem answerKeeps_engineStatus : AnswerKeeps k s (execEngineStatus s) :=
  answerKeeps_done (keeps_dispatch (fun f _ _ => keeps_statusFrame
    (fun _ => (keeps_fuelHandOn _ _).after (keeps_arriveAll _ _)) f _) s)

theorem answerKeeps_transStatus : AnswerKeeps k s (execTransStatus s) :=
  answerKeeps_done (keeps_dispatch (fun f _ _ => keeps_statusFrame (fun _ => keeps_arriveAll _ _) f _) s)

theorem answerKeeps_bodyStatus : AnswerKeeps k s (execBodyStatus s) := by
  refine answerKeeps_done (keeps_dispatch (fun f _ _ => keeps_statusFrame (fun t => ?_) f _) s)
  dsimp only
  split_ifs
  · exact (keeps_restartCourtesy _).after (keeps_arriveAll _ t)
  · exact keeps_arriveAll _ t

theorem answerKeeps_odoEcho : AnswerKeeps k s (execOdoEcho s) := by
  refine answerKeeps_done (keeps_dispatch (fun f t _ => ?_) s)
  split_ifs with h
  · refine keeps_resolveOdometer ?_ t
    rintro v ⟨rfl⟩
    have hlt := beNat_lt f.data
    rw [h.2.2] at hlt
    omega
  · exact Keeps.refl k t

theorem keeps_giveStationChime (r : ChimeRequest) (text station : Nat) (s : State) :
    Keeps k s (giveStationChime r text station s) := by
  have h : Keeps k s (s.setWnu (s.wnu.giveChime r).1).nextMoment := (keeps_nextMoment _).after (keeps_giveChime r s)
  unfold giveStationChime
  dsimp only
  split_ifs
  · exact h.trans (keeps_setMsc_of_clockSet (.inl rfl))
  · exact h

theorem answerKeeps_chimeRequest : AnswerKeeps k s (execChimeRequest s) := by
  refine answerKeeps_done (keeps_dispatch (fun f t _ => ?_) s)
  split
  · split_ifs
    · exact keeps_giveStationChime _ _ _ t
    · exact Keeps.refl k t
  · exact Keeps.refl k t

theorem keeps_cancelStation (station : Nat) (s : State) : Keeps k s (cancelStation station s) := by
  unfold cancelStation
  dsimp only
  split_ifs
  · exact Keeps.after (keeps_setMsc_of_clockSet (.inl rfl)) (keeps_cancel _ _ s)
  · exact keeps_cancel _ _ s

theorem answerKeeps_chimeCancel : AnswerKeeps k s (execChimeCancel s) := by
  refine answerKeeps_done (keeps_dispatch (fun f t _ => ?_) s)
  split_ifs
  · exact keeps_cancelStation _ t
  · exact Keeps.refl k t

theorem keeps_setSignal_expired (g : Signal) (n : Nat) (s : State) :
    Keeps k s (s.setSignal g ((s.signal g).expired n)) := by
  refine keeps_setSignals fun h => SignalBounds.setSignal ?_ h
  have hcount : ((s.signal g).expired n).count = (s.signal g).count := by
    unfold SignalRecord.expired
    split <;> rfl
  exact hcount.trans_le (h g)

theorem answerKeeps_signalExpiry (g : Signal) : AnswerKeeps k s (execSignalExpiry g s) := by
  have hhold (t : State) (c : Prop) [Decidable c] : Keeps k t (if c then holdTargets g t else t) := by
    split_ifs
    · exact keeps_holdTargets g t
    · exact Keeps.refl k t
  have hlost (t : State) (c : Prop) [Decidable c] : Keeps k t (if c then countLost t else t) := by
    split_ifs
    · exact keeps_setTrc fun h => h
    · exact Keeps.refl k t
  unfold execSignalExpiry
  extract_lets r
  split_ifs
  · exact answerKeeps_done ((keeps_signalsChanged _ _).after ((hlost _ _).after ((hhold _ _).after
      (keeps_setSignal_expired g _ s))))
  · exact answerKeeps_same

end Sys2Proof.Machine
end

section
/-! SUPPORT. Each command keeps each invariant: the inputs, the buttons, the gauges, the broadcasts and the store. -/

namespace Sys2Proof.Machine

open Sys2Proof

variable {k : Invariant} {s : State}

/-! ## The inputs (R46 to R59) -/

theorem answerKeeps_speedPulse (us : Nat) : AnswerKeeps k s (execSpeedPulse us s) := by
  have hpulse : Keeps k s (takePulse s) := by
    unfold takePulse
    dsimp only
    split_ifs
    · exact (keeps_metreEvent _).after (keeps_setInput fun h => by exact h)
    · exact keeps_setInput fun h => h
  unfold execSpeedPulse
  split_ifs
  · exact answerKeeps_done (Keeps.after (keeps_setInput fun h => by exact h) hpulse)
  · exact answerKeeps_same

theorem answerKeeps_speedGateEnd : AnswerKeeps k s (execSpeedGateEnd s) := by
  unfold execSpeedGateEnd
  split_ifs
  · exact answerKeeps_done ((keeps_writeLocal _ _ _).after (keeps_setInput fun h => by exact h))
  · exact answerKeeps_same

/-- A good reading sets the count of bad ones to 0 (R50). -/
theorem keeps_setInput_goodReading {f : FuelInput} (h : f.bad = 0) :
    Keeps k s (s.setInput { s.input with fuel := f }) :=
  keeps_setInput fun hi => ⟨hi.1, h ▸ Nat.zero_le _⟩

theorem keeps_badReading (s : State) : Keeps k s (badReading s) := by
  have h : Keeps k s
      (s.setInput { s.input with fuel := { s.input.fuel with bad := min 5 (s.input.fuel.bad + 1) } }) :=
    keeps_setInput fun hi => ⟨hi.1, min_le_left _ _⟩
  unfold badReading
  dsimp only
  split_ifs
  · exact h.trans (keeps_writeLocal _ _ _)
  · exact h

theorem keeps_averageReading (level : Nat) (s : State) : Keeps k s (averageReading level s) := by
  unfold averageReading
  dsimp only
  split_ifs
  · exact keeps_setInput_goodReading rfl
  · exact (keeps_recomputeRange _).after ((keeps_writeFuelLevel _ _).after (keeps_setInput_goodReading rfl))
  · exact (keeps_writeFuelLevel _ _).after (keeps_setInput_goodReading rfl)

theorem answerKeeps_fuelSample (reading : Byte) : AnswerKeeps k s (execFuelSample reading s) := by
  unfold execFuelSample
  dsimp only
  split_ifs
  · exact answerKeeps_done (keeps_badReading s)
  · exact answerKeeps_done (keeps_averageReading _ s)
  · exact answerKeeps_done ((keeps_writeFuelLevel _ _).after (keeps_setInput_goodReading (by rfl)))
  · exact answerKeeps_same

theorem answerKeeps_supplyReading (millivolts : Nat) : AnswerKeeps k s (execSupplyReading millivolts s) := by
  unfold execSupplyReading
  split_ifs
  · exact answerKeeps_done (keeps_writeLocal _ _ s)
  · exact answerKeeps_same

theorem keeps_ignitionActiveEdge (contacts : BitVec 6) (s : State) : Keeps k s (ignitionActiveEdge contacts s) := by
  unfold ignitionActiveEdge
  cases s.power.state with
  | off => exact Keeps.refl k s
  | sleep => exact keeps_wakeEvent s
  | starting =>
    dsimp only
    refine (keeps_maybeEndStarting _ _).after ((keeps_evalWarnings _ _).after ?_)
    split_ifs
    · exact Keeps.refl k s
    · exact keeps_beginLampTest s
  | run => exact keeps_evalWarnings _ s
  | courtesy => exact (keeps_enterRun _).after (keeps_beginLampTest s)

theorem keeps_ignitionInactiveEdge (contacts : BitVec 6) (s : State) :
    Keeps k s (ignitionInactiveEdge contacts s) := by
  unfold ignitionInactiveEdge
  cases s.power.state with
  | off | sleep => exact Keeps.refl k s
  | starting => exact (keeps_maybeEndStarting _ _).after (keeps_evalWarnings _ s)
  | run => exact keeps_enterCourtesy s
  | courtesy => exact keeps_evalWarnings _ s

theorem keeps_doorEdge (s : State) : Keeps k s (doorEdge s) := by
  unfold doorEdge
  dsimp only
  refine (keeps_wakeEvent _).after ((keeps_evalWarnings _ _).after ?_)
  split_ifs
  · exact keeps_setPower rfl rfl rfl (.inr ⟨rfl, rfl⟩)
  · exact keeps_restartCourtesy s

theorem keeps_readerTakes (line : SwitchLine) (level : Level) (edge : Bool) (contacts : BitVec 6) (s : State) :
    Keeps k s (readerTakes line level edge contacts s) := by
  unfold readerTakes
  cases line with
  | ignition =>
    dsimp only
    split_ifs
    · cases level with
      | active => exact keeps_ignitionActiveEdge contacts s
      | inactive => exact keeps_ignitionInactiveEdge contacts s
    · exact keeps_maybeEndStarting contacts s
  | driverDoor =>
    dsimp only
    split_ifs
    · exact keeps_doorEdge s
    · exact Keeps.refl k s
  | headlamp | brakeFluid => exact keeps_writeLocal _ _ s
  | spare => exact Keeps.refl k s

theorem keeps_sampleLine (line : SwitchLine) (contacts : BitVec 6) (s : State) (l : Level) :
    Keeps k s (sampleLine line contacts s l) := by
  have hcount : Keeps k s (countSample line l s) := keeps_setInput fun h => h
  unfold sampleLine
  dsimp only
  split_ifs
  · exact (keeps_refresh _).after ((keeps_readerTakes _ _ _ _ _).after hcount)
  · exact hcount
  · exact Keeps.refl k s

theorem answerKeeps_switchFilterCompletion (line : SwitchLine) (samples : List Level) (contacts : BitVec 6) :
    AnswerKeeps k s (execSwitchFilterCompletion line samples contacts s) :=
  answerKeeps_next (keeps_foldl (keeps_sampleLine line contacts) _ s)

theorem answerKeeps_linkFallingEdgeWake : AnswerKeeps k s (execLinkFallingEdgeWake s) :=
  answerKeeps_next (keeps_wakeEvent s)

/-! ## The buttons (R60 to R62, R171) -/

theorem keeps_giveEvent (e : ButtonEvent) (s : State) : Keeps k s (giveEvent e s) := by
  unfold giveEvent
  split_ifs with hroom
  · refine keeps_setInput fun h => ⟨?_, h.2⟩
    simpa using hroom
  · exact keeps_setInput fun h => h

theorem keeps_setButton (b : Button) (d : Debouncer) (s : State) : Keeps k s (s.setButton b d) :=
  keeps_setInput fun h => h

theorem keeps_giveUnlocked (locked : Bool) (e : ButtonEvent) (s : State) : Keeps k s (giveUnlocked locked e s) := by
  unfold giveUnlocked
  split_ifs
  · exact Keeps.refl k s
  · exact keeps_giveEvent e s

theorem keeps_pressButton (b : Button) (s : State) : Keeps k s (pressButton b s) := by
  unfold pressButton
  dsimp only
  refine (keeps_giveUnlocked _ _ _).after ?_
  split_ifs
  · exact Keeps.after (keeps_setInput fun h => by exact h) (keeps_setButton b _ s)
  · exact keeps_setButton b _ s

theorem keeps_releaseButton (b : Button) (s : State) : Keeps k s (releaseButton b s) := by
  unfold releaseButton
  dsimp only
  refine (keeps_giveUnlocked _ _ _).after ?_
  split_ifs
  · exact Keeps.after (keeps_setInput fun h => by exact h) (keeps_setButton b _ s)
  · exact keeps_setButton b _ s

theorem keeps_sampleButton (b : Button) (s : State) (c : Contact) : Keeps k s (sampleButton b s c) := by
  unfold sampleButton
  dsimp only
  split_ifs
  · cases c with
    | down => exact (keeps_pressButton b _).after (keeps_setButton b _ s)
    | up => exact (keeps_releaseButton b _).after (keeps_setButton b _ s)
  · exact keeps_setButton b _ s
  · exact Keeps.refl k s

theorem answerKeeps_buttonPositionChange (b : Button) (samples : List Contact) :
    AnswerKeeps k s (execButtonPositionChange b samples s) := by
  unfold execButtonPositionChange
  split_ifs
  · exact answerKeeps_next (keeps_setInput fun h => h)
  · exact answerKeeps_next (keeps_foldl (keeps_sampleButton b) _ s)

theorem answerKeeps_buttonHoldTimerExpiry (b : Button) : AnswerKeeps k s (execButtonHoldTimerExpiry b s) := by
  unfold execButtonHoldTimerExpiry
  dsimp only
  split_ifs
  · exact answerKeeps_next ((keeps_giveEvent _ _).after (keeps_setButton b _ s))
  · exact answerKeeps_same

theorem answerKeeps_longTimerExpiry : AnswerKeeps k s (execLongTimerExpiry s) := by
  unfold execLongTimerExpiry
  split_ifs
  · exact answerKeeps_next ((keeps_giveEvent _ _).after (keeps_setInput fun h => by exact h))
  · exact answerKeeps_same

theorem keeps_inRun {act : State → State} (h : ∀ t, Keeps k t (act t)) (s : State) : Keeps k s (inRun act s) := by
  unfold inRun
  split_ifs
  · exact h s
  · exact Keeps.refl k s

/-- In clock-set mode a time of day is shown (R170). -/
theorem RangeInv.shown_clockSet {h m : Nat} (hr : RangeInv s) (hs : s.shown = .clockSet h m) : h ≤ 23 ∧ m ≤ 59 := by
  have hset : s.msc.clockSet = some (h, m) := by
    unfold State.shown at hs
    split at hs <;> simp_all
  exact hr.2.2 (h, m) hset

theorem keeps_modeAction (s : State) : Keeps k s (modeAction s) := by
  unfold modeAction
  split
  · exact Keeps.refl k s
  · exact Keeps.refl k s
  · exact keeps_endReview s
  next h m hs =>
    refine keeps_setMsc fun hr => ?_
    rintro p ⟨rfl⟩
    exact ⟨Nat.le_of_lt_succ (Nat.mod_lt _ (by decide)), (hr.shown_clockSet hs).2⟩
  · exact keeps_setMsc_of_clockSet (.inl rfl)

theorem keeps_setAction (s : State) : Keeps k s (setAction s) := by
  unfold setAction
  split
  · exact Keeps.refl k s
  · exact Keeps.refl k s
  · exact keeps_endReview s
  next h m hs =>
    intro hk
    refine (Keeps.after (keeps_setTime ?_ _) (keeps_setMsc_of_clockSet (.inr rfl))) hk
    rintro rfl
    obtain ⟨hhour, hminute⟩ := RangeInv.shown_clockSet hk hs
    obtain ⟨-, ⟨-, -, -, hday, -⟩, -⟩ := hk
    exact ⟨hhour, hminute, Nat.zero_le _, hday⟩
  · exact keeps_setMsc_of_clockSet (.inl rfl)

theorem keeps_setReleaseAction (s : State) : Keeps k s (setReleaseAction s) := by
  unfold setReleaseAction
  split
  · split_ifs
    · exact keeps_setMsc_of_clockSet (.inl rfl)
    · exact Keeps.refl k s
  · exact Keeps.refl k s

theorem keeps_setHoldAction (s : State) : Keeps k s (setHoldAction s) := by
  unfold setHoldAction
  split
  · split_ifs
    · refine keeps_setMsc fun ⟨_, ⟨hhour, hminute, _⟩, _⟩ => ?_
      rintro p ⟨rfl⟩
      exact ⟨hhour, hminute⟩
    · exact Keeps.refl k s
  · exact Keeps.refl k s

theorem keeps_resetAction (s : State) : Keeps k s (resetAction s) := by
  unfold resetAction
  split
  · exact Keeps.refl k s
  · exact Keeps.refl k s
  · exact keeps_endReview s
  next h m hs =>
    refine keeps_setMsc fun hr => ?_
    rintro p ⟨rfl⟩
    exact ⟨(hr.shown_clockSet hs).1, Nat.le_of_lt_succ (Nat.mod_lt _ (by decide))⟩
  · exact Keeps.refl k s

theorem keeps_resetHoldAction (s : State) : Keeps k s (resetHoldAction s) := by
  unfold resetHoldAction
  split
  · split_ifs
    · exact keeps_resetTrip _ s
    · exact Keeps.refl k s
  · exact Keeps.refl k s

theorem keeps_checkHoldAction (s : State) : Keeps k s (checkHoldAction s) := by
  unfold checkHoldAction
  split
  · exact Keeps.refl k s
  · split_ifs
    · exact Keeps.refl k s
    · exact keeps_startReview s

theorem answerKeeps_checkPress : AnswerKeeps k s (execCheckPress s) := by
  refine answerKeeps_next (keeps_onButton _ (fun t => ?_) s)
  split_ifs
  · exact keeps_acknowledgeHead t
  · exact Keeps.refl k t

theorem answerKeeps_checkResetLong (hk : k.allowsWrites = true) : AnswerKeeps k s (execCheckResetLong s) := by
  refine answerKeeps_next (keeps_onButton _ (fun t => ?_) s)
  split_ifs
  · exact keeps_panelRestart hk t
  · exact Keeps.refl k t

theorem answerKeeps_ignoredButtonEvent : AnswerKeeps k s (execIgnoredButtonEvent s) := by
  unfold execIgnoredButtonEvent
  split
  next e rest hr =>
    dsimp only
    split_ifs
    · exact answerKeeps_next ((keeps_refresh _).after ((keeps_markEvent _ _).after (keeps_takeEvent hr)))
    · exact answerKeeps_same
  · exact answerKeeps_same

/-! ## The gauges (R71 to R81) -/

theorem answerKeeps_putGauge (hk : k.allowsWrites = true) {g : GaugeId} (op : Gauge → Gauge) (hr : ∀ r, GaugeOk (s.span g) r → GaugeOk (s.span g) (op r))
    (hu : ∀ r, r.state = .unhomed → r.motion = .atRest → op r = r) :
    AnswerKeeps k s (putGauge g (op (s.gauge g)) s) :=
  answerKeeps_done ((keeps_finishPark hk _).after (keeps_setGauge_op hr hu))

theorem answerKeeps_gaugeRestBoundary (hk : k.allowsWrites = true) (g : GaugeId) : AnswerKeeps k s (execGaugeRestBoundary g s) :=
  answerKeeps_putGauge hk (·.restBoundary _ _) (fun _ h => h.restBoundary _) fun _ hu _ => Gauge.restBoundary_unhomed hu _

theorem answerKeeps_gaugeStepEnd (hk : k.allowsWrites = true) (g : GaugeId) (closed : Bool) : AnswerKeeps k s (execGaugeStepEnd g closed s) :=
  answerKeeps_putGauge hk (·.stepEnd _ _ _) (fun _ h => h.stepEnd _ _) fun _ hu _ => Gauge.stepEnd_unhomed hu _ _

theorem answerKeeps_reversalRestBoundary (hk : k.allowsWrites = true) (g : GaugeId) : AnswerKeeps k s (execReversalRestBoundary g s) :=
  answerKeeps_putGauge hk (·.reversalBoundary _ _) (fun _ h => h.reversalBoundary _) fun _ _ hm => Gauge.reversalBoundary_atRest hm _

theorem answerKeeps_sweepRestEnd (hk : k.allowsWrites = true) (g : GaugeId) : AnswerKeeps k s (execSweepRestEnd g s) :=
  answerKeeps_putGauge hk (·.sweepRestEnd _) (fun _ h => h.sweepRestEnd) fun _ hu _ => Gauge.sweepRestEnd_unhomed hu

theorem GaugeOk.moved {span pos steps attempt : Nat} {lift : Option Nat} {g : Gauge} (h : GaugeOk span g)
    (hstate : g.state = .homing) (hpos : pos ≤ span) (ha : 1 ≤ attempt ∧ attempt ≤ 3)
    (hlift : ∀ x ∈ lift, x < 64 ∧ attempt ≤ 2) :
    GaugeOk span { g with position := pos, steps := steps, attempt := attempt, lift := lift } := by
  obtain ⟨-, htarget, hstale, hramp, hrest, -, -, -, hmotion, hpark, -⟩ := h
  exact ⟨hpos, htarget, hstale, hramp, hrest, ha.1, ha.2, hlift, hmotion, hpark, by simp [hstate]⟩

theorem answerKeeps_homingStep (hk : k.allowsWrites = true) (g : GaugeId) (closed : Bool) : AnswerKeeps k s (execHomingStep g closed s) := by
  unfold execHomingStep
  dsimp only
  by_cases hstate : (s.gauge g).state = .homing ∧ (s.gauge g).lift = none
  · rw [if_pos hstate]
    have hne : (s.gauge g).state ≠ .unhomed := by simp [hstate.1]
    have hok (h : GaugeOk (s.span g) (s.gauge g)) :
        GaugeOk (s.span g)
          { s.gauge g with position := (s.gauge g).position - 1, steps := (s.gauge g).steps + 1 } := by
      have ⟨hpos, _, _, _, _, hmin, hmax, hlift, _⟩ := h
      exact h.moved hstate.1 ((Nat.sub_le _ _).trans hpos) ⟨hmin, hmax⟩ hlift
    split_ifs
    · exact answerKeeps_done ((keeps_finishPark hk _).after (keeps_closeGauge hne hok))
    · exact answerKeeps_done ((keeps_finishPark hk _).after (keeps_failAttempt hstate.1 hok))
    · exact answerKeeps_next (keeps_setGauge_homed hne hok)
  · rw [if_neg hstate]
    exact answerKeeps_same

theorem answerKeeps_homingLiftStep (hk : k.allowsWrites = true) (g : GaugeId) (closed : Bool) :
    AnswerKeeps k s (execHomingLiftStep g closed s) := by
  unfold execHomingLiftStep
  dsimp only
  split
  next j hstate hlift =>
    have hne : (s.gauge g).state ≠ .unhomed := by simp [hstate]
    have hnext (h : GaugeOk (s.span g) (s.gauge g)) :
        GaugeOk (s.span g)
          { s.gauge g with
            position := min (s.span g) ((s.gauge g).position + 1), attempt := (s.gauge g).attempt + 1
            steps := 0, lift := none } := by
      have ⟨_, _, _, _, _, _, _, hl, _⟩ := h
      exact h.moved hstate (min_le_left _ _) ⟨by omega, by have := (hl j hlift).2; omega⟩ (by simp)
    split_ifs with hlast hclosed
    · exact answerKeeps_done ((keeps_finishPark hk _).after (keeps_closeGauge hne hnext))
    · exact answerKeeps_next (keeps_setGauge_homed hne hnext)
    · refine answerKeeps_next (keeps_setGauge_homed hne fun h => ?_)
      have ⟨_, _, _, _, _, hmin, hmax, hl, _⟩ := h
      refine h.moved hstate (min_le_left _ _) ⟨hmin, hmax⟩ ?_
      rintro x ⟨rfl⟩
      exact ⟨by omega, (hl j hlift).2⟩
  · exact answerKeeps_same

/-! ## The broadcasts (R41 to R44) -/

theorem answerKeeps_clusterDistanceTimerExpiry : AnswerKeeps k s (execClusterDistanceTimerExpiry s) := by
  have h : Keeps k s (s.setOdo { s.odo with distTimer := some 500 }) := keeps_setOdo fun h => h
  unfold execClusterDistanceTimerExpiry
  dsimp only
  split_ifs
  · exact answerKeeps_next (h.trans (keeps_offerDistance _))
  · exact answerKeeps_next h
  · exact answerKeeps_same

theorem answerKeeps_clusterWarningsTimerExpiry : AnswerKeeps k s (execClusterWarningsTimerExpiry s) := by
  unfold execClusterWarningsTimerExpiry
  split_ifs
  · exact answerKeeps_next ((keeps_offerWarnings _).after
      (keeps_setWnu_of_records (by rfl) (by rfl) (fun h => by exact h) fun h => by exact h))
  · exact answerKeeps_same

theorem answerKeeps_rearSummaryTimerExpiry : AnswerKeeps k s (execRearSummaryTimerExpiry s) := by
  have h : Keeps k s (s.setTrc { s.trc with rearTimer := some 2000 }) := keeps_setTrc fun h => h
  unfold execRearSummaryTimerExpiry
  dsimp only
  split_ifs
  · exact answerKeeps_next (h.trans (keeps_offerBroadcast (by simp)))
  · exact answerKeeps_next h
  · exact answerKeeps_same

end Sys2Proof.Machine
end

section
/-! SUPPORT. Each command keeps each invariant: the store, the warnings, the clock, the display, the Power Unit and the
workshop requests; and so does every step. -/

namespace Sys2Proof.Machine

open Sys2Proof

variable {k : Invariant} {s : State}

/-! ## The store (R110 to R113) -/

theorem keeps_setStoreFault (v : Bool) (s : State) : Keeps k s (setStoreFault v s) := by
  unfold setStoreFault
  split_ifs
  · exact Keeps.refl k s
  · exact Keeps.after (keeps_evalWarnings _ _) (keeps_setStc_of_jobs (.inr (by rfl)) (by rfl) (by rfl))

theorem setStoreFault_stc (v : Bool) (s : State) : (setStoreFault v s).stc = { s.stc with fault := v } := by
  unfold setStoreFault
  split_ifs with h
  · rw [← h]
  · simp

theorem keeps_answerReset (verified : Bool) (s : State) : Keeps k s (answerReset verified s) := by
  unfold answerReset
  split
  · exact Keeps.refl k s
  next r hr =>
    intro hk
    refine Keeps.after (keeps_respond (fun htx => ?_) _ _) (keeps_setRqs (fun h => by exact h) (fun _ => by simp)) hk
    subst htx
    obtain ⟨-, -, hserved⟩ := (txInv_iff s).mp hk
    rw [hserved r hr]
    exact ⟨by decide, by decide⟩

theorem keeps_reportReset (entries : List ServiceEntry) (n : Nat) (s : State) : Keeps k s (reportReset entries n s) := by
  unfold reportReset
  split_ifs
  · exact keeps_answerReset _ s
  · exact Keeps.refl k s

theorem keeps_reportJob {j : Job} {n : Nat} {verified : Bool}
    (hw : k = .bounds → ∀ w mark slot, j = .odometer w mark slot → w ≤ 4294967295) (s : State) :
    Keeps k s (reportJob j n verified s) := by
  unfold reportJob
  cases j with
  | odometer w mark slot =>
    have hpos : Keeps k s (s.setStc { s.stc with writePos := (slot + 1) % 16 }) :=
      keeps_setStc_of_jobs (.inl (Nat.mod_lt _ (by decide))) rfl rfl
    dsimp only
    split_ifs
    · exact (keeps_odometerVerified fun h => hw h w mark slot rfl).after hpos
    · exact (keeps_odometerFailed w _).after hpos
  | service entries => exact (keeps_reportReset _ _ _).after (keeps_serviceReport _ s)
  | configuration image => exact keeps_setRqs id id

/-- The job in progress ends (R111). -/
theorem keeps_endJob (hk : k.allowsWrites = true) {a : ActiveJob} (ha : s.stc.active = some a) (n : Nat) (verified : Bool) :
    Keeps k s (endJob a.job n verified s) := by
  intro hs
  have hclear : Keeps k s (s.setStc { s.stc with active := none }) :=
    keeps_setStc (fun ⟨hpos, himage, _⟩ => ⟨hpos, himage, by simp⟩) fun h => ⟨h.jobs.1, by simp⟩
  refine (keeps_finishSave hk _).after ((keeps_stcBegin _).after ((keeps_reportJob ?_ _).after hclear)) hs
  rintro rfl w mark slot hjob
  exact (BoundsInv.jobs hs).2 a w mark slot ha hjob

theorem keeps_setStc_sameJob {a a' : ActiveJob} (ha : s.stc.active = some a) (hj : a'.job = a.job)
    (hu : a'.unit < a'.job.units.length) : Keeps k s (s.setStc { s.stc with active := some a' }) := by
  refine keeps_setStc (fun ⟨hpos, himage, hactive⟩ => ⟨hpos, himage, ?_⟩) fun h => ⟨h.jobs.1, ?_⟩
  · rintro x ⟨rfl⟩
    obtain ⟨-, hslot⟩ := hactive a ha
    exact ⟨hu, hj ▸ hslot⟩
  · rintro x w mark slot ⟨rfl⟩ hjob
    exact h.jobs.2 a w mark slot ha (hj ▸ hjob)

theorem current_unit_lt {a : ActiveJob} {u : Nat × List Byte} (h : a.current = some u) :
    a.unit < a.job.units.length := by
  obtain ⟨hlt, -⟩ := List.getElem?_eq_some_iff.mp h
  exact hlt

theorem keeps_unitVerified (hk : k.allowsWrites = true) {a : ActiveJob} (ha : s.stc.active = some a) : Keeps k s (unitVerified a s) := by
  have ha' : (setStoreFault false s).stc.active = some a := by rw [setStoreFault_stc]; exact ha
  unfold unitVerified
  dsimp only
  refine Keeps.after ?_ (keeps_setStoreFault false s)
  split_ifs with hlast
  · exact keeps_setStc_sameJob ha' rfl hlast
  · exact keeps_endJob hk ha' _ _

theorem keeps_unitMismatched (hk : k.allowsWrites = true) {a : ActiveJob} (ha : s.stc.active = some a) (hu : a.unit < a.job.units.length) :
    Keeps k s (unitMismatched a s) := by
  unfold unitMismatched
  split_ifs
  · refine Keeps.after (keeps_endJob hk ?_ _ _) ((keeps_setStoreFault true _).after (keeps_recordCode _ s))
    rw [setStoreFault_stc]
    exact ha
  · exact keeps_setStc_sameJob ha rfl hu

theorem answerKeeps_storeUnitComplete (hk : k.allowsWrites = true) (readBack : List Byte) :
    AnswerKeeps k s (execStoreUnitComplete readBack s) := by
  unfold execStoreUnitComplete
  split
  · exact answerKeeps_same
  next a ha =>
    split
    · exact answerKeeps_same
    next address bytes hcurrent =>
      have hput : Keeps k s (s.setStore (s.store.writeBytes address readBack)) :=
        keeps_setStore hk (Memory.writeBytes_wf _ _)
      split_ifs
      · exact answerKeeps_same
      · exact fun t h => nomatch h
      · exact answerKeeps_done (Keeps.after (keeps_unitVerified hk (by exact ha)) hput)
      · exact answerKeeps_done (Keeps.after (keeps_unitMismatched hk (by exact ha) (current_unit_lt hcurrent)) hput)

theorem answerKeeps_echoWaitExpiry : AnswerKeeps k s (execEchoWaitExpiry s) := by
  unfold execEchoWaitExpiry
  split_ifs
  · exact answerKeeps_done (keeps_resolveOdometer (by simp) s)
  · exact answerKeeps_same

/-! ## The warnings and the tone (R122 to R140) -/

theorem answerKeeps_qualifyTimerExpiry (n : Warning) : AnswerKeeps k s (execQualifyTimerExpiry n s) := by
  unfold execQualifyTimerExpiry
  dsimp only
  split_ifs with h
  · exact answerKeeps_done (keeps_announce (.inr h.2.1))
  · exact answerKeeps_same

theorem answerKeeps_releaseTimerExpiry (n : Warning) : AnswerKeeps k s (execReleaseTimerExpiry n s) := by
  unfold execReleaseTimerExpiry
  dsimp only
  split_ifs
  · exact answerKeeps_done (keeps_leaveList n s)
  · exact answerKeeps_same

/-- A timer of the Warning Unit that belongs to no warning ends, and some conditions are worked out. -/
theorem answerKeeps_windowEnd {v : WarningUnit} {c : Prop} [Decidable c] {ws : List Warning}
    (hr : v.records = s.wnu.records) (hl : v.list = s.wnu.list) (hc : s.wnu.ChimeOk → v.ChimeOk)
    (hb : LogBounds s.wnu → LogBounds v) :
    AnswerKeeps k s (if c then done (evalWarnings ws (s.setWnu v)) else .next s) := by
  split_ifs
  · exact answerKeeps_done ((keeps_evalWarnings _ _).after (keeps_setWnu_of_records hr hl hc hb))
  · exact answerKeeps_same

theorem answerKeeps_autoAcknowledgeExpiry (n : Warning) : AnswerKeeps k s (execAutoAcknowledgeExpiry n s) := by
  unfold execAutoAcknowledgeExpiry
  split_ifs
  · exact answerKeeps_done (keeps_acknowledge n s)
  · exact answerKeeps_same

theorem answerKeeps_serviceDisplayTimerExpiry (n : Warning) :
    AnswerKeeps k s (execServiceDisplayTimerExpiry n s) := by
  unfold execServiceDisplayTimerExpiry
  split_ifs
  · exact answerKeeps_done (keeps_acknowledge n s)
  · exact answerKeeps_same

theorem keeps_reannounce {n : Warning} (hn : (s.wnu.record n).state = .acknowledged) :
    Keeps k s (reannounce n s) := by
  refine (keeps_noteHead _).after ((keeps_chimeForWarning n _).after (keeps_setRecord (fun h => ?_) fun h hmade => ?_))
  · have := h.2.1 n
    simp_all [RecordOk, RecordFits, WarningRecord.unacknowledged]
  · have := (h.2.2 hmade).2 n
    simp_all [ClassOk, ClassFits]

theorem answerKeeps_reannounceTimerExpiry (n : Warning) : AnswerKeeps k s (execReannounceTimerExpiry n s) := by
  unfold execReannounceTimerExpiry
  dsimp only
  split_ifs with h
  · exact answerKeeps_done (keeps_reannounce h.2.1)
  · exact answerKeeps_same

theorem answerKeeps_patternEnd : AnswerKeeps k s (execPatternEnd s) := by
  unfold execPatternEnd
  split
  · split_ifs
    · exact answerKeeps_same
    · exact answerKeeps_next (keeps_setWnu_of_records rfl rfl (fun h => chimeOk_endPattern h.1) fun h => h)
  · exact answerKeeps_same
  · exact answerKeeps_same
  · exact answerKeeps_same

theorem startHead_eq (w : WarningUnit) :
    w.startHead = { w with tone := w.startHead.tone, chimes := w.startHead.chimes } := by
  unfold WarningUnit.startHead
  split <;> rfl

theorem answerKeeps_spacingExpiry : AnswerKeeps k s (execSpacingExpiry s) := by
  unfold execSpacingExpiry
  split_ifs
  · refine answerKeeps_next (keeps_setWnu_of_records ?_ ?_ (fun h => chimeOk_startHead h.1) fun h => ?_)
    · rw [startHead_eq]
    · rw [startHead_eq]
    · rw [startHead_eq]
      exact h
  · exact answerKeeps_same

/-! ## The clock and the display (R156 to R173) -/

theorem answerKeeps_secondPassage : AnswerKeeps k s (execSecondPassage s) := by
  unfold execSecondPassage
  split_ifs
  · exact answerKeeps_same
  · exact answerKeeps_done ((keeps_passSecond _).after (keeps_setClock ClockOk.prescaler_zero))

theorem answerKeeps_trimPartEnd (cycles : Nat) : AnswerKeeps k s (execTrimPartEnd cycles s) := by
  unfold execTrimPartEnd
  dsimp only
  by_cases hoff : s.power.state = .off ∨ 128 ≤ s.clock.nextPart
  · rw [if_pos hoff]
    exact answerKeeps_same
  · rw [if_neg hoff]
    have hclock (p : Nat) :
        Keeps k s
          (s.setClock { s.clock with windowCount := 8192 * s.clock.nextPart, prescaler := p % 32768 }) := by
      refine keeps_setClock fun ⟨hhour, hminute, hsecond, hday, _, _, h⟩ => ?_
      exact ⟨hhour, hminute, hsecond, hday, Nat.mod_lt _ (by decide), by dsimp only; omega, h⟩
    split_ifs
    · exact answerKeeps_done ((keeps_passSecond _).after (hclock _))
    · exact answerKeeps_next (hclock _)

theorem answerKeeps_trimWindowEnd : AnswerKeeps k s (execTrimWindowEnd s) := by
  unfold execTrimWindowEnd
  split_ifs
  · exact answerKeeps_same
  · refine answerKeeps_next (keeps_setClock fun ⟨hhour, hminute, hsecond, hday, hp, _, htrim, hpending⟩ => ?_)
    refine ⟨hhour, hminute, hsecond, hday, hp, Nat.zero_lt_succ _, ?_, by simp⟩
    cases ht : s.clock.pendingTrim with
    | none => exact htrim
    | some x => exact hpending x ht

theorem answerKeeps_displaySendEnd : AnswerKeeps k s (execDisplaySendEnd s) := by
  unfold execDisplaySendEnd
  split_ifs
  · exact answerKeeps_done (keeps_setMsc_of_clockSet (.inl rfl))
  · exact answerKeeps_same

theorem answerKeeps_peerTextTimerExpiry : AnswerKeeps k s (execPeerTextTimerExpiry s) := by
  unfold execPeerTextTimerExpiry
  split_ifs
  · exact answerKeeps_done (keeps_setMsc_of_clockSet (.inl rfl))
  · exact answerKeeps_same

theorem answerKeeps_reviewTimerExpiry : AnswerKeeps k s (execReviewTimerExpiry s) := by
  unfold execReviewTimerExpiry
  split
  · split_ifs
    · split
      · exact answerKeeps_done (keeps_setMsc_of_clockSet (.inl rfl))
      · exact answerKeeps_done (keeps_endReview s)
    · exact answerKeeps_same
  · exact answerKeeps_same

theorem answerKeeps_lampTestExpiry : AnswerKeeps k s (execLampTestExpiry s) := by
  unfold execLampTestExpiry
  split_ifs
  · exact answerKeeps_next (keeps_setMsc_of_clockSet (.inl rfl))
  · exact answerKeeps_same

/-! ## The Power Unit (R175 to R183) -/

theorem answerKeeps_keepAliveSupplyApplied : AnswerKeeps k s (execKeepAliveSupplyApplied s) := by
  unfold execKeepAliveSupplyApplied
  split_ifs
  · refine answerKeeps_next fun h => holds_cold (fun hk => ?_) (fun hk => ?_) (fun l hk => ?_) fun m hk => ?_
    · subst hk
      exact h
    · subst hk
      exact h
    · subst hk
      exact h
    · subst hk
      exact h
  · exact answerKeeps_same

theorem answerKeeps_keepAliveSupplyLost (hk : k.allowsWrites = true) : AnswerKeeps k s (execKeepAliveSupplyLost s) := by
  unfold execKeepAliveSupplyLost
  split_ifs
  · exact answerKeeps_same
  · refine answerKeeps_next fun h => ?_
    have hcut : k.Holds (cutUnit s) := keeps_cutUnit hk s h
    refine holds_off (fun hk => ?_) (fun hk => ?_) (fun l hk => ?_) fun m hk => ?_
    · subst hk
      exact hcut
    · subst hk
      exact hcut
    · subst hk
      exact hcut
    · subst hk
      exact hcut

theorem State.atStep_iff {st : StartStep} : s.atStep st = true ↔ s.power.state = .starting ∧ s.power.step = st := by
  simp [State.atStep]

theorem answerKeeps_patternMemoryChecksum (cells : List (Nat × Byte)) :
    AnswerKeeps k s (execPatternMemoryChecksum cells s) := by
  unfold execPatternMemoryChecksum
  split_ifs with h
  · obtain ⟨hstate, hstep⟩ := State.atStep_iff.mp h
    exact answerKeeps_next (keeps_patternCheck cells (fun _ => hstate) hstep)
  · exact answerKeeps_same

theorem answerKeeps_keepAliveSignatureCheck (found : Option (BitVec 16)) (ram : List (Vector Byte 8)) :
    AnswerKeeps k s (execKeepAliveSignatureCheck found ram s) := by
  unfold execKeepAliveSignatureCheck
  split_ifs with h
  · obtain ⟨hstate, hstep⟩ := State.atStep_iff.mp h
    exact answerKeeps_done (keeps_keepAliveCheck found ram hstate hstep)
  · exact answerKeeps_same

theorem answerKeeps_configurationRead : AnswerKeeps k s (execConfigurationRead s) := by
  unfold execConfigurationRead
  split_ifs with h
  · obtain ⟨hstate, hstep⟩ := State.atStep_iff.mp h
    exact answerKeeps_done (keeps_readConfigurationStep hstate hstep)
  · exact answerKeeps_same

theorem answerKeeps_ringAndServiceRead (contacts : BitVec 6) :
    AnswerKeeps k s (execRingAndServiceRead contacts s) := by
  unfold execRingAndServiceRead
  split_ifs with h
  · obtain ⟨hstate, hstep⟩ := State.atStep_iff.mp h
    have hopen : Keeps k s (openPort (takeRecords (takeRing s))) :=
      (keeps_openPort _).after ((keeps_takeRecords _).after (keeps_takeRing s))
    have hpower : (openPort (takeRecords (takeRing s))).power = s.power := by simp [openPort]
    generalize openPort (takeRecords (takeRing s)) = t at hopen hpower
    refine answerKeeps_done ((keeps_maybeEndStarting _ _).after (Keeps.after ?_ hopen))
    exact keeps_setPower_step rfl rfl rfl (fun _ => hpower ▸ hstate) (by simp [hpower, hstep])
  · exact answerKeeps_same

theorem answerKeeps_restartHoldExpiry : AnswerKeeps k s (execRestartHoldExpiry s) := by
  unfold execRestartHoldExpiry
  split_ifs with h
  · obtain ⟨hstate, hstep⟩ := State.atStep_iff.mp h
    exact answerKeeps_done (keeps_beginSteps (fun _ => hstate) (by simp [hstep]))
  · exact answerKeeps_same

theorem answerKeeps_courtesyTimerExpiry (hk : k.allowsWrites = true) : AnswerKeeps k s (execCourtesyTimerExpiry s) := by
  unfold execCourtesyTimerExpiry
  split_ifs
  · exact answerKeeps_done (keeps_endCourtesy hk s)
  · exact answerKeeps_same

theorem answerKeeps_courtesyCapExpiry (hk : k.allowsWrites = true) : AnswerKeeps k s (execCourtesyCapExpiry s) := by
  unfold execCourtesyCapExpiry
  split_ifs
  · exact answerKeeps_done (keeps_endCourtesy hk s)
  · exact answerKeeps_same

theorem answerKeeps_saveWaitExpiry (hk : k.allowsWrites = true) : AnswerKeeps k s (execSaveWaitExpiry s) := by
  unfold execSaveWaitExpiry
  split_ifs
  · exact answerKeeps_done ((keeps_finishPark hk _).after (keeps_beginPark s))
  · exact answerKeeps_same

/-! ## The workshop requests (R186 to R192) -/

/-- A request is refused, or passes every check and is served (R186). -/
theorem keeps_take {v : Service} {f : Frame} (hid : RequestId f.id)
    (h : f.data.length = v.length → v.inRange f.data s = true → Keeps k s (v.serve f s)) : Keeps k s (v.take f s) := by
  unfold Service.take
  split
  · exact keeps_refuse hid _
  next hnone =>
    unfold Service.refusal at hnone
    split_ifs at hnone with _ _ _ hlen hrange
    exact h (by simpa using hlen) (by simpa using hrange)

theorem answerKeeps_request {v : Service} {id : Byte} (hid : RequestId id)
    (h : ∀ f t, f.id = id → f.data.length = v.length → v.inRange f.data t = true → Keeps k t (v.serve f t)) :
    AnswerKeeps k s (done (dispatch id v.take s)) :=
  answerKeeps_done (keeps_dispatch (fun f t hf => keeps_take (hf ▸ hid) (h f t hf)) s)

theorem answerKeeps_readSense : AnswerKeeps k s (execReadSense s) :=
  answerKeeps_request (by decide) fun f t hf _ _ => keeps_answer (hf ▸ by decide) _

theorem answerKeeps_clearSense : AnswerKeeps k s (execClearSense s) := by
  refine answerKeeps_request (by decide) fun f t hf _ _ => (keeps_answer (hf ▸ by decide) _).after ?_
  refine Keeps.after (keeps_setLink_of_queue (by rfl) (by rfl) fun h => ⟨by simp [CountersOk], h.2⟩) ?_
  exact keeps_setRqs id id

theorem answerKeeps_readLog : AnswerKeeps k s (execReadLog s) :=
  answerKeeps_request (by decide) fun f t hf _ _ => keeps_answer (hf ▸ by decide) _

theorem answerKeeps_clearLog : AnswerKeeps k s (execClearLog s) := by
  refine answerKeeps_request (by decide) fun f t hf _ _ => (keeps_answer (hf ▸ by decide) _).after ?_
  exact keeps_setWnu_of_records rfl rfl id fun _ => by simp [LogBounds]

theorem answerKeeps_readSignal : AnswerKeeps k s (execReadSignal s) := by
  refine answerKeeps_request (by decide) fun f t hf _ _ => ?_
  unfold readSignal
  dsimp only
  split
  · exact keeps_answer (hf ▸ by decide) _
  · exact Keeps.refl k t

theorem answerKeeps_readService : AnswerKeeps k s (execReadService s) :=
  answerKeeps_request (by decide) fun f t hf _ _ => keeps_answer (hf ▸ by decide) _

theorem keeps_beginReset (i : ServiceItem) (s : State) : Keeps k s (beginReset i s) := by
  unfold beginReset
  split
  · exact keeps_serviceReset _ _ s
  · exact keeps_setSru s _

theorem answerKeeps_resetService : AnswerKeeps k s (execResetService s) := by
  refine answerKeeps_request (by decide) fun f t hf _ _ => ?_
  unfold resetService
  dsimp only
  split
  · refine (keeps_beginReset _ _).after (keeps_setRqs id fun _ => ?_)
    rintro r ⟨rfl⟩
    exact hf
  · exact Keeps.refl k t

theorem answerKeeps_setClock : AnswerKeeps k s (execSetClock s) := by
  refine answerKeeps_request (by decide) fun f t hf _ hrange => (keeps_answer (hf ▸ by decide) _).after ?_
  simp only [setClock, maxDay, Bool.and_eq_true, decide_eq_true_eq] at hrange
  obtain ⟨⟨⟨hh, hm⟩, hs⟩, hd⟩ := hrange
  exact keeps_setTime (fun _ => ⟨hh, hm, hs, of_decide_eq_true hd⟩) t

theorem answerKeeps_setTrim : AnswerKeeps k s (execSetTrim s) := by
  refine answerKeeps_request (by decide) fun f t hf _ hrange => (keeps_answer (hf ▸ by decide) _).after ?_
  simp only [setTrim, Bool.and_eq_true, decide_eq_true_eq] at hrange
  refine keeps_setClock fun ⟨hhour, hminute, hsecond, hday, hp, hw, htrim, _⟩ => ?_
  refine ⟨hhour, hminute, hsecond, hday, hp, hw, htrim, ?_⟩
  rintro x ⟨rfl⟩
  exact hrange

theorem ClockOk.adjusted {p : Byte} {c c' : Clock} (h : ClockOk c) (ha : adjustedClock p c = some c') : ClockOk c' := by
  obtain ⟨hhour, hminute, hsecond, hday, hrest⟩ := h
  unfold adjustedClock Clock.advanceHour Clock.retardHour maxDay at ha
  split_ifs at ha
  · obtain rfl := Option.some.inj ha
    exact ⟨by dsimp only; omega, hminute, hsecond, hday, hrest⟩
  · obtain rfl := Option.some.inj ha
    exact ⟨Nat.zero_le _, hminute, hsecond, min_le_left _ _, hrest⟩
  · obtain rfl := Option.some.inj ha
    exact ⟨by dsimp only; omega, hminute, hsecond, hday, hrest⟩

theorem answerKeeps_adjustHour : AnswerKeeps k s (execAdjustHour s) := by
  refine answerKeeps_request (by decide) fun f t hf _ _ => ?_
  unfold adjustHour
  dsimp only
  split
  next c hc =>
    exact (keeps_answer (hf ▸ by decide) _).after ((keeps_offerTime _).after (keeps_setClock fun h => h.adjusted hc))
  · exact keeps_respond (fun _ => hf ▸ by decide) _ _

theorem length_stage {image bytes : List Byte} {offset : Nat} (h : offset + bytes.length ≤ image.length) :
    (stage image offset bytes).length = image.length := by
  unfold stage
  simp only [List.length_append, List.length_take, List.length_drop]
  omega

theorem answerKeeps_writeConfig : AnswerKeeps k s (execWriteConfig s) := by
  refine answerKeeps_request (by decide) fun f t hf hlen hrange => ?_
  have hstage : Keeps k t
      (t.setRqs { t.rqs with staging := stage t.rqs.staging (byteAt f.data 0).toNat (f.data.drop 1) }) := by
    refine keeps_setRqs (fun h => ?_) id
    simp only [writeConfig, decide_eq_true_eq] at hlen hrange
    rw [← h]
    exact length_stage (by rw [List.length_drop, hlen, h]; omega)
  unfold writeConfig
  dsimp only
  refine (keeps_answer (hf ▸ by decide) _).after ?_
  unfold writeStaging
  dsimp only
  split_ifs
  · exact (keeps_handConfiguration _).after (Keeps.after (keeps_setRqs (fun h => by exact h) (fun h => by exact h)) hstage)
  · exact hstage

theorem answerKeeps_gaugeTest (contacts : BitVec 6) : AnswerKeeps k s (execGaugeTest contacts s) :=
  answerKeeps_request (by decide) fun _ t hf _ _ =>
    (keeps_answer (hf ▸ by decide) _).after (keeps_testGauges contacts t)

theorem answerKeeps_chimeTest : AnswerKeeps k s (execChimeTest s) := by
  refine answerKeeps_request (by decide) fun f t hf _ _ => ?_
  unfold chimeTest
  dsimp only
  split
  · exact (keeps_answer (hf ▸ by decide) _).after ((keeps_nextMoment _).after (keeps_giveChime _ t))
  · exact Keeps.refl k t

/-! ## Every command, every step -/

theorem answerKeeps_exec (c : Instr) (s : State) (h : k.allowsWrites = true ∨ mayStore c = false) :
    AnswerKeeps k s (exec c s) := by
  have hk (hc : mayStore c = true) : k.allowsWrites = true := h.resolve_right (by simp [hc])
  cases c with
  | frameReceived check => exact answerKeeps_done (keeps_takeByte _ _ s)
  | receiveErrorByte b framing => exact answerKeeps_done (keeps_takeByte _ _ s)
  | byteReceived b => exact answerKeeps_done (keeps_takeByte _ _ s)
  | byteGapTimeout => exact answerKeeps_byteGapTimeout
  | skippingIdleEnd => exact answerKeeps_skippingIdleEnd
  | breakReceived => exact answerKeeps_breakReceived
  | attemptStart idle => exact answerKeeps_attemptStart idle
  | arbitrationLost => exact answerKeeps_arbitrationLost
  | bitError => exact answerKeeps_bitError
  | breakEnd => exact answerKeeps_breakEnd
  | attemptSuccess => exact answerKeeps_attemptSuccess
  | pauseExpiry => exact answerKeeps_pauseExpiry
  | muteExpiry => exact answerKeeps_muteExpiry
  | rosterTimerExpiry station => exact answerKeeps_rosterTimerExpiry station
  | engineStatus => exact answerKeeps_engineStatus
  | transStatus => exact answerKeeps_transStatus
  | bodyStatus => exact answerKeeps_bodyStatus
  | odoEcho => exact answerKeeps_odoEcho
  | chimeRequest => exact answerKeeps_chimeRequest
  | chimeCancel => exact answerKeeps_chimeCancel
  | signalExpiry sig => exact answerKeeps_signalExpiry sig
  | speedPulse us => exact answerKeeps_speedPulse us
  | speedGateEnd => exact answerKeeps_speedGateEnd
  | fuelSample reading => exact answerKeeps_fuelSample reading
  | supplyReading millivolts => exact answerKeeps_supplyReading millivolts
  | switchFilterCompletion line samples contacts => exact answerKeeps_switchFilterCompletion line samples contacts
  | linkFallingEdgeWake => exact answerKeeps_linkFallingEdgeWake
  | buttonPositionChange button samples => exact answerKeeps_buttonPositionChange button samples
  | buttonHoldTimerExpiry button => exact answerKeeps_buttonHoldTimerExpiry button
  | longTimerExpiry => exact answerKeeps_longTimerExpiry
  | modePress => exact answerKeeps_next (keeps_onButton _ (keeps_inRun keeps_modeAction) s)
  | setPress => exact answerKeeps_next (keeps_onButton _ (keeps_inRun keeps_setAction) s)
  | setRelease => exact answerKeeps_next (keeps_onButton _ (keeps_inRun keeps_setReleaseAction) s)
  | setHold => exact answerKeeps_next (keeps_onButton _ (keeps_inRun keeps_setHoldAction) s)
  | resetPress => exact answerKeeps_next (keeps_onButton _ (keeps_inRun keeps_resetAction) s)
  | resetHold => exact answerKeeps_next (keeps_onButton _ (keeps_inRun keeps_resetHoldAction) s)
  | checkPress => exact answerKeeps_checkPress
  | checkHold => exact answerKeeps_next (keeps_onButton _ (keeps_inRun keeps_checkHoldAction) s)
  | checkResetLong => exact answerKeeps_checkResetLong (hk rfl)
  | ignoredButtonEvent => exact answerKeeps_ignoredButtonEvent
  | homingStep gauge closed => exact answerKeeps_homingStep (hk rfl) gauge closed
  | homingLiftStep gauge closed => exact answerKeeps_homingLiftStep (hk rfl) gauge closed
  | gaugeRestBoundary gauge => exact answerKeeps_gaugeRestBoundary (hk rfl) gauge
  | gaugeStepEnd gauge closed => exact answerKeeps_gaugeStepEnd (hk rfl) gauge closed
  | reversalRestBoundary gauge => exact answerKeeps_reversalRestBoundary (hk rfl) gauge
  | sweepRestEnd gauge => exact answerKeeps_sweepRestEnd (hk rfl) gauge
  | clusterDistanceTimerExpiry => exact answerKeeps_clusterDistanceTimerExpiry
  | clusterWarningsTimerExpiry => exact answerKeeps_clusterWarningsTimerExpiry
  | rearSummaryTimerExpiry => exact answerKeeps_rearSummaryTimerExpiry
  | storeUnitComplete readBack => exact answerKeeps_storeUnitComplete (hk rfl) readBack
  | echoWaitExpiry => exact answerKeeps_echoWaitExpiry
  | qualifyTimerExpiry warning => exact answerKeeps_qualifyTimerExpiry warning
  | releaseTimerExpiry warning => exact answerKeeps_releaseTimerExpiry warning
  | engineRunningTimerExpiry => exact answerKeeps_windowEnd rfl rfl (fun h => h) fun h => h
  | linkWindowExpiry => exact answerKeeps_windowEnd rfl rfl (fun h => h) fun h => h
  | beltWindowExpiry => exact answerKeeps_windowEnd rfl rfl (fun h => h) fun h => h
  | autoAcknowledgeExpiry warning => exact answerKeeps_autoAcknowledgeExpiry warning
  | reannounceTimerExpiry warning => exact answerKeeps_reannounceTimerExpiry warning
  | serviceDisplayTimerExpiry warning => exact answerKeeps_serviceDisplayTimerExpiry warning
  | patternEnd => exact answerKeeps_patternEnd
  | spacingExpiry => exact answerKeeps_spacingExpiry
  | secondPassage => exact answerKeeps_secondPassage
  | trimPartEnd cycles => exact answerKeeps_trimPartEnd cycles
  | trimWindowEnd => exact answerKeeps_trimWindowEnd
  | displaySendEnd => exact answerKeeps_displaySendEnd
  | peerTextTimerExpiry => exact answerKeeps_peerTextTimerExpiry
  | reviewTimerExpiry => exact answerKeeps_reviewTimerExpiry
  | lampTestExpiry => exact answerKeeps_lampTestExpiry
  | keepAliveSupplyApplied => exact answerKeeps_keepAliveSupplyApplied
  | keepAliveSupplyLost => exact answerKeeps_keepAliveSupplyLost (hk rfl)
  | patternMemoryChecksum cells => exact answerKeeps_patternMemoryChecksum cells
  | keepAliveSignatureCheck found ram => exact answerKeeps_keepAliveSignatureCheck found ram
  | configurationRead => exact answerKeeps_configurationRead
  | ringAndServiceRead contacts => exact answerKeeps_ringAndServiceRead contacts
  | courtesyTimerExpiry => exact answerKeeps_courtesyTimerExpiry (hk rfl)
  | courtesyCapExpiry => exact answerKeeps_courtesyCapExpiry (hk rfl)
  | saveWaitExpiry => exact answerKeeps_saveWaitExpiry (hk rfl)
  | restartHoldExpiry => exact answerKeeps_restartHoldExpiry
  | readSense => exact answerKeeps_readSense
  | clearSense => exact answerKeeps_clearSense
  | readLog => exact answerKeeps_readLog
  | clearLog => exact answerKeeps_clearLog
  | readSignal => exact answerKeeps_readSignal
  | readService => exact answerKeeps_readService
  | resetService => exact answerKeeps_resetService
  | setClock => exact answerKeeps_setClock
  | setTrim => exact answerKeeps_setTrim
  | adjustHour => exact answerKeeps_adjustHour
  | writeConfig => exact answerKeeps_writeConfig
  | gaugeTest contacts => exact answerKeeps_gaugeTest contacts
  | chimeTest => exact answerKeeps_chimeTest

/-- A step keeps every invariant of the list. -/
theorem keeps_step (k : Invariant) (hk : k.allowsWrites = true) (hq : ∀ l, k ≠ .queue l) {s t : State}
    (h : step s = .next t) : Keeps k s t := by
  unfold step at h
  split at h
  · cases h
    exact Keeps.refl k s
  next c rest _ => exact (keeps_setPending hq).trans (answerKeeps_exec c _ (.inl hk) t h)

end Sys2Proof.Machine
end

section
/-! CLAIM. Every step keeps the invariants of the store, the transmit queue, the gauges, the active list, the chime queue,
the ranges and the bounds. -/

namespace Sys2Proof.Machine

open Sys2Proof

/-- Settles O4: each command keeps the three invariants, by the lemma of each shared operation. -/
theorem stepKeepsStore : Obligations.StepKeepsStore :=
  ⟨fun _ _ h hstep => keeps_step .memory rfl nofun hstep h, fun _ _ h hstep => keeps_step .store rfl nofun hstep h,
    fun _ _ h hstep => keeps_step .pattern rfl nofun hstep h⟩

/-- Settles O5: each command keeps the transmit queue, by the lemma of each shared operation. -/
theorem stepKeepsTransmitQueue : Obligations.StepKeepsTransmitQueue := fun _ _ h hstep => keeps_step .tx rfl nofun hstep h

/-- Settles O6: each command keeps the gauges within their spans, by the lemma of each shared operation. -/
theorem stepKeepsGaugesInSpan : Obligations.StepKeepsGaugesInSpan := fun _ _ h hstep => keeps_step .gauge rfl nofun hstep h

/-- Settles O7: each command keeps the active list, by the lemma of each shared operation. -/
theorem stepKeepsActiveList : Obligations.StepKeepsActiveList := fun _ _ h hstep => keeps_step .warning rfl nofun hstep h

/-- Settles O8: each command keeps the chime queue, by the lemma of each shared operation. -/
theorem stepKeepsChimePriority : Obligations.StepKeepsChimePriority := fun _ _ h hstep => keeps_step .chime rfl nofun hstep h

/-- Settles O10: each command keeps the ranges, by the lemma of each shared operation. -/
theorem stepKeepsRanges : Obligations.StepKeepsRanges := fun _ _ h hstep => keeps_step .range rfl nofun hstep h

/-- Settles O11: each command keeps the bounds, by the lemma of each shared operation. -/
theorem stepKeepsBounds : Obligations.StepKeepsBounds := fun _ _ h hstep => keeps_step .bounds rfl nofun hstep h

end Sys2Proof.Machine
end

section
/-! CLAIM. The machine as a whole: a step takes the front command, every command completes, reset meets the invariants, and
nothing but a unit in progress writes the serial memory. -/

namespace Sys2Proof.Machine

open Sys2Proof

variable {s t : State}

/-! ## The queue of commands -/

theorem pending_of_exec {c : Instr} (h : exec c s = .next t) : t.pending = s.pending :=
  answerKeeps_exec (k := .queue s.pending) c s (.inl rfl) t h rfl

/-- Settles O1: the queue that a command leaves alone is one more invariant that each operation keeps. -/
theorem stepTakesFrontCommand : Obligations.StepTakesFrontCommand := by
  refine ⟨⟨fun s c rest h => ?_, fun s h => ?_⟩, fun c s t h => pending_of_exec h⟩
  · simp [step, h]
  · simp [step, h]

/-! ## Every command completes -/

/-- A next state is answered. -/
def Completes (a : Answer) : Prop := ∃ t, a = .next t

theorem completes_next (t : State) : Completes (.next t) := ⟨t, rfl⟩

theorem completes_done (t : State) : Completes (done t) := ⟨refresh t, rfl⟩

theorem completes_ite {c : Prop} [Decidable c] {a b : Answer} (ha : Completes a) (hb : Completes b) :
    Completes (if c then a else b) := by
  split_ifs
  · exact ha
  · exact hb

theorem completes_byteGapTimeout (s : State) : Completes (execByteGapTimeout s) := by
  unfold execByteGapTimeout
  split <;> exact completes_next _

theorem completes_rosterTimerExpiry (station : Nat) (s : State) : Completes (execRosterTimerExpiry station s) := by
  unfold execRosterTimerExpiry
  split
  · exact completes_ite (completes_done _) (completes_next _)
  · exact completes_next _

theorem completes_ignoredButtonEvent (s : State) : Completes (execIgnoredButtonEvent s) := by
  unfold execIgnoredButtonEvent
  split
  · exact completes_ite (completes_next _) (completes_next _)
  · exact completes_next _

theorem completes_homingLiftStep (g : GaugeId) (closed : Bool) (s : State) :
    Completes (execHomingLiftStep g closed s) := by
  unfold execHomingLiftStep
  dsimp only
  split
  · exact completes_ite (completes_ite (completes_done _) (completes_next _)) (completes_next _)
  · exact completes_next _

theorem completes_patternEnd (s : State) : Completes (execPatternEnd s) := by
  unfold execPatternEnd
  split
  · exact completes_ite (completes_next _) (completes_next _)
  · exact completes_next _
  · exact completes_next _
  · exact completes_next _

theorem completes_reviewTimerExpiry (s : State) : Completes (execReviewTimerExpiry s) := by
  unfold execReviewTimerExpiry
  split
  · refine completes_ite ?_ (completes_next _)
    split <;> exact completes_done _
  · exact completes_next _

theorem length_beBytes (n v : Nat) : (beBytes n v).length = n := by
  induction n generalizing v with
  | zero => rfl
  | succ n ih => simp [beBytes, ih]

/-- A job that is at one of its units writes within the serial memory (R109, R112, R113). -/
theorem unit_end_le {a : ActiveJob} {u : Nat × List Byte} (ha : ActiveOk a) (hu : a.current = some u) :
    u.1 + u.2.length ≤ 256 := by
  obtain ⟨-, hslot⟩ := ha
  have hmem : u ∈ a.job.units := List.mem_of_getElem? hu
  cases hj : a.job with
  | odometer w mark slot =>
    rw [hj] at hmem hslot
    obtain rfl := List.mem_singleton.mp hmem
    have hlen : (slotBytes slot w mark).length = 6 := by simp [slotBytes, length_beBytes]
    simp only [slotAddress, hlen]
    omega
  | service entries =>
    rw [hj] at hmem
    obtain ⟨e, -, rfl⟩ := List.mem_map.mp hmem
    have hlen : (recordBytes e.item e.record).length = 8 := by
      cases hd : e.record.dueDay <;> simp [recordBytes, recordBody, length_beBytes, hd]
    have hix := e.item.ix.isLt
    simp only [recordAddress, hlen]
    omega
  | configuration image =>
    rw [hj] at hmem
    simp only [Job.units, List.mem_cons, List.not_mem_nil, or_false] at hmem
    rcases hmem with rfl | rfl | rfl | rfl <;> simp [slice] <;> omega

theorem completes_storeUnitComplete (readBack : List Byte) (h : StoreInv s) :
    Completes (execStoreUnitComplete readBack s) := by
  unfold execStoreUnitComplete
  split
  · exact completes_next _
  next a ha =>
    split
    · exact completes_next _
    next address bytes hu =>
      refine completes_ite (completes_next _) ?_
      have hle : address + bytes.length ≤ 256 := unit_end_le (h.2.2 a ha) hu
      rw [if_neg (by omega)]
      exact completes_done _

/-- Settles O2: the one fault is that of a unit beyond the serial memory, which no job in progress has. -/
theorem everyCommandCompletes : Obligations.EveryCommandCompletes := by
  intro c s h
  change Completes (exec c s)
  have hnext {c : Prop} [Decidable c] {t u : State} : Completes (if c then .next t else .next u) :=
    completes_ite (completes_next t) (completes_next u)
  have hdone {c : Prop} [Decidable c] {t u : State} : Completes (if c then done t else .next u) :=
    completes_ite (completes_done t) (completes_next u)
  cases c with
  | frameReceived | receiveErrorByte | byteReceived | engineStatus | transStatus | bodyStatus | odoEcho | chimeRequest
  | chimeCancel | gaugeRestBoundary | gaugeStepEnd | reversalRestBoundary | sweepRestEnd | readSense | clearSense
  | readLog | clearLog | readSignal | readService | resetService | setClock | setTrim | adjustHour | writeConfig
  | gaugeTest | chimeTest => exact completes_done _
  | switchFilterCompletion | linkFallingEdgeWake | modePress | setPress | setRelease | setHold | resetPress | resetHold
  | checkPress | checkHold | checkResetLong => exact completes_next _
  | skippingIdleEnd | breakReceived | arbitrationLost | bitError | attemptSuccess | pauseExpiry | muteExpiry
  | buttonPositionChange | buttonHoldTimerExpiry | longTimerExpiry | clusterDistanceTimerExpiry
  | clusterWarningsTimerExpiry | rearSummaryTimerExpiry | spacingExpiry | trimWindowEnd | lampTestExpiry
  | keepAliveSupplyApplied | keepAliveSupplyLost | patternMemoryChecksum => exact hnext
  | signalExpiry | speedPulse | speedGateEnd | supplyReading | echoWaitExpiry | qualifyTimerExpiry | releaseTimerExpiry
  | engineRunningTimerExpiry | linkWindowExpiry | beltWindowExpiry | autoAcknowledgeExpiry | reannounceTimerExpiry
  | serviceDisplayTimerExpiry | displaySendEnd | peerTextTimerExpiry | keepAliveSignatureCheck | configurationRead
  | ringAndServiceRead | courtesyTimerExpiry | courtesyCapExpiry | saveWaitExpiry | restartHoldExpiry => exact hdone
  | byteGapTimeout => exact completes_byteGapTimeout s
  | attemptStart => exact completes_ite (completes_next _) hnext
  | breakEnd => exact completes_ite (completes_ite (completes_next _) hnext) (completes_next _)
  | rosterTimerExpiry station => exact completes_rosterTimerExpiry station s
  | fuelSample =>
    exact completes_ite (completes_ite (completes_done _) (completes_ite (completes_done _) (completes_done _)))
      (completes_next _)
  | ignoredButtonEvent => exact completes_ignoredButtonEvent s
  | homingStep =>
    exact completes_ite (completes_ite (completes_done _) hdone) (completes_next _)
  | homingLiftStep g closed => exact completes_homingLiftStep g closed s
  | storeUnitComplete readBack => exact completes_storeUnitComplete readBack h
  | patternEnd => exact completes_patternEnd s
  | secondPassage => exact completes_ite (completes_next _) (completes_done _)
  | trimPartEnd => exact completes_ite (completes_next _) hdone
  | reviewTimerExpiry => exact completes_reviewTimerExpiry s

/-! ## Reset -/

theorem holds_reset (k : Invariant) (hq : ∀ l, k ≠ .queue l) (hk : k.allowsWrites = true) : k.Holds State.reset :=
  holds_cold (fun _ => rfl) (fun _ _ => rfl) (fun l h => absurd h (hq l)) fun m h => by
    subst h
    cases hk

theorem commitInv_reset : CommitInv State.reset := by
  simp [CommitInv, State.reset, State.cold, State.awake]

theorem totalInv_reset : TotalInv State.reset := by
  refine ⟨fun _ x => ?_, fun _ _ x => ?_, ?_, ?_, ?_, ?_⟩
  · cases x <;> decide
  · cases x <;> decide
  · simp [State.reset, State.cold]
  · simp [State.reset, State.cold]
  · simp [State.reset, State.cold]
  · simp [State.reset, State.cold]

/-- Settles O3: a COLD start over a blank memory meets each invariant. -/
theorem resetSatisfiesInvariants : Obligations.ResetSatisfiesInvariants :=
  ⟨holds_reset .memory nofun rfl, holds_reset .store nofun rfl, holds_reset .tx nofun rfl, holds_reset .gauge nofun rfl,
    holds_reset .warning nofun rfl, holds_reset .chime nofun rfl, commitInv_reset, totalInv_reset,
    holds_reset .range nofun rfl, holds_reset .bounds nofun rfl, holds_reset .pattern nofun rfl⟩

/-! ## The serial memory -/

/-- What a unit in progress may have done to the serial memory: its own bytes have changed, or nothing has. -/
def WritesUnit (s t : State) : Prop :=
  t.store = s.store ∨
    ∃ a u, s.stc.active = some a ∧ a.current = some u ∧
      ∀ x, x < u.1 ∨ u.1 + u.2.length ≤ x → t.store.read x = s.store.read x

theorem WritesUnit.congr {s' t' : State} (hstore : s'.store = s.store) (hstc : s'.stc.active = s.stc.active)
    (ht : t'.store = t.store) (h : WritesUnit s' t) : WritesUnit s t' := by
  unfold WritesUnit at *
  rw [ht]
  rwa [hstore, hstc] at h

theorem store_eq_of_exec {c : Instr} (hc : mayStore c = false) (h : exec c s = .next t) : t.store = s.store :=
  answerKeeps_exec (k := .held s.store) c s (.inr hc) t h rfl

theorem length_mismatchBytes (draw a n : Nat) : (mismatchBytes draw a n).length = n := by
  induction n generalizing a with
  | zero => rfl
  | succ n ih => simp [mismatchBytes, ih]

theorem writesUnit_finishUnit (s : State) : WritesUnit s (finishUnit s) := by
  unfold finishUnit
  split
  · exact .inl rfl
  next a ha =>
    split
    · exact .inl rfl
    next address bytes hu =>
      refine .inr ⟨a, _, ha, hu, fun x hx => ?_⟩
      dsimp only
      split_ifs
      · simpa using Memory.read_writeBytes_other hx
      · simpa using Memory.read_writeBytes_other (by rwa [length_mismatchBytes])

theorem writesUnit_cutUnit (s : State) : WritesUnit s (cutUnit s) := by
  unfold cutUnit
  split
  · exact .inl rfl
  next a ha =>
    split
    · exact .inl rfl
    next address bytes hu => exact .inr ⟨a, _, ha, hu, fun x hx => read_tearBytes_other hx⟩

theorem enterSleep_store (s : State) : (enterSleep s).store = (finishUnit s).store := by
  unfold enterSleep closePort
  dsimp only
  split_ifs
  · simp
  · simp

theorem writesUnit_finishPark (s : State) : WritesUnit s (finishPark s) := by
  unfold finishPark
  split_ifs
  · exact (writesUnit_finishUnit s).congr rfl rfl (enterSleep_store s)
  · exact .inl rfl

theorem finishUnit_idle (h : s.stc.active = none) : finishUnit s = s := by simp [finishUnit, h]

/-- SAVING ends with no job in progress, so the park after it writes nothing (R183). -/
theorem finishSave_store (s : State) : (finishSave s).store = s.store := by
  unfold finishSave
  split_ifs with hsave
  · have hidle : s.stc.active = none := by
      have h := hsave.2.2
      simp only [StoreController.idle, Bool.and_eq_true] at h
      simpa using h.1.1.1.2
    unfold finishPark
    split_ifs
    · rw [enterSleep_store, finishUnit_idle (by simpa using hidle)]
      simp
    · simp
  · rfl

theorem endCourtesy_store (s : State) : (endCourtesy s).store = s.store := by
  unfold endCourtesy
  rw [finishSave_store]
  simp

theorem endJob_store (j : Job) (n : Nat) (verified : Bool) (s : State) : (endJob j n verified s).store = s.store := by
  unfold endJob
  rw [finishSave_store]
  simp

/-- The job that follows a unit writes nothing at its beginning (R112). -/
theorem unitDone_store (a : ActiveJob) (s : State) :
    (unitVerified a s).store = s.store ∧ (unitMismatched a s).store = s.store := by
  unfold unitVerified unitMismatched
  constructor
  · dsimp only
    split_ifs
    · simp
    · simp [endJob_store]
  · split_ifs
    · simp [endJob_store]
    · simp

theorem writesUnit_storeUnitComplete {readBack : List Byte} (h : exec (.storeUnitComplete readBack) s = .next t) :
    WritesUnit s t := by
  change execStoreUnitComplete readBack s = .next t at h
  unfold execStoreUnitComplete at h
  split at h
  · cases h
    exact .inl rfl
  next a ha =>
    split at h
    · cases h
      exact .inl rfl
    next address bytes hu =>
      split_ifs at h with hlen hend hsame
      · cases h
        exact .inl rfl
      all_goals
        cases h
        refine .inr ⟨a, _, ha, hu, fun x hx => ?_⟩
        have hread := Memory.read_writeBytes_other (m := s.store) (bs := readBack) (by simpa [not_not.mp hlen] using hx)
        simpa [unitDone_store] using hread

theorem writesUnit_checkResetLong (s : State) :
    WritesUnit s (onButton .long (fun t => if t.awake then panelRestart t else t) s) := by
  have hrestart (u : State) : WritesUnit u (if u.awake then panelRestart u else u) := by
    split_ifs
    · exact (writesUnit_cutUnit u).congr rfl rfl (by simp [panelRestart, startAfresh, State.cold])
    · exact .inl rfl
  unfold onButton
  split
  next x rest hr =>
    split_ifs
    · exact (hrestart (takeEvent .long rest s)).congr (by simp) (by simp) (by simp)
    · exact .inl rfl
  · exact .inl rfl

theorem writesUnit_next {u : State} (h : (Host.Outcome.next u : Answer) = .next t) (hu : WritesUnit s u) : WritesUnit s t := by
  cases h
  exact hu

/-- A park that may be complete after an operation that leaves the store alone. -/
theorem writesUnit_done_finishPark {u : State} (hstore : u.store = s.store) (hstc : u.stc.active = s.stc.active)
    (h : done (finishPark u) = .next t) : WritesUnit s t := by
  cases h
  exact (writesUnit_finishPark u).congr hstore hstc (by simp)

theorem writesUnit_putGauge {g : GaugeId} {r : Gauge} (h : putGauge g r s = .next t) : WritesUnit s t :=
  writesUnit_done_finishPark (u := s.setGauge g r) rfl rfl h

theorem writesUnit_homingStep {g : GaugeId} {closed : Bool} (h : execHomingStep g closed s = .next t) :
    WritesUnit s t := by
  unfold execHomingStep at h
  dsimp only at h
  split_ifs at h
  · exact writesUnit_done_finishPark (by simp) (by simp) h
  · exact writesUnit_done_finishPark (by simp) (by simp) h
  · exact writesUnit_next h (.inl rfl)
  · exact writesUnit_next h (.inl rfl)

theorem writesUnit_homingLiftStep {g : GaugeId} {closed : Bool} (h : execHomingLiftStep g closed s = .next t) :
    WritesUnit s t := by
  unfold execHomingLiftStep at h
  dsimp only at h
  split at h
  · split_ifs at h
    · exact writesUnit_done_finishPark (by simp) (by simp) h
    · exact writesUnit_next h (.inl rfl)
    · exact writesUnit_next h (.inl rfl)
  · exact writesUnit_next h (.inl rfl)

theorem writesUnit_keepAliveSupplyLost (h : execKeepAliveSupplyLost s = .next t) : WritesUnit s t := by
  unfold execKeepAliveSupplyLost at h
  split_ifs at h
  · exact writesUnit_next h (.inl rfl)
  · exact writesUnit_next h ((writesUnit_cutUnit s).congr rfl rfl rfl)

theorem writesUnit_endCourtesy {c : Prop} [Decidable c] (h : (if c then done (endCourtesy s) else .next s) = .next t) :
    WritesUnit s t := by
  split_ifs at h
  · exact writesUnit_next h (.inl (by simp [endCourtesy_store]))
  · exact writesUnit_next h (.inl rfl)

theorem writesUnit_saveWaitExpiry (h : execSaveWaitExpiry s = .next t) : WritesUnit s t := by
  unfold execSaveWaitExpiry at h
  split_ifs at h
  · exact writesUnit_done_finishPark (by simp) (by simp) h
  · exact writesUnit_next h (.inl rfl)

theorem writesUnit_exec {c : Instr} (h : exec c s = .next t) : WritesUnit s t := by
  by_cases hc : mayStore c = false
  · exact .inl (store_eq_of_exec hc h)
  · cases c with
    | storeUnitComplete readBack => exact writesUnit_storeUnitComplete h
    | keepAliveSupplyLost => exact writesUnit_keepAliveSupplyLost h
    | checkResetLong => exact writesUnit_next h (writesUnit_checkResetLong s)
    | courtesyTimerExpiry | courtesyCapExpiry => exact writesUnit_endCourtesy h
    | saveWaitExpiry => exact writesUnit_saveWaitExpiry h
    | homingStep g closed => exact writesUnit_homingStep h
    | homingLiftStep g closed => exact writesUnit_homingLiftStep h
    | gaugeRestBoundary g | gaugeStepEnd g closed | reversalRestBoundary g | sweepRestEnd g =>
      exact writesUnit_putGauge h
    | _ => exact absurd rfl hc

/-- Settles O12: of the twelve commands each ends a unit, cuts it, or carries it to its end at the entry to SLEEP. -/
theorem onlyUnitsWriteMemory : Obligations.OnlyUnitsWriteMemory := by
  intro c s t h
  refine ⟨fun hc => store_eq_of_exec hc h, ?_⟩
  rcases writesUnit_exec h with hw | ⟨b, v, hb, hv, hread⟩
  · exact ⟨fun a u x _ _ _ => by rw [hw], fun _ => hw⟩
  · refine ⟨fun a u x ha hu hx => ?_, fun ha => ?_⟩
    · obtain rfl := Option.some.inj (ha.symm.trans hb)
      obtain rfl := Option.some.inj (hu.symm.trans hv)
      exact hread x hx
    · rw [ha] at hb
      cases hb

end Sys2Proof.Machine
end

section
/-! SUPPORT. The conditions of warnings (R121 to R123): what they read, that they agree with the table, and what CLUSTER_WARNINGS
makes of the transmit queue (R14, R43). -/

namespace Sys2Proof.Machine

open Sys2Proof

variable {s t : State} {n : Warning}

/-! ## What a condition reads -/

/-- Two states agree on what the conditions of warnings read besides their own records (R121, R123, R177). -/
structure SameSources (s t : State) : Prop where
  state : t.power.state = s.power.state
  spoiled : t.power.patternSpoiled = s.power.patternSpoiled
  memory : t.power.patternMemory = s.power.patternMemory
  signals : t.signals = s.signals
  filters : t.input.filters = s.input.filters
  gauges : t.gdu.gauges = s.gdu.gauges
  fault : t.stc.fault = s.stc.fault
  valid : t.clock.valid = s.clock.valid
  reserve : t.settings.reserve = s.settings.reserve
  roster : t.link.roster = s.link.roster
  runningLong : t.wnu.runningLong = s.wnu.runningLong
  linkWindow : t.wnu.linkWindow = s.wnu.linkWindow
  beltWindow : t.wnu.beltWindow = s.wnu.beltWindow
  odoRestored : t.wnu.odoRestored = s.wnu.odoRestored
  configDefaults : t.wnu.configDefaults = s.wnu.configDefaults

theorem SameSources.refl (s : State) : SameSources s s := 
  ⟨rfl, rfl, rfl, rfl, rfl, rfl, rfl, rfl, rfl, rfl, rfl, rfl, rfl, rfl, rfl⟩

theorem SameSources.trans {u : State} (h : SameSources s t) (h' : SameSources t u) : SameSources s u where
  state := h'.state.trans h.state
  spoiled := h'.spoiled.trans h.spoiled
  memory := h'.memory.trans h.memory
  signals := h'.signals.trans h.signals
  filters := h'.filters.trans h.filters
  gauges := h'.gauges.trans h.gauges
  fault := h'.fault.trans h.fault
  valid := h'.valid.trans h.valid
  reserve := h'.reserve.trans h.reserve
  roster := h'.roster.trans h.roster
  runningLong := h'.runningLong.trans h.runningLong
  linkWindow := h'.linkWindow.trans h.linkWindow
  beltWindow := h'.beltWindow.trans h.beltWindow
  odoRestored := h'.odoRestored.trans h.odoRestored
  configDefaults := h'.configDefaults.trans h.configDefaults

theorem SameSources.signal (h : SameSources s t) (g : Signal) : t.signal g = s.signal g := by
  simp [State.signal, h.signals]

theorem SameSources.handed (h : SameSources s t) : t.handed = s.handed := by
  funext n
  cases n <;>
    simp only [State.handed, State.gaugeFault, State.lineLevel, h.runningLong, h.gauges, h.state, h.linkWindow, h.roster,
      h.beltWindow, h.filters, h.odoRestored, h.configDefaults, h.fault, h.valid] <;> rfl

theorem SameSources.heldCondition (h : SameSources s t) (n : Warning) (was : WarnState) (l : List Nat) :
    t.heldCondition n was l = s.heldCondition n was l :=
  heldCondition_congr h.memory h.reserve h.signal was l

theorem SameSources.definition (h : SameSources s t) : t.definition = s.definition := by
  funext n
  simp only [State.definition, PowerUnit.definition, h.spoiled, h.memory]

theorem SameSources.classOf (h : SameSources s t) : t.classOf = s.classOf := by
  funext n
  rw [State.classOf, State.classOf, h.definition]

theorem condition_congr (h : SameSources s t) (hstate : (t.wnu.record n).state = (s.wnu.record n).state) :
    condition n t = condition n s := by
  have hband : t.banded n = s.banded n := by
    funext a b
    rw [State.banded, State.banded, hstate]
  have htable : tableCondition n t = tableCondition n s := by
    cases n <;>
      simp only [tableCondition, State.engineRunning, State.moving, State.gaugeFault, State.lineLevel, hband, h.signal,
        h.runningLong, h.gauges, h.state, h.linkWindow, h.roster, h.beltWindow, h.filters, h.odoRestored,
        h.configDefaults, h.fault, h.valid, h.reserve]
  rw [condition, condition, htable, h.spoiled, h.handed, h.heldCondition, hstate]

theorem moveOf_congr (h : SameSources s t) (hstate : (t.wnu.record n).state = (s.wnu.record n).state) :
    t.moveOf n = s.moveOf n := by
  rw [State.moveOf, State.moveOf, condition_congr h hstate, hstate, h.definition]

theorem test_iff {r : SignalRecord} {p : Int → Bool} : r.test p = true ↔ Tested r (fun v => p v = true) := by
  unfold SignalRecord.test Tested
  cases hs : r.state <;> cases hv : r.value <;> simp

theorem running_iff : Running s ↔ s.engineRunning = true := test_iff.symm

theorem gaugeFault_iff : s.gaugeFault = true ↔ ∃ g, (s.gauge g).state = .faulted := by
  unfold State.gaugeFault
  rw [List.any_eq_true]
  refine ⟨fun ⟨x, hx, hf⟩ => ?_, fun ⟨g, hg⟩ => ⟨s.gauge g, ?_, by simp [hg]⟩⟩
  · obtain ⟨i, hi, rfl⟩ := List.mem_iff_getElem.mp hx
    have hi' : i < 6 := by simpa using hi
    have hix : ∃ g : GaugeId, g.ix.val = i := by
      interval_cases i
      exacts [⟨.speed, rfl⟩, ⟨.tacho, rfl⟩, ⟨.fuel, rfl⟩, ⟨.coolant, rfl⟩, ⟨.oil, rfl⟩, ⟨.volt, rfl⟩]
    obtain ⟨g, rfl⟩ := hix
    exact ⟨g, by simpa [State.gauge] using hf⟩
  · simp [State.gauge]

/-- The condition of R121 as the model works it out. -/
theorem tableHolds_iff (n : Warning) (s : State) :
    TableHolds n (s.wnu.record n).state s ↔ tableCondition n s = true := by
  unfold TableHolds
  cases n <;> simp only [tableCondition, running_iff, State.moving, State.banded, State.lineLevel, Bool.and_eq_true,
    Bool.or_eq_true, beq_iff_eq, test_iff, gaugeFault_iff, anyFlag, flag, bne_iff_ne, decide_eq_true_eq, Bool.false_eq_true,
    Option.isNone_iff_eq_none, Bool.not_eq_true', and_assoc, ne_eq]
  case coolantHot | fuelReserve | transHot => split_ifs <;> rw [test_iff] <;> simp
  case engineLinkLost => simp [or_assoc]

/-- A warning's condition as the pattern memory holds it. -/
theorem holds_iff (n : Warning) (s : State) : Holds n (s.wnu.record n).state s ↔ condition n s = true := by
  unfold Holds condition
  cases h : s.power.patternSpoiled <;> simp [h, tableHolds_iff, AsMade]

theorem holds_congr (h : SameSources s t) (n : Warning) (was : WarnState) : Holds n was t ↔ Holds n was s := by
  have htable : TableHolds n was t ↔ TableHolds n was s := by
    unfold TableHolds
    cases n <;>
      simp only [Running, State.gauge, h.signal, h.runningLong, h.gauges, h.state, h.linkWindow, h.roster, h.beltWindow,
        h.filters, h.odoRestored, h.configDefaults, h.fault, h.valid, h.reserve]
  unfold Holds
  rw [htable, h.heldCondition, h.handed, AsMade, AsMade, h.spoiled]

/-! ## Offers of one key (R14, R17) -/

theorem Frame.sameKey_congr {f g : Frame} (hid : g.id = f.id) (htarget : g.target = f.target) (h : Frame) :
    h.sameKey g = h.sameKey f := by
  rw [Frame.sameKey, Frame.sameKey, hid, htarget]

/-- The length of a queue once it holds an entry of a frame's key. -/
def slots (f : Frame) (q : List TxEntry) : Nat :=
  if q.any (fun e => e.frame.sameKey f) then q.length else q.length + 1

theorem length_le_slots (f : Frame) (q : List TxEntry) : q.length ≤ slots f q := by
  unfold slots
  split_ifs <;> omega

theorem slots_le_succ (f : Frame) (q : List TxEntry) : slots f q ≤ q.length + 1 := by
  unfold slots
  split_ifs <;> omega

theorem slots_congr {f g : Frame} (hid : g.id = f.id) (htarget : g.target = f.target) (q : List TxEntry) :
    slots g q = slots f q := by
  simp only [slots, Frame.sameKey_congr hid htarget]

theorem TxEntry.offered_sameKey (f : Frame) (e : TxEntry) :
    (e.offered f).frame.sameKey f = e.frame.sameKey f := by
  unfold TxEntry.offered
  split_ifs with hkey
  · rfl
  · rw [hkey]
    exact Frame.sameKey_iff.mpr ⟨rfl, rfl⟩
  · rfl

/-- An offer to a queue with room for it replaces the contents of its key's entry, or joins as a fresh one. -/
theorem txOffer_of_slots {f : Frame} {m : Nat} {q : List TxEntry} (h : slots f q ≤ 8) :
    (q.any (fun e => e.frame.sameKey f) = true ∧ (txOffer f m q).1 = q.map (TxEntry.offered f)) ∨
      (q.any (fun e => e.frame.sameKey f) = false ∧ (txOffer f m q).1.Perm (freshEntry f m :: q)) := by
  unfold slots at h
  unfold txOffer
  cases hany : q.any (fun e => e.frame.sameKey f) with
  | true => exact .inl ⟨rfl, rfl⟩
  | false =>
    rw [hany] at h
    have hroom : q.length < 8 := by simpa using h
    simp [hroom, txInsert_perm]

/-- Between two states only frames of one key have been offered, where the queue had room for one: the entries of other
keys stand as they did, and an entry of this key waits if it did before. -/
def OffersKey (f : Frame) (s t : State) : Prop :=
  slots f s.link.txQueue ≤ 8 →
    slots f t.link.txQueue = slots f s.link.txQueue ∧
      (∀ e : TxEntry, e.frame.sameKey f = false → (e ∈ t.link.txQueue ↔ e ∈ s.link.txQueue)) ∧
      ((∀ e ∈ s.link.txQueue, e.frame.sameKey f = true → e.underAttempt = false) →
        ∀ e ∈ t.link.txQueue, e.frame.sameKey f = true → e.underAttempt = false)

theorem OffersKey.of_txQueue {f : Frame} (h : t.link.txQueue = s.link.txQueue) : OffersKey f s t := by
  intro _
  rw [h]
  exact ⟨rfl, fun e _ => Iff.rfl, id⟩

theorem OffersKey.trans {f : Frame} {u : State} (h : OffersKey f s t) (h' : OffersKey f t u) : OffersKey f s u := by
  intro hroom
  obtain ⟨hslots, hother, hwait⟩ := h hroom
  obtain ⟨hslots', hother', hwait'⟩ := h' (hslots ▸ hroom)
  exact ⟨hslots'.trans hslots, fun e he => (hother' e he).trans (hother e he), fun hw => hwait' (hwait hw)⟩

theorem offersKey_offer (f : Frame) (s : State) : OffersKey f s (offer f s) := by
  intro hroom
  rw [offer_txQueue]
  rcases txOffer_of_slots (m := s.seq) hroom with ⟨hany, heq⟩ | ⟨hnone, hperm⟩
  · rw [heq]
    refine ⟨?_, fun e he => ⟨fun hmem => ?_, fun hmem => ?_⟩, fun hwait e hmem hkey => ?_⟩
    · simp [slots, List.any_map, Function.comp_def, TxEntry.offered_sameKey]
    · obtain ⟨x, hx, rfl⟩ := List.mem_map.mp hmem
      rw [TxEntry.offered_sameKey] at he
      simpa [TxEntry.offered, he] using hx
    · exact List.mem_map.mpr ⟨e, hmem, by simp [TxEntry.offered, he]⟩
    · obtain ⟨x, hx, rfl⟩ := List.mem_map.mp hmem
      rw [TxEntry.offered_sameKey] at hkey
      rw [TxEntry.offered_underAttempt]
      exact hwait x hx hkey
  · have hself : f.sameKey f = true := Frame.sameKey_iff.mpr ⟨rfl, rfl⟩
    have hmem (e : TxEntry) : e ∈ (txOffer f s.seq s.link.txQueue).1 ↔ e = freshEntry f s.seq ∨ e ∈ s.link.txQueue := by
      rw [hperm.mem_iff, List.mem_cons]
    refine ⟨?_, fun e he => ⟨fun h => ((hmem e).mp h).resolve_left ?_, fun h => (hmem e).mpr (.inr h)⟩,
      fun hwait e h hkey => ?_⟩
    · have hany : (txOffer f s.seq s.link.txQueue).1.any (fun e => e.frame.sameKey f) = true :=
        List.any_eq_true.mpr ⟨_, (hmem _).mpr (.inl rfl), hself⟩
      simp [slots, hany, hnone, hperm.length_eq]
    · rintro rfl
      exact Bool.noConfusion (he.symm.trans hself)
    · rcases (hmem e).mp h with rfl | h
      · rfl
      · exact hwait e h hkey

theorem OffersKey.congr {f g : Frame} (hid : g.id = f.id) (htarget : g.target = f.target) (h : OffersKey g s t) :
    OffersKey f s t := by
  unfold OffersKey at h ⊢
  simpa only [slots_congr hid htarget, Frame.sameKey_congr hid htarget] using h

/-- An offered frame waits, where there is room for its key and no entry of it is under attempt. -/
theorem queued_offer_of_slots {f : Frame} (hroom : slots f s.link.txQueue ≤ 8)
    (hwait : ∀ e ∈ s.link.txQueue, e.frame.sameKey f = true → e.underAttempt = false) : Queued (offer f s) f := by
  unfold Queued
  rw [offer_txQueue]
  rcases txOffer_of_slots (m := s.seq) hroom with ⟨hany, heq⟩ | ⟨-, hperm⟩
  · obtain ⟨e, he, hkey⟩ := List.any_eq_true.mp hany
    refine ⟨e.offered f, heq ▸ List.mem_map_of_mem he, ?_⟩
    simp [TxEntry.offered, hkey, hwait e he hkey]
  · exact ⟨freshEntry f s.seq, hperm.mem_iff.mpr (by simp), rfl⟩

/-! ## CLUSTER_WARNINGS (R43) -/

/-- The key of CLUSTER_WARNINGS: its id, and no target. -/
def warningsKey : Frame := { cls := 1, kind := .broadcast, source := 0, target := none, id := 0x62, data := [] }

/-- CLUSTER_WARNINGS as the model makes it. -/
def warningsFrame (s : State) : Frame :=
  s.ownFrame 1 .broadcast none 0x62
    [bitmapByte s.wnu.list 0, bitmapByte s.wnu.list 1, bitmapByte s.wnu.list 2,
      match (s.wnu.list.map s.classOf).min? with
      | some c => BitVec.ofNat 8 c
      | none => 0xFF]

theorem offerWarnings_eq (s : State) : offerWarnings s = offer (warningsFrame s) s := rfl

theorem warningsFrame_congr (hlist : t.wnu.list = s.wnu.list) (hclass : t.classOf = s.classOf)
    (hsettings : t.settings = s.settings) : warningsFrame t = warningsFrame s := by
  simp only [warningsFrame, State.ownFrame, hlist, hclass, hsettings]

theorem offersKey_offerWarnings (s : State) : OffersKey warningsKey s (offerWarnings s) :=
  OffersKey.congr (f := warningsKey) (g := warningsFrame s) rfl rfl (offersKey_offer _ s)

theorem warnSteps_offersKey : WarnSteps (OffersKey warningsKey) where
  refl _ := OffersKey.of_txQueue rfl
  trans := OffersKey.trans
  setWnu _ _ := OffersKey.of_txQueue rfl
  nextMoment _ := OffersKey.of_txQueue rfl
  nextDraw _ := OffersKey.of_txQueue rfl
  offerWarnings s := offersKey_offerWarnings s

/-- A bit of a sum of distinct powers of 2 tells whether its power is among them. -/
theorem testBit_sum_two_pow {l : List Nat} (h : l.Nodup) (i : Nat) :
    ((l.map (2 ^ ·)).sum).testBit i = decide (i ∈ l) := by
  have hsum : (l.map (2 ^ ·)).sum = ∑ j ∈ l.toFinset, 2 ^ j := (List.sum_toFinset _ h).symm
  rw [hsum, Bool.eq_iff_iff, ← Nat.mem_bitIndices, ← List.mem_toFinset, Finset.toFinset_bitIndices_sum_two_pow]
  simp

theorem Warning.ix_injective : Function.Injective Warning.ix := by
  intro a b h
  cases a <;> cases b <;> simp_all [Warning.ix]

/-- A flag of CLUSTER_WARNINGS tells whether its warning is on the list (R43, R193). -/
theorem bitmapByte_getLsbD {l : List Warning} (h : l.Nodup) {n : Warning} {k : Nat} (hk : n.ix.val / 8 = k) :
    (bitmapByte l k).getLsbD (n.ix.val % 8) = decide (n ∈ l) := by
  have hsum : (l.map (fun m => if m.ix.val / 8 = k then 2 ^ (m.ix.val % 8) else 0)).sum =
      (((l.filter (fun m => m.ix.val / 8 = k)).map (fun m => m.ix.val % 8)).map (2 ^ ·)).sum := by
    clear h
    induction l with
    | nil => rfl
    | cons m l ih =>
      rw [List.map_cons, List.sum_cons, List.filter_cons, ih]
      by_cases hm : m.ix.val / 8 = k <;> simp [hm]
  have hplace {a b : Warning} (ha : a.ix.val / 8 = k) (hb : b.ix.val / 8 = k) (hab : a.ix.val % 8 = b.ix.val % 8) :
      a = b := Warning.ix_injective (Fin.ext (by omega))
  have hnodup : ((l.filter (fun m => m.ix.val / 8 = k)).map (fun m => m.ix.val % 8)).Nodup := by
    refine (List.nodup_map_iff_inj_on (h.filter _)).mpr fun a ha b hb hab => hplace ?_ ?_ hab
    · simpa using (List.mem_filter.mp ha).2
    · simpa using (List.mem_filter.mp hb).2
  rw [bitmapByte, hsum, BitVec.getLsbD_ofNat, testBit_sum_two_pow hnodup]
  have hmem : n.ix.val % 8 ∈ (l.filter (fun m => m.ix.val / 8 = k)).map (fun m => m.ix.val % 8) ↔ n ∈ l := by
    refine ⟨fun hin => ?_, fun hin => List.mem_map.mpr ⟨n, List.mem_filter.mpr ⟨hin, by simpa using hk⟩, rfl⟩⟩
    obtain ⟨m, hm, hmod⟩ := List.mem_map.mp hin
    obtain ⟨hml, hmk⟩ := List.mem_filter.mp hm
    exact hplace (by simpa using hmk) hk hmod ▸ hml
  simp [hmem, Nat.mod_lt]

theorem warningsFrame_spec (h : s.wnu.list.Nodup) : WarningsFrame s (warningsFrame s) := by
  refine ⟨fun k => bitmapByte s.wnu.list k.val, _, rfl, fun n k hk => bitmapByte_getLsbD h hk, fun hnil => ?_,
    fun hne => ?_⟩
  · simp [hnil]
  · have hsome : ((s.wnu.list.map s.classOf).min?).isSome = true := by
      rw [List.isSome_min?_iff]
      simpa using hne
    obtain ⟨c, hc⟩ := Option.isSome_iff_exists.mp hsome
    obtain ⟨hin, hmin⟩ := List.min?_eq_some_iff.mp hc
    obtain ⟨n, hn, rfl⟩ := List.mem_map.mp hin
    have hnat : (BitVec.ofNat 8 (s.classOf n)).toNat = s.classOf n := by
      rw [BitVec.toNat_ofNat]
      exact Nat.mod_eq_of_lt ((s.classOf_le_three n).trans_lt (by decide))
    rw [hc]
    dsimp only
    rw [hnat]
    exact ⟨⟨n, hn, rfl⟩, fun m hm => hmin _ (List.mem_map_of_mem hm)⟩

end Sys2Proof.Machine
end

section
/-! SUPPORT. Conditions worked out together (R122, R124, R126): each warning makes the move its condition asks for, no other
changes, what conditions read stays, and CLUSTER_WARNINGS is offered of the list as it then stands. -/

namespace Sys2Proof.Machine

open Sys2Proof

variable {s t u : State} {n m : Warning} {raised : List Warning}

/-! ## What a move leaves alone -/

/-- The Warning Unit has moved warnings alone: its windows and marks are as they were. -/
def OnlyMoves (s t : State) : Prop :=
  t.wnu =
    { s.wnu with
      records := t.wnu.records, list := t.wnu.list, log := t.wnu.log, overflow := t.wnu.overflow
      counts := t.wnu.counts, chimes := t.wnu.chimes, tone := t.wnu.tone }

theorem OnlyMoves.refl (s : State) : OnlyMoves s s := rfl

theorem OnlyMoves.trans (h : OnlyMoves s t) (h' : OnlyMoves t u) : OnlyMoves s u := by
  unfold OnlyMoves at *
  rw [h', h]

theorem onlyMoves_noteHead (s : State) : OnlyMoves s (noteHead s) := by
  unfold noteHead
  rcases noteHead_cases s.classOf s.wnu with heq | ⟨n, -, -, -, heq⟩ <;> rw [heq] <;> rfl

theorem onlyMoves_announce (n : Warning) (s : State) : OnlyMoves s (announce n s) := by
  rw [announce_eq]
  refine OnlyMoves.trans (t := announcing n s) ?_ (onlyMoves_noteHead _)
  unfold OnlyMoves announcing
  rw [chimeForWarning_wnu, countOccurrence_wnu, logAppend_wnu]
  simp [WarningUnit.setRecord]

theorem onlyMoves_leaveList (n : Warning) (s : State) : OnlyMoves s (leaveList n s) := by
  rw [leaveList_eq]
  refine OnlyMoves.trans (t := leaving n s) ?_ (onlyMoves_noteHead _)
  unfold OnlyMoves
  rw [leaving_wnu]
  rfl

theorem onlyMoves_applyMove (n : Warning) (s : State) : OnlyMoves s (applyMove n s) := by
  have hput (r : WarningRecord) : OnlyMoves s (noteHead (s.setWnu (s.wnu.setRecord n r))) :=
    OnlyMoves.trans (t := s.setWnu (s.wnu.setRecord n r)) rfl (onlyMoves_noteHead _)
  unfold applyMove
  dsimp only
  cases s.moveOf n with
  | stay => exact OnlyMoves.refl s
  | announce => exact onlyMoves_announce n s
  | leave => exact onlyMoves_leaveList n s
  | qualify | drop | clear | restore => exact hput _

theorem onlyMoves_applyLoud (raised : List Warning) (n : Warning) (s : State) :
    OnlyMoves s (applyLoud raised n s) := by
  unfold applyLoud
  split_ifs
  · exact onlyMoves_announce n s
  · exact onlyMoves_applyMove n s

theorem onlyMoves_foldl {f : State → Warning → State} (hf : ∀ s n, OnlyMoves s (f s n)) (l : List Warning) (s : State) :
    OnlyMoves s (l.foldl f s) := by
  induction l generalizing s with
  | nil => exact OnlyMoves.refl s
  | cons n l ih => exact (hf s n).trans (ih (f s n))

theorem onlyMoves_applyTogether (raised loud : List Warning) (s : State) : OnlyMoves s (applyTogether raised loud s) := by
  unfold applyTogether
  split
  · exact OnlyMoves.refl s
  · exact onlyMoves_applyLoud raised _ s
  · exact OnlyMoves.trans (t := s.nextDraw) (by simp [OnlyMoves])
      (onlyMoves_foldl (fun x n => onlyMoves_applyLoud raised n x) _ _)

theorem onlyMoves_evalTogether (raised ws : List Warning) (s : State) : OnlyMoves s (evalTogether raised ws s) := by
  unfold evalTogether
  split_ifs
  · exact (onlyMoves_foldl (fun x n => onlyMoves_applyMove n x) _ s).trans (onlyMoves_applyTogether raised _ _)
  · exact OnlyMoves.refl s

/-- What conditions read is not the Warning Unit's to change, but for its windows and marks. -/
theorem SameSources.of_onlyMoves (h : OnlyMoves s t) (hlink : OnlyOffers s t) (hpower : t.power = s.power)
    (hsignals : t.signals = s.signals) (hinput : t.input = s.input) (hgdu : t.gdu = s.gdu) (hstc : t.stc = s.stc)
    (hclock : t.clock = s.clock) (hsettings : t.settings = s.settings) : SameSources s t where
  state := by rw [hpower]
  spoiled := by rw [hpower]
  memory := by rw [hpower]
  signals := hsignals
  filters := by rw [hinput]
  gauges := by rw [hgdu]
  fault := by rw [hstc]
  valid := by rw [hclock]
  reserve := by rw [hsettings]
  roster := by rw [hlink.1]
  runningLong := by rw [h]
  linkWindow := by rw [h]
  beltWindow := by rw [h]
  odoRestored := by rw [h]
  configDefaults := by rw [h]

theorem sameSources_applyLoud (raised : List Warning) (n : Warning) (s : State) :
    SameSources s (applyLoud raised n s) :=
  SameSources.of_onlyMoves (onlyMoves_applyLoud raised n s) (warnSteps_onlyOffers.applyLoud raised n s) (by simp) (by simp)
    (by simp) (by simp) (by simp) (by simp) (by simp)

/-! ## The other warnings -/

/-- What happened did not concern a warning: its record, its count and its place on or off the list are as they were; on
the list its head mark and its 4 s may have begun (R128). -/
structure Elsewhere (n : Warning) (s t : State) : Prop where
  same : SameRecord n s t
  listed : n ∈ t.wnu.list ↔ n ∈ s.wnu.list
  count : t.wnu.counts[n.ix] = s.wnu.counts[n.ix]
  off : n ∉ s.wnu.list → t.wnu.record n = s.wnu.record n

theorem Elsewhere.of_eq (hrec : t.wnu.records = s.wnu.records) (hlist : t.wnu.list = s.wnu.list)
    (hcount : t.wnu.counts = s.wnu.counts) (n : Warning) : Elsewhere n s t :=
  have hrecord : t.wnu.record n = s.wnu.record n := by simp [WarningUnit.record, hrec]
  ⟨SameRecord.of_record hrecord, by rw [hlist], by rw [hcount], fun _ => hrecord⟩

theorem Elsewhere.of_wnu (h : t.wnu = s.wnu) (n : Warning) : Elsewhere n s t :=
  Elsewhere.of_eq (by rw [h]) (by rw [h]) (by rw [h]) n

theorem Elsewhere.refl (n : Warning) (s : State) : Elsewhere n s s := Elsewhere.of_wnu rfl n

theorem Elsewhere.trans (h : Elsewhere n s t) (h' : Elsewhere n t u) : Elsewhere n s u where
  same := h.same.trans h'.same
  listed := h'.listed.trans h.listed
  count := h'.count.trans h.count
  off hoff := (h'.off (h.listed.not.mpr hoff)).trans (h.off hoff)

theorem Elsewhere.state (h : Elsewhere n s t) : (t.wnu.record n).state = (s.wnu.record n).state := h.same.state

theorem Elsewhere.unmoved (h : Elsewhere n s t) : Unmoved n s t := ⟨h.same, h.count⟩

theorem elsewhere_noteHead (n : Warning) (s : State) : Elsewhere n s (noteHead s) := by
  refine ⟨sameRecord_noteHead n s, ?_, ?_, fun hoff => ?_⟩ <;> unfold noteHead <;>
    rcases noteHead_cases s.classOf s.wnu with heq | ⟨m, hhead, -, -, heq⟩ <;> rw [heq] <;> try rfl
  have hne : n ≠ m := fun h => hoff (h ▸ (headUnacknowledged_eq_some hhead).1)
  exact WarningUnit.record_setRecord_other s.wnu _ hne

theorem count_set_other {counts : Vector Nat 24} {k : Nat} (h : n ≠ m) :
    (counts.set m.ix k)[n.ix] = counts[n.ix] := by
  have hix : m.ix.val ≠ n.ix.val := fun hv => h (Warning.ix_injective (Fin.ext hv.symm))
  simp [hix]

theorem announcing_counts (n : Warning) (s : State) :
    (announcing n s).wnu.counts = s.wnu.counts.set n.ix (min (s.wnu.counts[n.ix] + 1) 255) := by
  unfold announcing
  rw [chimeForWarning_wnu, countOccurrence_wnu, logAppend_wnu]
  simp

theorem elsewhere_announce (h : n ≠ m) (s : State) : Elsewhere n s (announce m s) := by
  refine Elsewhere.trans (t := announcing m s) ?_ (elsewhere_noteHead n _)
  have hrecord : (announcing m s).wnu.record n = s.wnu.record n := by
    have h' := WarningUnit.record_setRecord_other s.wnu (announcedRecord m s.moment) h
    simpa [WarningUnit.record, (announcing_records m s).1] using h'
  refine ⟨SameRecord.of_record hrecord, ?_, ?_, fun _ => hrecord⟩
  · rw [(announcing_records m s).2, mem_listInsert]
    simp [h]
  · rw [announcing_counts]
    exact count_set_other h

theorem elsewhere_leaveList (h : n ≠ m) (s : State) : Elsewhere n s (leaveList m s) := by
  refine Elsewhere.trans (t := leaving m s) ?_ (elsewhere_noteHead n _)
  refine ⟨SameRecord.of_record (leaving_record_other h s), ?_, ?_, fun _ => leaving_record_other h s⟩ <;>
    rw [leaving_wnu]
  · simp [h]
  · rfl

theorem elsewhere_setRecord (h : n ≠ m) (r : WarningRecord) (s : State) :
    Elsewhere n s (noteHead (s.setWnu (s.wnu.setRecord m r))) := by
  refine Elsewhere.trans (t := s.setWnu (s.wnu.setRecord m r)) ?_ (elsewhere_noteHead n _)
  have hrecord := WarningUnit.record_setRecord_other s.wnu r h
  exact ⟨SameRecord.of_record hrecord, Iff.rfl, rfl, fun _ => hrecord⟩

theorem elsewhere_applyMove (h : n ≠ m) (s : State) : Elsewhere n s (applyMove m s) := by
  unfold applyMove
  dsimp only
  cases s.moveOf m with
  | stay => exact Elsewhere.refl n s
  | announce => exact elsewhere_announce h s
  | leave => exact elsewhere_leaveList h s
  | qualify | drop | clear | restore => exact elsewhere_setRecord h _ s

theorem elsewhere_applyLoud (h : n ≠ m) (s : State) : Elsewhere n s (applyLoud raised m s) := by
  unfold applyLoud
  split_ifs
  · exact elsewhere_announce h s
  · exact elsewhere_applyMove h s

/-! ## The move -/

/-- A warning of some definition has made a move (R124 to R126, R129). -/
def MadeMove (d : WarningDefinition) (n : Warning) (s t : State) (move : WarnMove) : Prop :=
  let r := s.wnu.record n
  match move with
  | .stay => Unmoved n s t
  | .qualify => RecordIs n t { r with state := .pending, timer := some d.qualifyMs }
  | .drop => RecordIs n t { r with state := .inactive, timer := none }
  | .announce =>
    (∃ moment, RecordIs n t (announcedRecord n moment)) ∧ n ∈ t.wnu.list ∧
      t.wnu.counts[n.ix] = min (s.wnu.counts[n.ix] + 1) 255
  | .clear => RecordIs n t (clearingRecord d.releaseMs r)
  | .leave => t.wnu.record n = inactiveRecord ∧ n ∉ t.wnu.list
  | .restore => RecordIs n t (restoredRecord d.cls r)

theorem madeMove_announce (d : WarningDefinition) (n : Warning) (s : State) : MadeMove d n s (announce n s) .announce := by
  have hnote := elsewhere_noteHead n (announcing n s)
  refine ⟨⟨s.moment, recordIs_announce n s⟩, ?_, ?_⟩ <;> rw [announce_eq]
  · rw [hnote.listed, (announcing_records n s).2]
    exact mem_listInsert.mpr (.inl rfl)
  · rw [hnote.count, announcing_counts]
    simp

theorem madeMove_leaveList (d : WarningDefinition) (n : Warning) (s : State) : MadeMove d n s (leaveList n s) .leave := by
  have hnote := elsewhere_noteHead n (leaving n s)
  have hoff : n ∉ (leaving n s).wnu.list := by
    rw [leaving_wnu]
    simp
  exact ⟨(hnote.off hoff).trans (leaving_record n s), hnote.listed.not.mpr hoff⟩

theorem recordIs_setRecord (n : Warning) (r : WarningRecord) (s : State) :
    RecordIs n (noteHead (s.setWnu (s.wnu.setRecord n r))) r := by
  refine RecordIs.trans (t := s.setWnu (s.wnu.setRecord n r)) ?_ (sameRecord_noteHead n _)
  rw [RecordIs, State.setWnu_wnu, WarningUnit.record_setRecord_same]

theorem madeMove_applyMove (n : Warning) (s : State) :
    MadeMove (s.definition n) n s (applyMove n s) (s.moveOf n) := by
  unfold applyMove
  dsimp only
  cases s.moveOf n with
  | stay => exact (Elsewhere.refl n s).unmoved
  | announce => exact madeMove_announce _ n s
  | leave => exact madeMove_leaveList _ n s
  | qualify | drop | clear | restore => exact recordIs_setRecord n _ s

/-- The move of a warning that R130 raises, or that its condition asks for. -/
def loudMove (raised : List Warning) (s : State) (n : Warning) : WarnMove :=
  if raised.contains n then .announce else s.moveOf n

theorem loudMove_of_not_mem (h : n ∉ raised) : loudMove raised s n = s.moveOf n := if_neg (by simpa using h)

theorem madeMove_applyLoud (raised : List Warning) (n : Warning) (s : State) :
    MadeMove (s.definition n) n s (applyLoud raised n s) (loudMove raised s n) := by
  unfold applyLoud loudMove
  split_ifs
  · exact madeMove_announce _ n s
  · exact madeMove_applyMove n s

theorem RecordIs.congr {x y : WarningRecord} (h : RecordIs n t x)
    (hxy : y = { x with headed := y.headed, autoAck := y.autoAck }) : RecordIs n t y := by
  rw [RecordIs] at h ⊢
  rw [hxy, h]

/-- A move after what did not concern the warning, and before more of it. -/
theorem MadeMove.between {v : State} {d : WarningDefinition} {move : WarnMove} (h : MadeMove d n t u move)
    (hbefore : Elsewhere n s t) (hafter : Elsewhere n u v) : MadeMove d n s v move := by
  have hsame : s.wnu.record n =
      { t.wnu.record n with headed := (s.wnu.record n).headed, autoAck := (s.wnu.record n).autoAck } := by
    have := hbefore.same
    rw [SameRecord, RecordIs] at this
    rw [this]
  cases move with
  | stay => exact ⟨(hbefore.same.trans h.1).trans hafter.same, hafter.count.trans (h.2.trans hbefore.count)⟩
  | announce =>
    obtain ⟨⟨moment, hrec⟩, hlist, hcount⟩ := h
    exact ⟨⟨moment, hrec.trans hafter.same⟩, hafter.listed.mpr hlist, by rw [hafter.count, hcount, hbefore.count]⟩
  | leave =>
    obtain ⟨hrec, hlist⟩ := h
    exact ⟨(hafter.off hlist).trans hrec, hafter.listed.not.mpr hlist⟩
  | qualify | drop =>
    refine RecordIs.congr (RecordIs.trans h hafter.same) ?_
    rw [hsame]
  | clear | restore =>
    refine RecordIs.congr (RecordIs.trans h hafter.same) ?_
    rw [hsame]
    rfl

/-! ## Moves one after the other -/

theorem SameSources.loudMove (h : SameSources s t) (hn : Elsewhere n s t) : loudMove raised t n = loudMove raised s n := by
  rw [Machine.loudMove, Machine.loudMove, moveOf_congr h hn.state]

theorem sameSources_foldl_applyLoud (raised l : List Warning) (s : State) :
    SameSources s (l.foldl (fun x n => applyLoud raised n x) s) := by
  induction l generalizing s with
  | nil => exact SameSources.refl s
  | cons n l ih => exact (sameSources_applyLoud raised n s).trans (ih _)

theorem elsewhere_foldl_applyLoud {l : List Warning} (h : n ∉ l) (s : State) :
    Elsewhere n s (l.foldl (fun x k => applyLoud raised k x) s) := by
  induction l generalizing s with
  | nil => exact Elsewhere.refl n s
  | cons k l ih =>
    exact (elsewhere_applyLoud (List.ne_of_not_mem_cons h) s).trans (ih (List.not_mem_of_not_mem_cons h) _)

/-- Each of several warnings that move one after the other makes the move that it had at the beginning. -/
theorem madeMove_foldl_applyLoud {l : List Warning} (hl : l.Nodup) (hn : n ∈ l) (s : State) :
    MadeMove (s.definition n) n s (l.foldl (fun x k => applyLoud raised k x) s) (loudMove raised s n) := by
  induction l generalizing s with
  | nil => exact absurd hn List.not_mem_nil
  | cons k l ih =>
    obtain ⟨hk, hl⟩ := List.nodup_cons.mp hl
    have hsources := sameSources_applyLoud raised k s
    rcases List.mem_cons.mp hn with rfl | hnl
    · exact (madeMove_applyLoud raised n s).between (Elsewhere.refl n s) (elsewhere_foldl_applyLoud hk _)
    · have hother : Elsewhere n s (applyLoud raised k s) := elsewhere_applyLoud (by rintro rfl; exact hk hnl) s
      rw [← hsources.loudMove hother, ← hsources.definition]
      exact (ih hl hnl (applyLoud raised k s)).between hother (Elsewhere.refl n _)

/-! ## The offer behind a change of the list (R43) -/

/-- CLUSTER_WARNINGS of the list as it stands waits. -/
def ListOffered (s : State) : Prop := Queued s (warningsFrame s)

/-- The queue has room for CLUSTER_WARNINGS, and no entry of it is under attempt. -/
def WarningsRoom (s : State) : Prop :=
  slots warningsKey s.link.txQueue ≤ 8 ∧
    ∀ e ∈ s.link.txQueue, e.frame.sameKey warningsKey = true → e.underAttempt = false

theorem WarningsRoom.of_roomFor (h : RoomFor s 0x62) : WarningsRoom s := by
  obtain ⟨hlen, hnone⟩ := h
  refine ⟨(slots_le_succ _ _).trans (by omega), fun e he hkey => ?_⟩
  exact absurd (Frame.sameKey_iff.mp hkey).1 (hnone e he)

theorem WarningsRoom.after (h : WarningsRoom s) (hoffers : OffersKey warningsKey s t) : WarningsRoom t := by
  obtain ⟨hslots, -, hwait⟩ := hoffers h.1
  exact ⟨hslots ▸ h.1, hwait h.2⟩

theorem listOffered_offerWarnings (h : WarningsRoom s) : Queued (offerWarnings s) (warningsFrame s) := by
  rw [offerWarnings_eq]
  refine queued_offer_of_slots ?_ fun e he hkey => h.2 e he ?_
  · rw [slots_congr (f := warningsKey) (g := warningsFrame s) rfl rfl]
    exact h.1
  · rwa [Frame.sameKey_congr (f := warningsKey) (g := warningsFrame s) rfl rfl] at hkey

theorem ListOffered.congr (h : Queued s (warningsFrame t)) (hqueue : t.link.txQueue = s.link.txQueue) : ListOffered t := by
  obtain ⟨e, he, hframe⟩ := h
  exact ⟨e, hqueue ▸ he, hframe⟩

theorem listOffered_announce (h : WarningsRoom s) (n : Warning) : ListOffered (announce n s) := by
  have hoffered := listOffered_offerWarnings
    (s := (s.setWnu { s.wnu.setRecord n (announcedRecord n s.moment) with
      list := listInsert s.classOf n s.wnu.list }).nextMoment) h
  rw [← warningsFrame_congr (t := announce n s) ?_ (State.classOf_of_power (by simp)) (by simp)] at hoffered
  · refine ListOffered.congr hoffered ?_
    simp [announce]
  · rw [announce_eq, noteHead]
    rcases noteHead_cases (announcing n s).classOf (announcing n s).wnu with heq | ⟨m, -, -, -, heq⟩ <;>
      rw [State.setWnu_wnu, heq]
    · exact (announcing_records n s).2
    · exact (announcing_records n s).2

theorem listOffered_leaveList (h : WarningsRoom s) (n : Warning) : ListOffered (leaveList n s) := by
  have hlist (w : WarningUnit) : (w.cancelLeft n).list = w.list := by
    rw [WarningUnit.cancelLeft, stopSounding_wnu]
  have hoffered := listOffered_offerWarnings
    (s := s.setWnu (WarningUnit.cancelLeft
      { s.wnu.setRecord n inactiveRecord with list := s.wnu.list.filter (· != n) } n)) h
  rw [← warningsFrame_congr (t := leaveList n s) ?_ (State.classOf_of_power (by simp)) (by simp)] at hoffered
  · refine ListOffered.congr hoffered ?_
    simp [leaveList]
  · rw [leaveList_eq, noteHead]
    rcases noteHead_cases (leaving n s).classOf (leaving n s).wnu with heq | ⟨m, -, -, -, heq⟩ <;>
      rw [State.setWnu_wnu, heq, State.setWnu_wnu, hlist]
    · rw [leaving_wnu]
    · rw [WarningUnit.setRecord_list, leaving_wnu]

theorem listOffered_applyLoud (h : WarningsRoom s) (hloud : (loudMove raised s n).listChange = true) :
    ListOffered (applyLoud raised n s) := by
  unfold loudMove at hloud
  unfold applyLoud
  split_ifs with hraised
  · exact listOffered_announce h n
  · rw [if_neg hraised] at hloud
    unfold applyMove
    dsimp only
    cases hmove : s.moveOf n with
    | announce => exact listOffered_announce h n
    | leave => exact listOffered_leaveList h n
    | stay | qualify | drop | clear | restore =>
      rw [hmove] at hloud
      exact Bool.noConfusion hloud

theorem listOffered_foldl_applyLoud {l : List Warning} (hl : l.Nodup) (hne : l ≠ []) (h : WarningsRoom s)
    (hloud : ∀ n ∈ l, (loudMove raised s n).listChange = true) :
    ListOffered (l.foldl (fun x n => applyLoud raised n x) s) := by
  induction l generalizing s with
  | nil => exact absurd rfl hne
  | cons n l ih =>
    obtain ⟨hn, hl⟩ := List.nodup_cons.mp hl
    rcases eq_or_ne l [] with rfl | hne'
    · exact listOffered_applyLoud h (hloud n List.mem_cons_self)
    · refine ih hl hne' (h.after (warnSteps_offersKey.applyLoud raised n s)) fun m hm => ?_
      rw [(sameSources_applyLoud raised n s).loudMove (elsewhere_applyLoud (by rintro rfl; exact hn hm) s)]
      exact hloud m (List.mem_cons_of_mem n hm)

/-! ## Conditions worked out together -/

theorem applyLoud_nil (n : Warning) (s : State) : applyLoud [] n s = applyMove n s := rfl

theorem loudMove_nil (s : State) (n : Warning) : loudMove [] s n = s.moveOf n := rfl

/-- Warnings that change together change in some order (R131). -/
theorem exists_perm_applyTogether (raised loud : List Warning) (s : State) :
    ∃ (l : List Warning) (u : State), l.Perm loud ∧ u.wnu = s.wnu ∧ u.link = s.link ∧ SameSources s u ∧
      applyTogether raised loud s = l.foldl (fun x n => applyLoud raised n x) u := by
  unfold applyTogether
  split
  · exact ⟨[], s, List.Perm.nil, rfl, rfl, SameSources.refl s, rfl⟩
  · exact ⟨[_], s, List.Perm.refl _, rfl, rfl, SameSources.refl s, rfl⟩
  · refine ⟨_, s.nextDraw, arrange_perm _ _, by simp, by simp, ?_, rfl⟩
    exact SameSources.of_onlyMoves (OnlyMoves.refl s) (warnSteps_onlyOffers.nextDraw s) rfl rfl rfl rfl rfl rfl rfl

/-- What a working out of conditions comes to: each warning makes its move, each that R130 raises is announced, no other
changes, and a change of the list is offered. -/
structure WorkedOut (raised ws : List Warning) (s t : State) : Prop where
  moves : ∀ n ∈ ws, MadeMove (s.definition n) n s t (s.moveOf n)
  raises : ∀ n ∈ raised, MadeMove (s.definition n) n s t .announce
  others : ∀ n, n ∉ ws → n ∉ raised → Elsewhere n s t
  sources : SameSources s t
  settings : t.settings = s.settings
  queue : OffersKey warningsKey s t
  offered : WarningsRoom s → (raised ≠ [] ∨ ∃ n ∈ ws, (s.moveOf n).listChange = true) → ListOffered t

theorem workedOut_evalTogether {ws : List Warning} (hpowered : s.powered = true) (hraised : RaisedOk raised s)
    (hws : ws.Nodup) (hservice : ∀ n ∈ ws, n ∉ raised) : WorkedOut raised ws s (evalTogether raised ws s) := by
  have hqueue : OffersKey warningsKey s (evalTogether raised ws s) := warnSteps_offersKey.evalTogether raised ws s
  have hsettings : (evalTogether raised ws s).settings = s.settings := by simp
  unfold evalTogether at hqueue hsettings ⊢
  rw [if_pos hpowered] at hqueue hsettings ⊢
  dsimp only at hqueue hsettings ⊢
  set quiet := ws.filter (fun n => !(s.moveOf n).listChange)
  set loud := ws.filter (fun n => (s.moveOf n).listChange) ++ raised
  set v := quiet.foldl (fun x n => applyMove n x) s with hv
  change v = quiet.foldl (fun x n => applyLoud [] n x) s at hv
  obtain ⟨l, u, hperm, huw, hul, hus, heq⟩ := exists_perm_applyTogether raised loud v
  rw [heq] at hqueue hsettings ⊢
  have hquiet : quiet.Nodup := hws.filter _
  have hloud : loud.Nodup := by
    refine List.nodup_append.mpr ⟨hws.filter _, hraised.1, fun a ha b hb hab => ?_⟩
    exact hservice a (List.mem_of_mem_filter ha) (hab ▸ hb)
  have hsv : SameSources s v := hv ▸ sameSources_foldl_applyLoud [] quiet s
  have hsu : SameSources s u := hsv.trans hus
  have hvu (n : Warning) : Elsewhere n v u := Elsewhere.of_wnu huw n
  have hbefore {n : Warning} (hn : n ∉ quiet) : Elsewhere n s u :=
    (hv ▸ elsewhere_foldl_applyLoud hn s : Elsewhere n s v).trans (hvu n)
  have hafter {n : Warning} (hn : n ∉ loud) : Elsewhere n u (l.foldl (fun x n => applyLoud raised n x) u) :=
    elsewhere_foldl_applyLoud (hperm.mem_iff.not.mpr hn) u
  have hmove {n : Warning} (hn : n ∈ loud) (hnq : n ∉ quiet) :
      MadeMove (s.definition n) n s (l.foldl (fun x n => applyLoud raised n x) u) (loudMove raised s n) := by
    rw [← hsu.loudMove (hbefore hnq), ← hsu.definition]
    exact (madeMove_foldl_applyLoud (hperm.nodup_iff.mpr hloud) (hperm.mem_iff.mpr hn) u).between (hbefore hnq)
      (Elsewhere.refl n _)
  refine ⟨fun n hn => ?_, fun n hn => ?_, fun n hn hnr => ?_, hsu.trans (sameSources_foldl_applyLoud raised l u),
    hsettings, hqueue, fun hroom hchange => ?_⟩
  · have hself : loudMove raised s n = s.moveOf n := loudMove_of_not_mem (hservice n hn)
    cases hlist : (s.moveOf n).listChange with
    | true =>
      rw [← hself]
      exact hmove (List.mem_append_left _ (List.mem_filter.mpr ⟨hn, hlist⟩)) (by simp [quiet, hlist])
    | false =>
      have hnl : n ∉ loud := by simp [loud, hlist, hservice n hn]
      have hq : n ∈ quiet := List.mem_filter.mpr ⟨hn, by simp [hlist]⟩
      have h := madeMove_foldl_applyLoud (raised := []) hquiet hq s
      rw [← hv, loudMove_nil] at h
      exact h.between (Elsewhere.refl n s) ((hvu n).trans (hafter hnl))
  · have hnq : n ∉ quiet := fun hq => hservice n (List.mem_of_mem_filter hq) hn
    have hself : loudMove raised s n = .announce := by simp [loudMove, hn]
    rw [← hself]
    exact hmove (List.mem_append_right _ hn) hnq
  · have hnq : n ∉ quiet := fun hq => hn (List.mem_of_mem_filter hq)
    have hnl : n ∉ loud := by simp [loud, hn, hnr]
    exact (hbefore hnq).trans (hafter hnl)
  · have hmoves : ∀ n ∈ loud, n ∉ quiet ∧ (loudMove raised s n).listChange = true := by
      intro n hn
      rcases List.mem_append.mp hn with hn | hn
      · obtain ⟨hn, hlist⟩ := List.mem_filter.mp hn
        exact ⟨by simp [quiet, hlist], by rwa [loudMove_of_not_mem (hservice n hn)]⟩
      · exact ⟨fun hq => hservice n (List.mem_of_mem_filter hq) hn, by simp [loudMove, hn, WarnMove.listChange]⟩
    have hne : loud ≠ [] := by
      rcases hchange with hr | ⟨n, hn, hlist⟩
      · simp [loud, hr]
      · exact List.ne_nil_of_mem (List.mem_append_left _ (List.mem_filter.mpr ⟨hn, hlist⟩))
    have hroomv : WarningsRoom v := by
      have : OffersKey warningsKey s v := warnSteps_offersKey.foldl (fun x n => warnSteps_offersKey.applyMove n x) quiet s
      exact hroom.after this
    have hroomu : WarningsRoom u := hroomv.after (OffersKey.of_txQueue (by rw [hul]))
    refine listOffered_foldl_applyLoud (hperm.nodup_iff.mpr hloud) (fun h => hne ?_) hroomu fun n hn => ?_
    · subst h
      exact hperm.symm.eq_nil
    · obtain ⟨hnq, hlist⟩ := hmoves n (hperm.mem_iff.mp hn)
      rwa [hsu.loudMove (hbefore hnq)]

/-! ## What it says of the warnings -/

/-- A state before conditions are worked out stands for an earlier one, as far as the warnings are concerned. -/
structure WarnBefore (s0 s : State) : Prop where
  records : s.wnu.records = s0.wnu.records
  list : s.wnu.list = s0.wnu.list
  counts : s.wnu.counts = s0.wnu.counts
  spoiled : s.power.patternSpoiled = s0.power.patternSpoiled
  room : RoomFor s0 0x62 → WarningsRoom s

/-- A state after conditions have been worked out still shows what was made of the warnings. -/
structure WarnShown (t t' : State) : Prop where
  elsewhere : ∀ n, Elsewhere n t t'
  list : t'.wnu.list = t.wnu.list
  sources : SameSources t t'
  settings : t'.settings = t.settings

/-- It also still holds the CLUSTER_WARNINGS that waits. -/
structure WarnAfter (t t' : State) : Prop extends WarnShown t t' where
  queue : ∀ f : Frame, f.id = 0x62 → Queued t f → Queued t' f

theorem WarnBefore.refl (s : State) : WarnBefore s s := ⟨rfl, rfl, rfl, rfl, WarningsRoom.of_roomFor⟩

theorem WarnBefore.of_wnu {s0 : State} (hwnu : s.wnu = s0.wnu) (hqueue : s.link.txQueue = s0.link.txQueue)
    (hspoiled : s.power.patternSpoiled = s0.power.patternSpoiled) : WarnBefore s0 s where
  records := by rw [hwnu]
  list := by rw [hwnu]
  counts := by rw [hwnu]
  spoiled := hspoiled
  room h := WarningsRoom.of_roomFor (by rwa [RoomFor, hqueue])

theorem WarnBefore.record {s0 : State} (h : WarnBefore s0 s) (n : Warning) : s.wnu.record n = s0.wnu.record n := by
  simp [WarningUnit.record, h.records]

theorem WarnBefore.elsewhere {s0 : State} (h : WarnBefore s0 s) (n : Warning) : Elsewhere n s0 s :=
  Elsewhere.of_eq h.records h.list h.counts n

theorem WarnBefore.warningInv {s0 : State} (h : WarnBefore s0 s) (hinv : WarningInv s0) : WarningInv s :=
  hinv.congr h.records h.list (by rw [AsMade, AsMade, h.spoiled]; exact id)

theorem WarnShown.refl (t : State) : WarnShown t t := ⟨fun n => Elsewhere.refl n t, rfl, SameSources.refl t, rfl⟩

theorem WarnShown.trans (h : WarnShown s t) (h' : WarnShown t u) : WarnShown s u where
  elsewhere n := (h.elsewhere n).trans (h'.elsewhere n)
  list := h'.list.trans h.list
  sources := h.sources.trans h'.sources
  settings := h'.settings.trans h.settings

theorem WarnAfter.refl (t : State) : WarnAfter t t := ⟨WarnShown.refl t, fun _ _ h => h⟩

theorem WarnAfter.trans (h : WarnAfter s t) (h' : WarnAfter t u) : WarnAfter s u where
  toWarnShown := h.toWarnShown.trans h'.toWarnShown
  queue f hf hq := h'.queue f hf (h.queue f hf hq)

theorem warnAfter_refresh (s : State) : WarnAfter s (refresh s) where
  elsewhere n := Elsewhere.of_wnu (by simp) n
  list := by simp
  sources := SameSources.of_onlyMoves (by simp [OnlyMoves]) (OnlyOffers.of_link (by simp)) (by simp) (by simp) (by simp)
    (by simp) (by simp) (by simp) (by simp)
  settings := by simp
  queue f _ := by simp [Queued]

/-- A move that a warning's condition asks for is what R124 and R126 say of it. -/
theorem moved_of_made {s0 t' : State} {c : Bool} (hcond : Holds n (s0.wnu.record n).state t' ↔ c = true)
    (hmade : MadeMove (t'.definition n) n s0 t' (warnMove (t'.definition n) (s0.wnu.record n).state c))
    (hoffered : (warnMove (t'.definition n) (s0.wnu.record n).state c).listChange = true → WarningsOffered s0 t') :
    Moved n s0 t' := by
  unfold Moved
  dsimp only
  rw [hcond]
  refine ⟨fun hst => ?inactive, fun hst => ?pending, fun hst => ?listed, fun hst => ?clearing⟩
  case inactive =>
    rw [hst] at hmade hoffered
    refine ⟨fun hc => ?_, fun hc hd => ?_, fun hc hd => ?_⟩
    · simpa [MadeMove, warnMove, hc] using hmade
    · simp only [warnMove, hc, hd, if_true] at hmade hoffered
      obtain ⟨⟨moment, hrec⟩, hlist, hcount⟩ := hmade
      rw [RecordIs] at hrec
      refine ⟨?_, ?_, ?_, hlist, hcount, hoffered rfl⟩ <;> rw [hrec] <;> rfl
    · simpa only [MadeMove, warnMove, hc, hd.ne', if_false] using hmade
  case pending =>
    rw [hst] at hmade
    exact ⟨fun hc => by simpa [MadeMove, restoredRecord, warnMove, hc] using hmade, fun hc => by simpa [MadeMove, restoredRecord, warnMove, hc] using hmade⟩
  case listed =>
    have hmv : warnMove (t'.definition n) (s0.wnu.record n).state c =
        if c then .stay else if (t'.definition n).releaseMs = 0 then .leave else .clear := by
      rcases hst with hst | hst <;> rw [hst] <;> cases c <;> rfl
    rw [hmv] at hmade hoffered
    refine ⟨fun hc => ?_, fun hc hd => ?_, fun hc hd => ?_⟩
    · simpa [MadeMove, hc] using hmade
    · simp only [hc, hd, if_true, if_false, Bool.false_eq_true] at hmade hoffered
      exact ⟨hmade.1, hmade.2, hoffered rfl⟩
    · simp only [hc, hd.ne', if_false, Bool.false_eq_true] at hmade
      exact hmade
  case clearing =>
    rw [hst] at hmade
    exact ⟨fun hc => by simpa [MadeMove, restoredRecord, warnMove, hc] using hmade, fun hc => by simpa [MadeMove, restoredRecord, warnMove, hc] using hmade⟩

/-- A move made by the condition of a state is what R124 and R126 say of it, seen from before and after. -/
theorem moved_of_madeMove {s0 t' : State} (hbefore : WarnBefore s0 s) (hafter : WarnShown t t')
    (hsources : SameSources s t) (hservice : n ≠ .serviceDue ∧ n ≠ .serviceSoon)
    (hmove : MadeMove (s.definition n) n s t (s.moveOf n))
    (hoffered : (s.moveOf n).listChange = true → WarningsOffered s0 t') : Moved n s0 t' := by
  have hall := hsources.trans hafter.sources
  have hstate : (s.wnu.record n).state = (s0.wnu.record n).state := by rw [hbefore.record]
  have hmoveOf : s.moveOf n = warnMove (t'.definition n) (s0.wnu.record n).state (condition n s) := by
    rw [State.moveOf, if_neg (not_or.mpr hservice), hstate, hall.definition]
  rw [hmoveOf] at hmove hoffered
  rw [← hall.definition] at hmove
  refine moved_of_made ?_ (hmove.between (hbefore.elsewhere n) (hafter.elsewhere n)) hoffered
  rw [holds_congr hall, ← hstate, holds_iff]

/-- A change of the list that was offered, seen from before and after. -/
theorem warningsOffered_of_listOffered {s0 t' : State} (hbefore : WarnBefore s0 s) (hafter : WarnShown t t')
    (hqueue : RoomFor s0 0x62 → ∀ f : Frame, f.id = 0x62 → Queued t f → Queued t' f)
    (hinv : WarningInv s → WarningInv t) (h : WarningsRoom s → ListOffered t) : WarningsOffered s0 t' := by
  intro hinv0 hroom
  have hnodup : t'.wnu.list.Nodup := hafter.list ▸ (hinv (hbefore.warningInv hinv0)).1
  refine ⟨warningsFrame t', warningsFrame_spec hnodup, ?_⟩
  rw [warningsFrame_congr hafter.list hafter.sources.classOf hafter.settings]
  exact hqueue hroom _ rfl (h (hbefore.room hroom))

/-- Conditions worked out together, seen from before and after. -/
theorem WorkedOut.warningsMoved {ws : List Warning} {s0 t' : State} (h : WorkedOut raised ws s t)
    (hbefore : WarnBefore s0 s) (hafter : WarnShown t t')
    (hqueue : RoomFor s0 0x62 → ∀ f : Frame, f.id = 0x62 → Queued t f → Queued t' f)
    (hinv : WarningInv s → WarningInv t) (hservice : ∀ n ∈ ws, n ≠ .serviceDue ∧ n ≠ .serviceSoon) :
    WarningsMoved ws raised s0 t' ∧
      ∀ n ∈ raised, Announced n s0 t' ∧ ∃ moment, RecordIs n t' (announcedRecord n moment) := by
  have hoffered (hchange : raised ≠ [] ∨ ∃ n ∈ ws, (s.moveOf n).listChange = true) : WarningsOffered s0 t' :=
    warningsOffered_of_listOffered hbefore hafter hqueue hinv fun hroom => h.offered hroom hchange
  refine ⟨fun n => ⟨fun hn => ?_, fun hn hfree => ?_⟩, fun n hn => ?_⟩
  · exact moved_of_madeMove hbefore hafter h.sources (hservice n hn) (h.moves n hn) fun hlist =>
      hoffered (.inr ⟨n, hn, hlist⟩)
  · exact (((hbefore.elsewhere n).trans (h.others n hn hfree)).trans (hafter.elsewhere n)).unmoved
  · obtain ⟨⟨moment, hrec⟩, hlist, hcount⟩ := (h.raises n hn).between (hbefore.elsewhere n) (hafter.elsewhere n)
    refine ⟨⟨?_, ?_, ?_, hlist, hcount, hoffered (.inl (List.ne_nil_of_mem hn))⟩, moment, hrec⟩ <;>
      rw [RecordIs] at hrec <;> rw [hrec] <;> rfl

/-- The conditions of some warnings, worked out with nothing raised, where other frames are offered after that. -/
theorem warningsMoved_of_shown {ws : List Warning} {s0 t' : State} (hpowered : s.powered = true) (hws : ws.Nodup)
    (hservice : ∀ n ∈ ws, n ≠ .serviceDue ∧ n ≠ .serviceSoon) (hbefore : WarnBefore s0 s)
    (hafter : WarnShown (evalWarnings ws s) t')
    (hqueue : RoomFor s0 0x62 → ∀ f : Frame, f.id = 0x62 → Queued (evalWarnings ws s) f → Queued t' f) :
    WarningsMoved ws [] s0 t' :=
  ((workedOut_evalTogether hpowered (raisedOk_nil s) hws fun _ _ => List.not_mem_nil).warningsMoved hbefore hafter
    hqueue (keeps_evalWarnings (k := .warning) ws s) hservice).1

/-- The conditions of some warnings, worked out with nothing raised. -/
theorem warningsMoved_evalWarnings {ws : List Warning} {s0 t' : State} (hpowered : s.powered = true) (hws : ws.Nodup)
    (hservice : ∀ n ∈ ws, n ≠ .serviceDue ∧ n ≠ .serviceSoon) (hbefore : WarnBefore s0 s)
    (hafter : WarnAfter (evalWarnings ws s) t') : WarningsMoved ws [] s0 t' :=
  warningsMoved_of_shown hpowered hws hservice hbefore hafter.toWarnShown fun _ => hafter.queue

end Sys2Proof.Machine
end

section
/-! SUPPORT. What the warnings do to the tone: requests of their own are given and cancelled, and nothing else (R125 to R127,
R138 to R140). -/

namespace Sys2Proof.Machine

open Sys2Proof

variable {R : State → State → Prop} {s t : State}

/-- A relation of states that looks at the tone and its queue alone, and holds across what warnings do to them. -/
structure ToneSteps (R : State → State → Prop) : Prop where
  same : ∀ {s t}, t.wnu.tone = s.wnu.tone → t.wnu.chimes = s.wnu.chimes → R s t
  trans : ∀ {s t u}, R s t → R t u → R s u
  give : ∀ (s : State) (r : ChimeRequest) (n : Warning), r.source = .warning n →
    R s (s.setWnu (s.wnu.giveChime r).1)
  cancel : ∀ (s : State) (n : Warning) (stops : Pattern → Bool),
    R s (s.setWnu ({ s.wnu with chimes := chimeRemove (.warning n) s.wnu.chimes }.stopSounding (.warning n) stops))

theorem ToneSteps.refl (h : ToneSteps R) (s : State) : R s s := h.same rfl rfl

theorem ToneSteps.noteHead (h : ToneSteps R) (s : State) : R s (noteHead s) := by
  unfold Machine.noteHead
  rcases noteHead_cases s.classOf s.wnu with heq | ⟨n, -, -, -, heq⟩ <;> rw [heq]
  · exact h.refl s
  · exact h.same rfl rfl

theorem ToneSteps.chimeForWarning (h : ToneSteps R) (n : Warning) (s : State) : R s (chimeForWarning n s) := by
  unfold Machine.chimeForWarning
  cases (s.definition n).pattern with
  | none => exact h.refl s
  | some p =>
    dsimp only
    split_ifs
    · exact h.trans (h.give s { source := .warning n, pattern := p, cls := s.classOf n, entered := s.moment } n rfl)
        (h.same (by simp) (by simp))
    · exact h.refl s

theorem ToneSteps.announce (h : ToneSteps R) (n : Warning) (s : State) : R s (announce n s) := by
  rw [announce_eq]
  refine h.trans (h.trans ?_ (h.chimeForWarning n _)) (h.noteHead _)
  exact h.same (by rw [countOccurrence_wnu, logAppend_wnu]; simp) (by rw [countOccurrence_wnu, logAppend_wnu]; simp)

theorem ToneSteps.leaveList (h : ToneSteps R) (n : Warning) (s : State) : R s (leaveList n s) := by
  rw [leaveList_eq]
  refine h.trans ?_ (h.noteHead _)
  have hput : R s (s.setWnu { s.wnu.setRecord n inactiveRecord with list := s.wnu.list.filter (· != n) }) :=
    h.same rfl rfl
  exact h.trans (h.trans hput (h.cancel _ n (fun _ => true))) (h.same (by simp [leaving, WarningUnit.cancelLeft])
    (by simp [leaving, WarningUnit.cancelLeft]))

theorem ToneSteps.applyMove (h : ToneSteps R) (n : Warning) (s : State) : R s (applyMove n s) := by
  have hput (r : WarningRecord) : R s (Machine.noteHead (s.setWnu (s.wnu.setRecord n r))) :=
    h.trans (t := s.setWnu (s.wnu.setRecord n r)) (h.same rfl rfl) (h.noteHead _)
  unfold Machine.applyMove
  dsimp only
  cases s.moveOf n with
  | stay => exact h.refl s
  | announce => exact h.announce n s
  | leave => exact h.leaveList n s
  | qualify | drop | clear | restore => exact hput _

theorem ToneSteps.foldl (h : ToneSteps R) {f : State → Warning → State} (hf : ∀ s n, R s (f s n)) (l : List Warning)
    (s : State) : R s (l.foldl f s) := by
  induction l generalizing s with
  | nil => exact h.refl s
  | cons n l ih => exact h.trans (hf s n) (ih (f s n))

theorem ToneSteps.applyLoud (h : ToneSteps R) (raised : List Warning) (n : Warning) (s : State) :
    R s (applyLoud raised n s) := by
  unfold Machine.applyLoud
  split_ifs
  · exact h.announce n s
  · exact h.applyMove n s

theorem ToneSteps.evalTogether (h : ToneSteps R) (raised ws : List Warning) (s : State) :
    R s (evalTogether raised ws s) := by
  unfold Machine.evalTogether
  split_ifs
  · dsimp only
    set v := (ws.filter (fun n => !(s.moveOf n).listChange)).foldl (fun x n => Machine.applyMove n x) s
    have hquiet : R s v := h.foldl (fun x n => h.applyMove n x) _ s
    obtain ⟨l, u, -, hwnu, -, -, heq⟩ := exists_perm_applyTogether raised
      (ws.filter (fun n => (s.moveOf n).listChange) ++ raised) v
    rw [heq]
    exact h.trans (h.trans hquiet (h.same (by rw [hwnu]) (by rw [hwnu]))) (h.foldl (fun x n => h.applyLoud raised n x) l u)
  · exact h.refl s

/-! ## What waits and sounds -/

/-- Every request that waits or sounds is of some kind. -/
def Sounds (P : ChimeRequest → Prop) (w : WarningUnit) : Prop :=
  (∀ q ∈ w.chimes, P q) ∧ ∀ q, w.tone = .sounding q → P q

/-- A kind of requests that knows them by more than their time of entry. -/
def TimelessKind (P : ChimeRequest → Prop) : Prop := ∀ q n, P q → P { q with entered := n }

theorem Sounds.startHead {P : ChimeRequest → Prop} {w : WarningUnit} (h : ∀ q ∈ w.chimes, P q) :
    Sounds P w.startHead := by
  unfold WarningUnit.startHead
  cases hq : w.chimes with
  | nil => exact ⟨by simp, by simp⟩
  | cons r rest =>
    rw [hq] at h
    exact ⟨fun q hq => h q (List.mem_cons_of_mem r hq), fun q hq => by
      cases hq
      exact h r List.mem_cons_self⟩

theorem Sounds.giveChime {P : ChimeRequest → Prop} (hP : TimelessKind P) {w : WarningUnit} {r : ChimeRequest}
    (h : Sounds P w) (hr : P r) : Sounds P (w.giveChime r).1 := by
  have hjoin {x : ChimeRequest} (hx : P x) {q : List ChimeRequest} (hq : ∀ y ∈ q, P y) :
      ∀ y ∈ (chimeJoin x q).1, P y := by
    intro y hy
    rcases mem_chimeJoin hy with ⟨n, rfl⟩ | ⟨hy, -⟩
    · exact hP x n hx
    · exact hq y hy
  have hnew := hjoin hr h.1
  unfold WarningUnit.giveChime
  cases htone : w.tone with
  | silent => exact ⟨hnew, by simp⟩
  | spacing => exact ⟨hnew, by simp⟩
  | idle => exact Sounds.startHead hnew
  | sounding cur =>
    have hcur := h.2 cur htone
    dsimp only
    split_ifs with hsame hpre
    · exact ⟨hnew, by simp⟩
    · unfold WarningUnit.preempt
      dsimp only
      have hback : ∀ y ∈ (if cur.pattern.continuous then (chimeJoin cur (chimeJoin r w.chimes).1).1
          else (chimeJoin r w.chimes).1), P y := by
        split_ifs
        · exact hjoin hcur hnew
        · exact hnew
      split
      · exact ⟨hnew, fun q hq => by cases hq; exact hcur⟩
      · rename_i x hof
        exact ⟨fun q hq => hback q (mem_chimeRemove.mp hq).1, fun q hq => by
          cases hq
          exact hback x (chimeOf_eq_some hof).1⟩
    · exact ⟨hnew, fun q hq => by cases hq; exact hcur⟩

theorem Sounds.cancel {P : ChimeRequest → Prop} {w : WarningUnit} (h : Sounds P w) (src : ChimeSource)
    (stops : Pattern → Bool) :
    Sounds P ({ w with chimes := chimeRemove src w.chimes }.stopSounding src stops) := by
  have hless : ∀ q ∈ chimeRemove src w.chimes, P q := fun q hq => h.1 q (mem_chimeRemove.mp hq).1
  rcases stopSounding_eq { w with chimes := chimeRemove src w.chimes } src stops with heq | heq <;> rw [heq]
  · exact ⟨hless, h.2⟩
  · exact ⟨hless, fun q hq => by cases hq⟩

/-- The warnings bring in requests of their own alone. -/
theorem toneSteps_sounds {P : ChimeRequest → Prop} (hP : TimelessKind P)
    (hwarn : ∀ q n, q.source = ChimeSource.warning n → P q) :
    ToneSteps (fun s t => Sounds P s.wnu → Sounds P t.wnu) where
  same htone hchimes h := by rwa [Sounds, htone, hchimes]
  trans h h' := h' ∘ h
  give _ r n hr h := Sounds.giveChime hP h (hwarn r n hr)
  cancel _ n stops h := Sounds.cancel h (.warning n) stops

/-- The warnings do not end the spacing. -/
theorem toneSteps_spacing : ToneSteps (fun s t => s.wnu.tone = .spacing → t.wnu.tone = .spacing) where
  same htone _ h := by rwa [htone]
  trans h h' := h' ∘ h
  give s r _ _ h := by rw [State.setWnu_wnu, WarningUnit.giveChime, h]
  cancel s n stops h := by rw [State.setWnu_wnu, WarningUnit.stopSounding, h]; exact h

end Sys2Proof.Machine
end

section
/-! SUPPORT. The line: the levels of a byte and their reading, and the bytes of a frame, of an odometer slot and of a service
record (R1 to R5, R8, R109, R145). -/

namespace Sys2Proof.Machine

open Sys2Proof

/-! ## The levels of a byte (R1, R2, R8) -/

/-- The levels of the data bits of a byte. -/
def dataLevels (b : Byte) : List LineLevel := (List.range 8).map (fun i => bitLevel (bit b i))

@[simp] theorem length_dataLevels (b : Byte) : (dataLevels b).length = 8 := by simp [dataLevels]

theorem byteLevels_eq (b : Byte) (stop : LineLevel) : byteLevels b stop = .dominant :: (dataLevels b ++ [stop]) := rfl

theorem bitLevel_eq_recessive (x : Bool) : (bitLevel x == .recessive) = x := by cases x <;> rfl

theorem bitLevel_eq_dominant (x : Bool) : (bitLevel x == .dominant) = !x := by cases x <;> rfl

/-- The run of equal levels that the data bits of a byte end in, with the start bit before them. -/
theorem takeWhile_dataLevels (b : Byte) (p : LineLevel → Bool) :
    ((dataLevels b).reverse.takeWhile p).length =
      ((List.range 8).takeWhile (fun i => p (bitLevel (bit b (7 - i))))).length := by
  have hrange : (List.range 8).reverse = (List.range 8).map (7 - ·) := rfl
  rw [dataLevels, ← List.map_reverse, hrange, List.map_map, List.takeWhile_map, List.length_map]
  rfl

theorem idleAfterByte_false (b : Byte) : idleAfterByte b false = idleBits b := by
  have hrun : ((dataLevels b).reverse ++ [LineLevel.dominant]).takeWhile (· == .recessive) =
      (dataLevels b).reverse.takeWhile (· == .recessive) := by
    rw [List.takeWhile_append]
    split_ifs with h
    · rw [(List.takeWhile_prefix _).eq_of_length h]
      exact List.append_nil _
    · rfl
  simp only [idleAfterByte, Bool.false_eq_true, if_false, byteLevels_eq, trailingIdle, List.reverse_cons,
    List.reverse_append, List.reverse_nil, List.nil_append, List.cons_append]
  rw [List.takeWhile_cons_of_pos (by rfl), List.length_cons, hrun, takeWhile_dataLevels]
  simp only [bitLevel_eq_recessive, bit, idleBits, Nat.add_comm]

theorem idleAfterByte_true (b : Byte) : idleAfterByte b true = 0 := by
  simp [idleAfterByte, byteLevels_eq, trailingIdle]

theorem foldr_testBit (v n : Nat) :
    ((List.range n).map (fun i => if v.testBit i then 1 else 0)).foldr (fun x m => x + 2 * m) 0 = v % 2 ^ n := by
  induction n generalizing v with
  | zero => simp [Nat.mod_one]
  | succ n ih =>
    rw [List.range_succ_eq_map, List.map_cons, List.foldr_cons, List.map_map]
    have hrest : ((List.range n).map ((fun i => if v.testBit i then 1 else 0) ∘ Nat.succ)) =
        (List.range n).map (fun i => if (v / 2).testBit i then 1 else 0) := by
      simp [Function.comp_def, Nat.testBit_succ]
    rw [hrest, ih, Nat.pow_succ', Nat.mod_mul]
    congr 1
    rw [Nat.testBit_zero]
    rcases Nat.mod_two_eq_zero_or_one v with h | h <;> simp [h]

theorem byteOfLevels_dataLevels (b : Byte) : byteOfLevels (dataLevels b) = b := by
  have hbits : (dataLevels b).map (fun l => if l = .recessive then 1 else 0) =
      (List.range 8).map (fun i => if b.toNat.testBit i then 1 else 0) := by
    rw [dataLevels, List.map_map]
    refine List.map_congr_left fun i _ => ?_
    change (if bitLevel (b.toNat.testBit i) = .recessive then 1 else 0) = _
    cases b.toNat.testBit i <;> rfl
  rw [byteOfLevels, hbits, foldr_testBit]
  exact BitVec.eq_of_toNat_eq (by rw [BitVec.toNat_ofNat, Nat.mod_mod, Nat.mod_eq_of_lt b.isLt])

@[simp] theorem length_byteLevels (b : Byte) (stop : LineLevel) : (byteLevels b stop).length = 10 := by
  simp [byteLevels_eq]

theorem getElem_byteLevels (b : Byte) (stop : LineLevel) {i : Nat} (hi : i < 8) :
    (byteLevels b stop)[i + 1]? = some (if b.getLsbD i then LineLevel.recessive else .dominant) := by
  rw [byteLevels_eq, List.getElem?_cons_succ, List.getElem?_append_left (by simpa using hi)]
  simp only [dataLevels, List.getElem?_map, List.getElem?_range hi]
  rfl

theorem getElem_byteLevels_stop (b : Byte) (stop : LineLevel) : (byteLevels b stop)[9]? = some stop := by
  rw [byteLevels_eq, List.getElem?_cons_succ, List.getElem?_append_right (by simp)]
  simp

/-- The reading of a byte's levels with what follows them. -/
theorem readCharacter_byteLevels (b : Byte) (stop : LineLevel) (rest : List LineLevel) :
    readCharacter (byteLevels b stop ++ rest) =
      if stop = .dominant then
        (if 10 ≤ stopBitRun (byteLevels b stop ++ rest) then .breakRun else .framingError b)
      else .byte b := by
  have hhead : (byteLevels b stop ++ rest).head? = some .dominant := rfl
  have hstop : (byteLevels b stop ++ rest)[9]? = some stop := by
    rw [List.getElem?_append_left (by simp)]
    exact getElem_byteLevels_stop b stop
  have hdata : ((byteLevels b stop ++ rest).drop 1).take 8 = dataLevels b := by
    rw [byteLevels_eq]
    simp
  unfold readCharacter
  rw [hhead, hstop, hdata, byteOfLevels_dataLevels]
  simp

/-- A byte of which every bit is 0 is 0. -/
theorem dataLevels_all_dominant {b : Byte} (h : ∀ l ∈ dataLevels b, l = .dominant) : b = 0 := by
  have heq : dataLevels b = List.replicate 8 .dominant := List.eq_replicate_iff.mpr ⟨by simp, h⟩
  rw [← byteOfLevels_dataLevels b, heq]
  rfl

/-- The dominant run that ends in a byte's dominant stop bit. -/
theorem stopBitRun_byteLevels (b : Byte) (n : Nat) {rest : List LineLevel} (hrest : rest.head? ≠ some .dominant) :
    stopBitRun (byteLevels b .dominant ++ List.replicate n LineLevel.dominant ++ rest) =
      (if b = 0 then 9 else ((List.range 8).takeWhile (fun i => !b.getLsbD (7 - i))).length) + 1 + n := by
  have htake : (byteLevels b .dominant ++ List.replicate n LineLevel.dominant ++ rest).take 10 = byteLevels b .dominant := by
    rw [List.append_assoc, List.take_append_of_le_length (by simp), List.take_of_length_le (by simp)]
  have hdrop : (byteLevels b .dominant ++ List.replicate n LineLevel.dominant ++ rest).drop 10 =
      List.replicate n LineLevel.dominant ++ rest := by
    rw [List.append_assoc, List.drop_append_of_le_length (by simp), List.drop_of_length_le (by simp), List.nil_append]
  have hafter : dominantRun (List.replicate n LineLevel.dominant ++ rest) = n := by
    have hnone : rest.takeWhile (· == LineLevel.dominant) = [] := by
      cases rest with
      | nil => rfl
      | cons x xs =>
        cases x with
        | dominant => exact absurd rfl hrest
        | recessive => rfl
    rw [dominantRun, List.takeWhile_append_of_pos (by simp), hnone]
    simp
  have hzeros := takeWhile_dataLevels b (· == .dominant)
  simp only [bitLevel_eq_dominant, bit] at hzeros
  have hbefore : dominantRun (byteLevels b .dominant).reverse =
      (if b = 0 then 9 else ((List.range 8).takeWhile (fun i => !b.getLsbD (7 - i))).length) + 1 := by
    rw [byteLevels_eq, dominantRun, List.reverse_cons, List.reverse_append, List.reverse_singleton,
      List.singleton_append, List.cons_append, List.takeWhile_cons_of_pos (by rfl), List.length_cons]
    congr 1
    by_cases hb : b = 0
    · subst hb
      rfl
    · rw [if_neg hb, ← hzeros, List.takeWhile_append, if_neg]
      intro hlen
      have hall := List.takeWhile_eq_self_iff.mp
        ((List.takeWhile_prefix (p := (· == LineLevel.dominant)) (l := (dataLevels b).reverse)).eq_of_length hlen)
      exact hb (dataLevels_all_dominant fun l hl => by simpa using hall l (List.mem_reverse.mpr hl))
  rw [stopBitRun, htake, hdrop, hafter, hbefore]

/-! ## Numbers in bytes -/

theorem beNat_append (xs ys : List Byte) : beNat (xs ++ ys) = beNat xs * 256 ^ ys.length + beNat ys := by
  unfold beNat
  rw [List.foldl_append]
  generalize xs.foldl (fun n b => 256 * n + b.toNat) 0 = k
  induction ys using List.reverseRecOn with
  | nil => simp
  | append_singleton ys y ih =>
    rw [List.foldl_append, List.foldl_append, ih]
    simp only [List.foldl_cons, List.foldl_nil, List.length_append, List.length_singleton, Nat.pow_succ]
    ring

theorem beNat_beBytes (n v : Nat) : beNat (beBytes n v) = v % 256 ^ n := by
  induction n with
  | zero => simp [beBytes, beNat, Nat.mod_one]
  | succ n ih =>
    rw [beBytes, ← List.singleton_append, beNat_append, ih, length_beBytes, Nat.pow_succ, Nat.mod_mul]
    simp [beNat]
    ring

/-! ## Slots and records (R109, R145) -/

theorem take_slotBytes (i v : Nat) (mark : Bool) :
    (slotBytes i v mark).take 5 = beBytes 4 v ++ [if mark then (1 : Byte) else 0] := by
  simp only [slotBytes]
  rw [List.take_append_of_le_length (by simp [length_beBytes]), List.take_of_length_le (by simp [length_beBytes])]

theorem slotRead_slotBytes {i v : Nat} {mark : Bool} (hv : v ≤ 4294967295)
    (hblank : blankBytes (slotBytes i v mark) = false) : slotRead i (slotBytes i v mark) = some (v, mark) := by
  have hcheck : byteAt (slotBytes i v mark) 5 =
      rotateXor (BitVec.ofNat 8 i) (beBytes 4 v ++ [if mark then (1 : Byte) else 0]) := by
    simp [slotBytes, byteAt, List.getD_eq_getElem?_getD, length_beBytes]
  have hvalue : (slotBytes i v mark).take 4 = beBytes 4 v := by
    have htake : (slotBytes i v mark).take 4 = ((slotBytes i v mark).take 5).take 4 := by rw [List.take_take]; rfl
    rw [htake, take_slotBytes, List.take_append_of_le_length (by simp [length_beBytes]),
      List.take_of_length_le (by simp [length_beBytes])]
  have hmark : byteAt (slotBytes i v mark) 4 = if mark then 1 else 0 := by
    simp [slotBytes, byteAt, List.getD_eq_getElem?_getD, length_beBytes]
  rw [slotRead, hblank, if_neg Bool.false_ne_true, take_slotBytes, if_pos hcheck.symm, hvalue, hmark, beNat_beBytes,
    Nat.mod_eq_of_lt (by omega)]
  cases mark <;> rfl

/-- The bytes of a slot of the ring are never blank, but for slot 0 of value 0 with no mark (R109). -/
theorem blankBytes_slotBytes {i v : Nat} {mark : Bool} (hi : i < 16) (hv : v ≤ 4294967295)
    (h : ¬(i = 0 ∧ v = 0 ∧ mark = false)) : blankBytes (slotBytes i v mark) = false := by
  have hmark : (if mark then (1 : Byte) else 0) ∈ slotBytes i v mark := by simp [slotBytes]
  rw [blankBytes, Bool.or_eq_false_iff, ← Bool.not_eq_true, ← Bool.not_eq_true, List.all_eq_true, List.all_eq_true]
  refine ⟨fun hall => h ?_, fun hall => ?_⟩
  · have hnone : mark = false := by
      have := hall _ hmark
      cases mark
      · rfl
      · simp at this
    have hzero : v = 0 := by
      have hbytes : beBytes 4 v = List.replicate 4 0 :=
        List.eq_replicate_iff.mpr ⟨length_beBytes 4 v, fun b hb => by
          simpa using hall b (List.mem_append_left _ (List.mem_append_left _ hb))⟩
      have hnat := beNat_beBytes 4 v
      rw [hbytes, Nat.mod_eq_of_lt (by omega)] at hnat
      exact hnat.symm
    subst hnone hzero
    have hslot : ∀ i < 16, (∀ b ∈ slotBytes i 0 false, (b == 0) = true) → i = 0 := by decide
    exact ⟨hslot i hi hall, rfl, rfl⟩
  · have := hall _ hmark
    cases mark <;> simp at this

theorem recordRead_recordBytes {i : ServiceItem} {r : ServiceRecord} (hkm : r.dueKm < 16777216)
    (hday : ∀ d ∈ r.dueDay, d < 65535) (hpenalty : r.penalty < 65536)
    (hblank : blankBytes (recordBytes i r) = false) : recordRead i (recordBytes i r) = some r := by
  have hlen : (recordBody r).length = 7 := by
    cases hd : r.dueDay <;> simp [recordBody, hd, length_beBytes]
  have hbody : (recordBytes i r).take 7 = recordBody r := by
    rw [recordBytes, List.take_append_of_le_length hlen.ge, List.take_of_length_le hlen.le]
  have hcheck : byteAt (recordBytes i r) 7 = recordCheck i (recordBody r) := by
    rw [recordBytes, byteAt, List.getD_eq_getElem?_getD, List.getElem?_append_right hlen.le, hlen]
    rfl
  obtain ⟨dueKm, dueDay, penalty⟩ := r
  have h3 : (beBytes 3 dueKm).length = 3 := length_beBytes 3 dueKm
  have h2 (v : Nat) : (beBytes 2 v).length = 2 := length_beBytes 2 v
  have hval (n v : Nat) (h : v < 256 ^ n) : beNat (beBytes n v) = v := by rw [beNat_beBytes, Nat.mod_eq_of_lt h]
  have hkm' := hval 3 dueKm hkm
  have hpen' := hval 2 penalty hpenalty
  rw [recordRead, hblank, if_neg Bool.false_ne_true, hbody, if_pos hcheck.symm]
  cases dueDay with
  | none =>
    have hfields : (recordBytes i { dueKm, dueDay := none, penalty }).take 3 = beBytes 3 dueKm ∧
        slice (recordBytes i { dueKm, dueDay := none, penalty }) 3 2 = [0xFF, 0xFF] ∧
        slice (recordBytes i { dueKm, dueDay := none, penalty }) 5 2 = beBytes 2 penalty := by
      refine ⟨?_, ?_, ?_⟩ <;> simp [recordBytes, recordBody, slice, List.drop_append, List.take_append, h3, h2]
    rw [hfields.1, hfields.2.1, hfields.2.2, hkm', hpen']
    rfl
  | some day =>
    have hday' : day < 65535 := hday day rfl
    have hfields : (recordBytes i { dueKm, dueDay := some day, penalty }).take 3 = beBytes 3 dueKm ∧
        slice (recordBytes i { dueKm, dueDay := some day, penalty }) 3 2 = beBytes 2 day ∧
        slice (recordBytes i { dueKm, dueDay := some day, penalty }) 5 2 = beBytes 2 penalty := by
      refine ⟨?_, ?_, ?_⟩ <;> simp [recordBytes, recordBody, slice, List.drop_append, List.take_append, h3, h2]
    rw [hfields.1, hfields.2.1, hfields.2.2, hkm', hpen', hval 2 day (by omega)]
    simp [hday'.ne]

/-! ## Frames (R3, R5, R193) -/

/-- The fields of a header read back (R193). -/
theorem header_fields {cls source : Nat} (kind : FrameKind) (hcls : cls ≤ 3) (hsource : source ≤ 15) :
    headerCls (headerByte cls kind source) = cls ∧ headerKindCode (headerByte cls kind source) = kind.code ∧
      headerSource (headerByte cls kind source) = source := by
  have hall : ∀ c < 4, ∀ x < 16, ∀ k ∈ [FrameKind.broadcast, .directed, .response],
      headerCls (headerByte c k x) = c ∧ headerKindCode (headerByte c k x) = k.code ∧
        headerSource (headerByte c k x) = x := by decide
  exact hall cls (by omega) source (by omega) kind (by cases kind <;> simp)

theorem FrameKind.ofCode_code (k : FrameKind) : FrameKind.ofCode k.code = some k := by cases k <;> rfl

/-- The header of a frame: which kind it is of, whether a target follows, and that a receiver takes it (R3, R5). -/
theorem FrameOk.header {f : Frame} (h : FrameOk f) :
    headerBad (headerByte f.cls f.kind f.source) = false ∧
      (headerHasTarget (headerByte f.cls f.kind f.source) = true ↔ f.target ≠ none) := by
  obtain ⟨hcls, hsource, hsource', -, htarget, -⟩ := h
  obtain ⟨-, hkind, hsrc⟩ := header_fields f.kind hcls hsource'
  rw [headerBad, headerHasTarget, hkind, hsrc]
  refine ⟨?_, ?_⟩
  · have hne : f.source ≠ 0 := by omega
    cases f.kind <;> simp [FrameKind.code, hne]
  · rw [Ne, ← htarget]
    cases f.kind <;> simp [FrameKind.code]

/-- The bytes of a frame: its header, a target where it has one, its id, its length and its data (R3). -/
theorem frameBody_eq (f : Frame) :
    frameBody f =
      headerByte f.cls f.kind f.source :: ((f.target.map (BitVec.ofNat 8)).toList ++
        f.id :: BitVec.ofNat 8 f.data.length :: f.data) := by
  cases h : f.target <;> simp [frameBody, h]

theorem FrameOk.length_byte {f : Frame} (h : FrameOk f) : (BitVec.ofNat 8 f.data.length).toNat = f.data.length := by
  obtain ⟨-, -, -, hlen, -, -⟩ := h
  rw [BitVec.toNat_ofNat, Nat.mod_eq_of_lt (by omega)]

/-- The offset of the length byte, by whether the frame has a target (R3). -/
theorem FrameOk.lengthOffset {f : Frame} (h : FrameOk f) :
    lengthOffset (headerByte f.cls f.kind f.source) = if f.target = none then 2 else 3 := by
  rw [Machine.lengthOffset]
  by_cases ht : f.target = none
  · rw [if_pos ht, if_neg (fun hh => h.header.2.mp hh ht)]
  · rw [if_neg ht, if_pos (h.header.2.mpr ht)]

theorem frameOfBytes_frameBody {f : Frame} (h : FrameOk f) : frameOfBytes (frameBody f) = some f := by
  have hoffset := h.lengthOffset
  have htarget := h.header.2
  have hlen := h.length_byte
  obtain ⟨hcls, -, hsource, hdata, -, hbyte⟩ := h
  obtain ⟨hc, hk, hs⟩ := header_fields f.kind hcls hsource
  have hhead : byteAt (frameBody f) 0 = headerByte f.cls f.kind f.source := rfl
  rw [frameOfBytes, hhead, hk, FrameKind.ofCode_code, hc, hs, hoffset]
  obtain ⟨cls, kind, source, target, id, data⟩ := f
  cases target with
  | none =>
    have hno : headerHasTarget (headerByte cls kind source) = false := by simpa using htarget
    simp only [hno]
    simp [byteAt, frameBody_eq, slice, hlen]
  | some x =>
    have hyes : headerHasTarget (headerByte cls kind source) = true := by simpa using htarget
    have hx : x % 256 = x := Nat.mod_eq_of_lt (Nat.lt_succ_of_le (hbyte x rfl))
    simp only [hyes]
    simp [byteAt, frameBody_eq, slice, hlen, hx]

/-- Before the last byte of a frame the next one is of its body, or its length (R5). -/
theorem FrameOk.nextField_prefix {f : Frame} (h : FrameOk f) {p q : List Byte} {b : Byte}
    (heq : frameBody f = p ++ b :: q) (hp : p ≠ []) :
    nextField p = .body ∨ (nextField p = .length ∧ b.toNat ≤ 8) := by
  have hoffset := h.lengthOffset
  have hlen := h.length_byte
  obtain ⟨-, -, -, hdata, -, -⟩ := h
  rw [frameBody_eq] at heq
  cases htarget : f.target with
  | none =>
    rw [htarget, if_pos rfl] at hoffset
    rw [htarget] at heq
    match p, hp with
    | [a], _ =>
      obtain ⟨rfl, -⟩ := List.cons.inj heq
      left
      simp [nextField, byteAt, hoffset]
    | [a, x], _ =>
      simp only [Option.map_none, Option.toList_none, List.nil_append, List.cons_append, List.cons.injEq] at heq
      obtain ⟨rfl, -, rfl, -⟩ := heq
      right
      simp [nextField, byteAt, hoffset, hlen, hdata]
    | a :: x :: y :: p, _ =>
      simp only [Option.map_none, Option.toList_none, List.nil_append, List.cons_append, List.cons.injEq] at heq
      obtain ⟨rfl, -, rfl, hrest⟩ := heq
      left
      have hlt : p.length < f.data.length := by simp [hrest]
      have hlt' : p.length + 1 + 1 + 1 < 2 + 1 + f.data.length := by omega
      simp [nextField, byteAt, hoffset, hlen, hlt']
  | some t =>
    rw [htarget, if_neg (by simp)] at hoffset
    rw [htarget] at heq
    match p, hp with
    | [a], _ =>
      obtain ⟨rfl, -⟩ := List.cons.inj heq
      left
      simp [nextField, byteAt, hoffset]
    | [a, x], _ =>
      obtain ⟨rfl, -⟩ := List.cons.inj heq
      left
      simp [nextField, byteAt, hoffset]
    | [a, x, y], _ =>
      simp only [Option.map_some, Option.toList_some, List.nil_append, List.cons_append, List.cons.injEq] at heq
      obtain ⟨rfl, -, -, rfl, -⟩ := heq
      right
      simp [nextField, byteAt, hoffset, hlen, hdata]
    | a :: x :: y :: z :: p, _ =>
      simp only [Option.map_some, Option.toList_some, List.nil_append, List.cons_append, List.cons.injEq] at heq
      obtain ⟨rfl, -, -, rfl, hrest⟩ := heq
      left
      have hlt : p.length < f.data.length := by simp [hrest]
      have hlt' : p.length + 1 + 1 + 1 + 1 < 3 + 1 + f.data.length := by omega
      simp [nextField, byteAt, hoffset, hlen, hlt']

/-- After the last byte of a frame the next one is its check (R5). -/
theorem FrameOk.nextField_frameBody {f : Frame} (h : FrameOk f) : nextField (frameBody f) = .check := by
  have hoffset := h.lengthOffset
  have hlen := h.length_byte
  rw [frameBody_eq]
  cases htarget : f.target with
  | none =>
    rw [htarget, if_pos rfl] at hoffset
    have hge : ¬f.data.length + 1 + 1 + 1 < 2 + 1 + f.data.length := by omega
    simp [nextField, byteAt, hoffset, hlen, hge]
  | some t =>
    rw [htarget, if_neg (by simp)] at hoffset
    have hge : ¬f.data.length + 1 + 1 + 1 + 1 < 3 + 1 + f.data.length := by omega
    simp [nextField, byteAt, hoffset, hlen, hge]

end Sys2Proof.Machine
end

section
/-! CLAIM. The body link (chapter 1): reception, attempts, and the timers of the link. -/

namespace Sys2Proof.Machine

open Sys2Proof

variable {s t : State}

/-! ## Reception (R5, R6) -/

/-- A command that takes a byte answers with a new link, and at most the display composed anew. -/
theorem exists_answers_takeByte {c : Instr} {framing : Bool} {b : Byte} {l : Link}
    (hexec : exec c s = done (takeByte framing b s)) (h : takeByte framing b s = s.setLink l) :
    ∃ t, Answers c s t ∧ Touches [.link, .msc] s t ∧ t.link = l :=
  exists_answers_of_exec_eq_done_setLink (hexec.trans (congrArg done h))

theorem takeByte_skipping {b : Byte} (hl : s.link.listening = true) (htx : s.link.tx ≠ .breaking)
    (hr : s.link.receiver = .skipping) :
    takeByte false b s = s.setLink { s.link with idleCount := idleBits b } := by
  simp [takeByte, hl, htx, hr, idleAfterByte_false]

theorem takeByte_header {b : Byte} (hl : s.link.listening = true) (htx : s.link.tx ≠ .breaking)
    (hr : s.link.receiver = .waiting) (hb : headerBad b = false) :
    takeByte false b s = s.setLink { s.link with receiver := .inFrame [b], idleCount := idleBits b } := by
  simp [takeByte, hl, htx, hr, hb, idleAfterByte_false, State.setLink]

theorem takeByte_inFrame {b : Byte} {bytes : List Byte} (hl : s.link.listening = true)
    (htx : s.link.tx ≠ .breaking) (hr : s.link.receiver = .inFrame bytes)
    (hb : nextField bytes = .body ∨ (nextField bytes = .length ∧ b.toNat ≤ 8)) :
    takeByte false b s =
      s.setLink { s.link with receiver := .inFrame (bytes ++ [b]), idleCount := idleBits b } := by
  rcases hb with hb | ⟨hb, hlen⟩
  · simp [takeByte, hl, htx, hr, hb, idleAfterByte_false, State.setLink]
  · simp [takeByte, hl, htx, hr, hb, Nat.not_lt.mpr hlen, idleAfterByte_false, State.setLink]

theorem takeByte_check {b : Byte} {bytes : List Byte} (hl : s.link.listening = true)
    (htx : s.link.tx ≠ .breaking) (hr : s.link.receiver = .inFrame bytes) (hb : nextField bytes = .check) :
    takeByte false b s = takeCheck bytes b (s.setLink { s.link with idleCount := idleBits b }) := by
  simp [takeByte, hl, htx, hr, hb, idleAfterByte_false]

/-- A frame that ends by a bad header, a length above 8 or a framing error is malformed (R5). -/
theorem takeByte_malformed {b : Byte} {framing : Bool} (hl : s.link.listening = true)
    (htx : s.link.tx ≠ .breaking)
    (hb : (s.link.receiver = .waiting ∧ (framing = true ∨ headerBad b = true)) ∨
      (∃ bytes, s.link.receiver = .inFrame bytes ∧
        (framing = true ∨ (nextField bytes = .length ∧ 8 < b.toNat)))) :
    takeByte framing b s =
      s.setLink (Link.malformed { s.link with idleCount := if framing then 0 else idleBits b }) := by
  have hidle : idleAfterByte b framing = if framing then 0 else idleBits b := by
    cases framing
    · exact idleAfterByte_false b
    · exact idleAfterByte_true b
  rcases hb with ⟨hr, hb⟩ | ⟨bytes, hr, rfl | ⟨hb, hlen⟩⟩
  · rcases hb with rfl | hb
    · simp [takeByte, hl, htx, hr, hidle, State.setLink]
    · simp [takeByte, hl, htx, hr, hidle, State.setLink, hb]
  · simp [takeByte, hl, htx, hr, hidle, State.setLink]
  · cases framing <;> simp [takeByte, hl, htx, hr, hidle, State.setLink, hb, hlen]

/-- Settles O13: each branch of the receiver is a new link, and the levels of a byte read back bit by bit. -/
theorem receiverTakesByte : Obligations.ReceiverTakesByte := by
  unfold Obligations.ReceiverTakesByte
  refine ⟨fun s b hl htx => ⟨fun hr hb => ?_, fun bytes hr hb => ?_, fun hr => ?_⟩,
    fun s b framing hl htx hb => ?_, fun s bytes b hl hr hb => ⟨fun hne htx => ?_, fun heq htx => ?_⟩,
    fun b stop => ⟨?_, rfl, ?_, ?_, ?_, ?_, ?_, ?_⟩⟩
  · exact exists_answers_takeByte rfl (takeByte_header hl htx hr hb)
  · exact exists_answers_takeByte rfl (takeByte_inFrame hl htx hr hb)
  · exact exists_answers_takeByte rfl (takeByte_skipping hl htx hr)
  · exact exists_answers_takeByte rfl (takeByte_malformed hl htx hb)
  · refine exists_answers_takeByte rfl ((takeByte_check hl htx hr hb).trans ?_)
    simp [takeCheck, hne, State.setLink, LinkCounters.checkError, satInc]
  · refine exists_answers_takeByte rfl ((takeByte_check hl (by simp [htx]) hr hb).trans ?_)
    simp [takeCheck, heq, htx, State.setLink]
  · exact length_byteLevels b stop
  · exact fun i hi => getElem_byteLevels b stop hi
  · exact getElem_byteLevels_stop b stop
  · exact fun rest => by rw [readCharacter_byteLevels]; simp
  · intro n rest hrest
    dsimp only
    rw [List.append_assoc, readCharacter_byteLevels, if_pos rfl, ← List.append_assoc, stopBitRun_byteLevels b n hrest]
  · exact fun ls => rfl
  · exact fun r => ⟨rfl, rfl, rfl⟩

/-- Settles O14: each of the three is a new link. -/
theorem receiverReturnsToWaiting : Obligations.ReceiverReturnsToWaiting := by
  unfold Obligations.ReceiverReturnsToWaiting Answers
  refine fun s => ⟨fun bytes hr => ?_, fun hr => ?_, fun hl => ?_⟩
  · change execByteGapTimeout s = _
    simp [execByteGapTimeout, hr, satInc]
  · change execSkippingIdleEnd s = _
    simp [execSkippingIdleEnd, hr]
  · change execBreakReceived s = _
    simp [execBreakReceived, hl]

/-! ## Acceptance (R7, R18, R20) -/

/-- The acceptance set (R7). -/
theorem accepted_iff (address : Nat) (f : Frame) :
    accepted address f = true ↔
      (f.kind = .broadcast ∧ f.id ∈ [(0x10 : Byte), 0x12, 0x20, 0x22]) ∨
        (f.kind = .directed ∧ f.target = some address ∧
          (f.id ∈ [(0x30 : Byte), 0x31] ∨ (0x70 ≤ f.id.toNat ∧ f.id.toNat ≤ 0x7C))) := by
  have hnat (n : Nat) (h : n < 256) : f.id.toNat = n ↔ f.id = BitVec.ofNat 8 n := by
    rw [← BitVec.toNat_inj, BitVec.toNat_ofNat, Nat.mod_eq_of_lt h]
  unfold accepted
  cases f.kind
  · simp [hnat, or_assoc]
  · simp [hnat, or_assoc]
  · simp

/-- A link whose roster has a source fresh (R7, R20). -/
def Link.withPresent (l : Link) (source : Nat) : Link :=
  { l with roster := l.roster.setIfInBounds (source - 1) { presence := .present, timer := some 2000 } }

theorem onlyOffers_refreshRoster {source : Nat} (h : 1 ≤ source) (s : State) :
    OnlyOffers (s.setLink (s.link.withPresent source)) (refreshRoster source s) := by
  unfold refreshRoster
  split_ifs with hrange hthree
  · exact warnSteps_onlyOffers.evalWarnings _ _
  · exact OnlyOffers.of_link rfl
  · refine OnlyOffers.of_link ?_
    have hout : 14 ≤ source - 1 := by omega
    simp [Link.withPresent, Vector.setIfInBounds_eq_of_size_le hout]

/-- The roster entries behind a source that was refreshed. -/
theorem withPresent_roster {l : Link} {source : Nat} (h : 1 ≤ source) (i : Fin 14) :
    (l.withPresent source).roster[i] =
      if i.val + 1 = source then { presence := .present, timer := some 2000 } else l.roster[i] := by
  rw [Fin.getElem_fin, Link.withPresent, Vector.getElem_setIfInBounds]
  have hiff : source - 1 = i.val ↔ i.val + 1 = source := by omega
  simp [hiff]

/-- Frames that arrive touch the link, the warnings and the sense record. -/
theorem touches_done_takeByte (framing : Bool) (b : Byte) (s : State) :
    Touches [.link, .wnu, .msc, .rqs, .seq, .draw] s (refresh (takeByte framing b s)) := by
  intro x hx
  cases x
  case link | wnu | msc | rqs | seq | draw => simp at hx
  all_goals simp [Agree]

/-- What the clash check makes of the link and the sense record (R7, R13). -/
theorem checkClash_eq (source : Nat) (s : State) :
    (checkClash source s).link = (if source = s.settings.address then s.link.mute else s.link) ∧
      (checkClash source s).rqs =
        { s.rqs with lastError := if source = s.settings.address then 0x02 else s.rqs.lastError } := by
  unfold checkClash
  split_ifs
  · simp [recordCode_rqs]
  · simp

/-- What an offer to the ring makes of the link and the sense record (R7, R18). -/
theorem offerRing_eq (f : Frame) (s : State) :
    (accepted s.settings.address f = false → offerRing f s = s) ∧
      (accepted s.settings.address f = true → s.link.ring.length < 12 →
        offerRing f s = s.setLink { s.link with ring := s.link.ring ++ [f] }) ∧
      (accepted s.settings.address f = true → 12 ≤ s.link.ring.length →
        (offerRing f s).link =
            { s.link with
              counters :=
                { s.link.counters with ringOverflow := min (s.link.counters.ringOverflow + 1) 255 } } ∧
          (offerRing f s).rqs = { s.rqs with lastError := 0x03 }) := by
  unfold offerRing
  refine ⟨fun h => by simp [h], fun h hlen => by simp [h, hlen], fun h hlen => ?_⟩
  rw [if_pos h, if_neg (by omega)]
  simp [recordCode_rqs, satInc]

/-- The bytes of a frame before its check, received one by one, all join the frame in progress (R5). -/
theorem runAll_byteReceived {f : Frame} (hf : FrameOk f) (tail : List Instr) (rest p : List Byte)
    (heq : frameBody f = p ++ rest) (hp : p ≠ []) {s : State} (hl : s.link.listening = true)
    (htx : s.link.tx ≠ .breaking) (hr : s.link.receiver = .inFrame p) :
    ∃ t, runAll (rest.map Instr.byteReceived ++ tail) s = runAll tail t ∧ Touches [.link, .msc] s t ∧
      ∃ idle, t.link = { s.link with receiver := .inFrame (frameBody f), idleCount := idle } := by
  induction rest generalizing p s with
  | nil =>
    refine ⟨s, rfl, Touches.refl _ s, s.link.idleCount, ?_⟩
    rw [heq, List.append_nil, ← hr]
  | cons b rest ih =>
    obtain ⟨u, hanswers, htouches, hlink⟩ :=
      exists_answers_takeByte (c := .byteReceived b) rfl
        (takeByte_inFrame hl htx hr (hf.nextField_prefix heq hp))
    obtain ⟨t, hrun, htouches', idle, hlink'⟩ := ih (p ++ [b]) (by rw [heq, List.append_assoc]; rfl) (by simp)
      (s := u) (by rw [hlink]; exact hl) (by rw [hlink]; exact htx) (by rw [hlink])
    refine ⟨t, ?_, htouches.trans htouches', idle, by rw [hlink', hlink]⟩
    change runAll (Instr.byteReceived b :: (rest.map Instr.byteReceived ++ tail)) s = _
    rw [runAll, show exec (.byteReceived b) s = .next u from hanswers]
    exact hrun

/-- A frame that agrees with its check, and is not the cluster's own, is accepted (R6). -/
theorem takeCheck_frameBody {f : Frame} (hf : FrameOk f) (htx : s.link.tx ≠ .sending) :
    takeCheck (frameBody f) (frameCheck (frameBody f)) s =
      acceptFrame f (s.setLink { s.link with receiver := .waiting }) := by
  simp [takeCheck, htx, frameOfBytes_frameBody hf]

/-- What the three steps of acceptance make of the link and the sense record (R7, R13, R18, R20). -/
theorem acceptFrame_spec {f : Frame} (hsource : 1 ≤ f.source) (s : State) :
    let t := acceptFrame f s
    let code : Byte := if f.source = s.settings.address then 0x02 else s.rqs.lastError
    t.link.receiver = s.link.receiver ∧
      (∀ i : Fin 14, t.link.roster[i] =
        if i.val + 1 = f.source then { presence := .present, timer := some 2000 } else s.link.roster[i]) ∧
      t.link.counters.checkErrors = s.link.counters.checkErrors ∧ t.link.abandonRun = s.link.abandonRun ∧
      (f.source = s.settings.address → t.link.tx = .muted ∧ t.link.txTimer = some 1000) ∧
      (f.source ≠ s.settings.address → t.link.txTimer = s.link.txTimer) ∧
      (accepted s.settings.address f = false →
        t.link.ring = s.link.ring ∧ t.rqs = { s.rqs with lastError := code } ∧
          t.link.counters.ringOverflow = s.link.counters.ringOverflow) ∧
      (accepted s.settings.address f = true → s.link.ring.length < 12 →
        t.link.ring = s.link.ring ++ [f] ∧ t.rqs = { s.rqs with lastError := code } ∧
          t.link.counters.ringOverflow = s.link.counters.ringOverflow) ∧
      (accepted s.settings.address f = true → 12 ≤ s.link.ring.length →
        t.link.ring = s.link.ring ∧ t.rqs = { s.rqs with lastError := 0x03 } ∧
          t.link.counters.ringOverflow = min (s.link.counters.ringOverflow + 1) 255) := by
  intro t code
  have hroster := (onlyOffers_refreshRoster hsource s).1
  have hpresent := withPresent_roster (l := s.link) hsource
  have hr : (refreshRoster f.source s).settings = s.settings ∧ (refreshRoster f.source s).rqs = s.rqs := by simp
  obtain ⟨hclash, hcode⟩ := checkClash_eq f.source (refreshRoster f.source s)
  have hx : (checkClash f.source (refreshRoster f.source s)).settings = s.settings := by simp
  have ht : t = offerRing f (checkClash f.source (refreshRoster f.source s)) := rfl
  rw [hr.1, hr.2] at hcode
  rw [hr.1] at hclash
  generalize checkClash f.source (refreshRoster f.source s) = x at hclash hcode hx ht
  generalize (refreshRoster f.source s).link = l at hroster hclash
  obtain ⟨hother, hroom, hfull⟩ := offerRing_eq f x
  rw [← ht, hx] at hother hroom hfull
  have hlink : x.link =
      { l with
        tx := if f.source = s.settings.address then .muted else l.tx
        txTimer := if f.source = s.settings.address then some 1000 else l.txTimer } := by
    rw [hclash]
    split_ifs <;> rfl
  have hring : x.link.ring = s.link.ring := by rw [hlink, hroster]; rfl
  have hover : x.link.counters.ringOverflow = s.link.counters.ringOverflow := by rw [hlink, hroster]; rfl
  have hsame : ∃ ring overflow, t.link =
      { x.link with ring := ring, counters := { x.link.counters with ringOverflow := overflow } } := by
    cases hacc : accepted s.settings.address f with
    | false => exact ⟨_, _, by rw [hother hacc]⟩
    | true =>
      rcases Nat.lt_or_ge x.link.ring.length 12 with hlen | hlen
      · exact ⟨_, x.link.counters.ringOverflow, by rw [hroom hacc hlen]; rfl⟩
      · exact ⟨x.link.ring, _, by rw [(hfull hacc hlen).1]⟩
  obtain ⟨ring, overflow, hsame⟩ := hsame
  have hsource' : (l.roster = (s.link.withPresent f.source).roster ∧ l.receiver = s.link.receiver ∧
      l.counters.checkErrors = s.link.counters.checkErrors ∧ l.abandonRun = s.link.abandonRun ∧
      l.txTimer = s.link.txTimer) := by
    rw [hroster]
    exact ⟨rfl, rfl, rfl, rfl, rfl⟩
  obtain ⟨hros, hrec, herr, hrun, htimer⟩ := hsource'
  refine ⟨?_, fun i => ?_, ?_, ?_, fun h => ?_, fun h => ?_, fun hacc => ?_, fun hacc hlen => ?_, fun hacc hlen => ?_⟩
  · rw [hsame, hlink]; exact hrec
  · rw [hsame, hlink, ← hpresent i, ← hros]
  · rw [hsame, hlink]; exact herr
  · rw [hsame, hlink]; exact hrun
  · rw [hsame, hlink, if_pos h, if_pos h]; exact ⟨rfl, rfl⟩
  · rw [hsame, hlink, if_neg h, if_neg h]; exact htimer
  · rw [hother hacc]; exact ⟨hring, hcode, hover⟩
  · rw [hroom hacc (hring ▸ hlen)]; exact ⟨by rw [State.setLink_link, hring], hcode, hover⟩
  · obtain ⟨hl, hq⟩ := hfull hacc (hring ▸ hlen)
    rw [hl, hq, hcode]
    exact ⟨hring, rfl, by rw [← hover]⟩

/-- Settles O15: byte by byte the frame is spelled, and its check hands it to the roster, the clash check and the ring. -/
theorem sentFrameIsTaken : Obligations.SentFrameIsTaken := by
  unfold Obligations.SentFrameIsTaken
  intro s f hf hl hr hsend hbreak
  dsimp only
  obtain ⟨u, hanswers, htouches, hlink⟩ :=
    exists_answers_takeByte (c := .byteReceived (headerByte f.cls f.kind f.source)) rfl
      (takeByte_header hl hbreak hr hf.header.1)
  obtain ⟨v, hrun, htouches', idle, hlink'⟩ :=
    runAll_byteReceived hf [.frameReceived (frameCheck (frameBody f))] (frameBody f).tail
      [headerByte f.cls f.kind f.source] rfl (by simp) (s := u) (by rw [hlink]; exact hl)
      (by rw [hlink]; exact hbreak) (by rw [hlink])
  have hv : v.link = { s.link with receiver := .inFrame (frameBody f), idleCount := idle } := by rw [hlink', hlink]
  have htv : Touches [.link, .msc] s v := htouches.trans htouches'
  have hset : v.settings = s.settings := htv .settings (by simp)
  have hrqs : v.rqs = s.rqs := htv .rqs (by simp)
  have htake : takeByte false (frameCheck (frameBody f)) v =
      acceptFrame f (v.setLink { s.link with receiver := .waiting, idleCount := idleBits (frameCheck (frameBody f)) }) := by
    rw [takeByte_check (by rw [hv]; exact hl) (by rw [hv]; exact hbreak) (by rw [hv]) hf.nextField_frameBody,
      takeCheck_frameBody hf (by rw [State.setLink_link, hv]; exact hsend), hv]
    rfl
  have hspec := acceptFrame_spec hf.2.1
    (v.setLink { s.link with receiver := .waiting, idleCount := idleBits (frameCheck (frameBody f)) })
  rw [← htake] at hspec
  simp only [State.setLink_link, State.setLink_settings, State.setLink_rqs, hset, hrqs] at hspec
  obtain ⟨hrec, hroster, herr, habandon, hclash, hclear, hother, hroom, hfull⟩ := hspec
  refine ⟨refresh (takeByte false (frameCheck (frameBody f)) v), ?_, ?_, ?_⟩
  · have hbody : frameBody f = headerByte f.cls f.kind f.source :: (frameBody f).tail := rfl
    rw [hbody, List.map_cons, List.cons_append, runAll,
      show exec (.byteReceived (headerByte f.cls f.kind f.source)) s = .next u from hanswers, ← hbody]
    exact hrun
  · exact (htv.mono (by simp)).trans (touches_done_takeByte false _ v)
  · simp only [refresh_frame]
    refine ⟨hrec, hroster, herr, habandon, hclash, hclear, fun hno => hother ?_, fun hyes hlen => hroom ?_ hlen,
      fun hyes hlen => hfull ?_ hlen⟩
    · rw [← Bool.not_eq_true, accepted_iff]
      exact hno
    · exact (accepted_iff _ f).mpr hyes
    · exact (accepted_iff _ f).mpr hyes

/-- Settles O16: a frame by its fields, a slot and a record by their bytes. -/
theorem encodingsRoundTrip : Obligations.EncodingsRoundTrip := by
  unfold Obligations.EncodingsRoundTrip
  exact ⟨fun f hf => frameOfBytes_frameBody hf,
    fun i v mark hi hv h => slotRead_slotBytes hv (blankBytes_slotBytes hi hv h),
    fun i r hkm hday hpenalty hblank => recordRead_recordBytes hkm hday hpenalty hblank⟩

/-! ## Attempts (R8 to R13, R17) -/

/-- Settles O17: the test of an attempt, and the idle count that goes on where it fails. -/
theorem attemptStartsAtIdleSpacing : Obligations.AttemptStartsAtIdleSpacing := by
  unfold Obligations.AttemptStartsAtIdleSpacing
  intro s e q idle hl htx hawake hq
  have hmay : attemptMayStart (s.link.idleCount + idle) s = true ↔
      s.link.receiver = .waiting ∧ 14 + 3 * e.frame.cls ≤ s.link.idleCount + idle := by
    simp only [attemptMayStart, hq, htx, State.sendingAllowed, hawake, ifs, beq_self_eq_true, Bool.true_and, Bool.and_true,
      Bool.and_eq_true, beq_iff_eq]
    exact and_congr_right fun _ => decide_eq_true_iff
  have hexec : exec (.attemptStart idle) s = execAttemptStart idle s := rfl
  have hquiet : s.link.quiet = true := by simp [Link.quiet, htx]
  refine ⟨fun hcount hr => ?_, fun h => ?_⟩ <;> rw [Answers, hexec, execAttemptStart]
  · rw [if_pos (hmay.mpr ⟨hr, hcount⟩), hq]
    rfl
  · rw [if_neg (fun hm => ?_), if_pos ⟨hl, hquiet⟩]
    obtain ⟨hr, hcount⟩ := hmay.mp hm
    exact h.elim (fun hlt => absurd hcount (by omega)) (fun hne => hne hr)

theorem filterMap_leaveEntry_of_waiting {q : List TxEntry} (h : ∀ x ∈ q, x.underAttempt = false) :
    q.filterMap leaveEntry = q := by
  induction q with
  | nil => rfl
  | cons x q ih =>
    have hx := h x List.mem_cons_self
    rw [List.filterMap_cons_some (b := x) (by simp [leaveEntry, hx]), ih fun y hy => h y (List.mem_cons_of_mem x hy)]

/-- The entry under attempt leaves a queue of entries that wait, or takes up its held contents (R16, R17). -/
theorem filterMap_leaveEntry {p q : List TxEntry} {e : TxEntry} (he : e.underAttempt = true)
    (h : ∀ x ∈ p ++ q, x.underAttempt = false) :
    (p ++ e :: q).filterMap leaveEntry =
      match e.held with
      | none => p ++ q
      | some h => p ++ { e with frame := h, held := none, failed := 0, underAttempt := false } :: q := by
  have hp : p.filterMap leaveEntry = p := filterMap_leaveEntry_of_waiting fun x hx => h x (List.mem_append_left q hx)
  have hq : q.filterMap leaveEntry = q := filterMap_leaveEntry_of_waiting fun x hx => h x (List.mem_append_right p hx)
  rw [List.filterMap_append, List.filterMap_cons, hp, hq]
  cases hheld : e.held <;> simp [leaveEntry, he, hheld, TxEntry.settle]

/-- The entry under attempt among entries that wait (R9). -/
theorem find_underAttempt {p q : List TxEntry} {e : TxEntry} (he : e.underAttempt = true)
    (h : ∀ x ∈ p ++ q, x.underAttempt = false) : (p ++ e :: q).find? (·.underAttempt) = some e := by
  rw [List.find?_append, List.find?_eq_none.mpr fun x hx => by simp [h x (List.mem_append_left q hx)]]
  simp [he]

theorem restingTx_eq (q : List TxEntry) (s : State) :
    restingTx q s = if q ≠ [] ∧ s.awake = true then .waitingIdle else .idle := rfl

/-- Settles O18: a loss settles the entry under attempt, a success lets it leave, and the line shows its bytes. -/
theorem attemptsEnd : Obligations.AttemptsEnd := by
  unfold Obligations.AttemptsEnd
  refine ⟨fun s htx => ⟨⟨s.setLink
      { s.link with tx := .waitingIdle, idleCount := 0, txQueue := s.link.txQueue.map lostEntry },
      ?lost, touches_setLink s _, rfl, rfl⟩, ?error⟩,
    fun s p q e htx hq he hwait => ⟨?success, ?line⟩, fun s => ⟨fun htx => ?_, fun hsend hbreak => ?_⟩⟩
  case lost =>
    change execArbitrationLost s = _
    rw [execArbitrationLost, if_pos htx]
  case error =>
    change execBitError s = _
    rw [execBitError, if_pos htx]
  case success =>
    refine ⟨s.setLink
      { s.link with
        receiver := .waiting, tx := restingTx (s.link.txQueue.filterMap leaveEntry) s, abandonRun := 0
        txQueue := s.link.txQueue.filterMap leaveEntry
        idleCount := idleAfterByte (attemptCheck s.link.txQueue) false }, ?_, touches_setLink s _, ?_, ?_⟩
    · change execAttemptSuccess s = _
      rw [execAttemptSuccess, if_pos htx]
    · rw [State.setLink_link, hq]
      exact filterMap_leaveEntry he hwait
    · have hcheck : attemptCheck s.link.txQueue = frameCheck (frameBody e.frame) := by
        rw [attemptCheck, hq, find_underAttempt he hwait]
      simp only [State.setLink_link, restingTx_eq, hcheck, idleAfterByte_false]
  case line =>
    rw [State.lineOutput, htx, hq, find_underAttempt he hwait]
    rfl
  · rw [State.lineOutput, htx]
    rfl
  · cases htx : s.link.tx <;> simp_all [State.lineOutput]

theorem map_failedEntry {p q : List TxEntry} {e : TxEntry} (he : e.underAttempt = true)
    (h : ∀ x ∈ p ++ q, x.underAttempt = false) :
    (p ++ e :: q).map failedEntry =
      p ++ { e with
             frame := e.held.getD e.frame, held := none, failed := e.failed + 1, underAttempt := false } :: q := by
  have hsame {l : List TxEntry} (hl : ∀ x ∈ l, x.underAttempt = false) : l.map failedEntry = l :=
    (List.map_congr_left fun x hx => by simp [failedEntry, hl x hx]).trans (List.map_id l)
  rw [List.map_append, List.map_cons, hsame fun x hx => h x (List.mem_append_left q hx),
    hsame fun x hx => h x (List.mem_append_right p hx), failedEntry, if_pos he]
  rfl

/-- Settles O19: the number of the failure decides between a retry, the pause and the abandonment. -/
theorem breakEndCountsFailure : Obligations.BreakEndCountsFailure := by
  unfold Obligations.BreakEndCountsFailure
  refine ⟨fun s p q e htx hq he hwait hfailed => ?retry, fun s p q e htx hq he hwait hfailed => ?abandon⟩
  case retry =>
    have hn : failedAttempts s.link.txQueue = e.failed + 1 := by rw [failedAttempts, hq, find_underAttempt he hwait]
    change execBreakEnd s = _
    rw [execBreakEnd, if_pos htx, hn, hq, map_failedEntry he hwait]
    dsimp only
    rw [if_neg (by omega)]
    by_cases h : e.failed = 2
    · rw [if_pos (by omega), if_pos h, if_pos h]
    · rw [if_neg (by omega), if_neg h, if_neg h, restingTx_eq]
      simp
  case abandon =>
    have hn : failedAttempts s.link.txQueue = e.failed + 1 := by rw [failedAttempts, hq, find_underAttempt he hwait]
    have hanswers : Answers .breakEnd s (abandonEntry s) := by
      change execBreakEnd s = _
      rw [execBreakEnd, if_pos htx, hn]
      dsimp only
      rw [if_pos (by omega)]
    have hqueue := filterMap_leaveEntry he hwait
    rw [← hq] at hqueue
    refine ⟨abandonEntry s, hanswers, fun b hb => ?_, ?_, ?_, ?_, fun hrun => ?_, fun hrun => ?_⟩
    · cases b
      case link | rqs => simp at hb
      all_goals simp [Agree]
    · simp [abandonEntry, recordCode_rqs]
    · refine Eq.trans ?_ hqueue
      rw [abandonEntry]
      dsimp only
      split_ifs <;> simp [Link.mute]
    · rw [abandonEntry]
      dsimp only
      split_ifs <;> simp [Link.mute, satInc]
    · simp [abandonEntry, hrun, Link.mute]
    · have hlt : ¬4 ≤ s.link.abandonRun + 1 := by omega
      simp [abandonEntry, hlt, restingTx_eq]

/-! ## The timers (R12, R13, R20, R142) -/

/-- A request that a silent station loses. -/
def SilentStops (station : Nat) (q : ChimeRequest) : Prop :=
  q.source = .station station ∧ q.pattern.continuous = true

/-- The roster with a station SILENT, and its continuous chime stopped (R20, R142). -/
def silenced (station : Nat) (s : State) : State :=
  (s.setLink
    { s.link with
      roster := s.link.roster.setIfInBounds (station - 1) { presence := .silent, timer := none } }).setWnu
    (s.wnu.stationSilent station)

theorem execRosterTimerExpiry_eq {i : Fin 14} (hl : s.link.listening = true)
    (hpresent : (s.link.roster[i]).presence = .present) (htimer : (s.link.roster[i]).timer.isSome = true) :
    exec (.rosterTimerExpiry (i.val + 1)) s =
      done (if i.val + 1 = 3 then evalWarnings [.bodyLinkLost] (silenced (i.val + 1) s) else silenced (i.val + 1) s) := by
  have hentry : s.link.roster[i.val + 1 - 1]? = some s.link.roster[i] := by simp
  change execRosterTimerExpiry (i.val + 1) s = _
  rw [execRosterTimerExpiry, hentry]
  dsimp only
  rw [if_pos ⟨by omega, hl, hpresent, htimer⟩]
  rfl

/-- The chimes that a silent station leaves. -/
theorem stationSilent_spec (station : Nat) (w : WarningUnit) :
    w.stationSilent station =
        { w with
          tone := (w.stationSilent station).tone
          chimes := w.chimes.filter (fun q => q.source ≠ .station station ∨ q.pattern.continuous = false) } ∧
      (∀ r, w.tone = .sounding r → SilentStops station r → (w.stationSilent station).tone = .spacing) ∧
      ((∀ r, w.tone = .sounding r → ¬SilentStops station r) → (w.stationSilent station).tone = w.tone) := by
  have hfilter : w.chimes.filter (fun r => r.source != ChimeSource.station station || !r.pattern.continuous) =
      w.chimes.filter (fun q => q.source ≠ .station station ∨ q.pattern.continuous = false) := by
    refine List.filter_congr fun q _ => ?_
    rw [Bool.eq_iff_iff]
    simp
  rw [WarningUnit.stationSilent, hfilter]
  refine ⟨stopSounding_wnu _ _ _, fun r hr hstops => ?_, fun hno => ?_⟩
  · simp [WarningUnit.stopSounding, hr, hstops.1, hstops.2, WarningUnit.endPattern]
  · unfold WarningUnit.stopSounding
    cases htone : w.tone with
    | sounding r =>
      have hr := hno r htone
      simp only [SilentStops] at hr
      simp [hr]
    | idle | silent | spacing => rfl

/-- No continuous request of a silent station waits or sounds. -/
theorem sounds_stationSilent (station : Nat) (w : WarningUnit) :
    Sounds (fun q => ¬SilentStops station q) (w.stationSilent station) := by
  obtain ⟨heq, hstop, hkeep⟩ := stationSilent_spec station w
  refine ⟨fun q hq hstops => ?_, fun q hq hstops => ?_⟩
  · rw [heq] at hq
    simpa [hstops.1, hstops.2] using (List.mem_filter.mp hq).2
  · by_cases h : ∀ r, w.tone = .sounding r → ¬SilentStops station r
    · exact h q (hkeep h ▸ hq) hstops
    · push Not at h
      obtain ⟨r, hr, hr'⟩ := h
      rw [hstop r hr hr'] at hq
      cases hq

/-- Settles O20: the timers of the transmitter leave it at rest; a silent station's chime stops first, and BODY_LINK_LOST
of station 3 then brings in no request of a station. -/
theorem linkTimersEnd : Obligations.LinkTimersEnd := by
  unfold Obligations.LinkTimersEnd
  refine ⟨fun s => ⟨fun htx => ?_, fun htx => ?_⟩, fun s i hl hpresent htimer => ?_⟩
  · change execPauseExpiry s = _
    rw [execPauseExpiry, if_pos htx]
    rfl
  · change execMuteExpiry s = _
    rw [execMuteExpiry, if_pos htx]
    rfl
  intro stops
  have hexec := execRosterTimerExpiry_eq hl hpresent htimer
  have hroster : (silenced (i.val + 1) s).link.roster = s.link.roster.set i { presence := .silent, timer := none } := by
    refine Vector.ext fun j hj => ?_
    simp [silenced, Vector.getElem_setIfInBounds, Vector.getElem_set]
  obtain ⟨hspec, hstop, hkeep⟩ := stationSilent_spec (i.val + 1) s.wnu
  have hsounds : Sounds (fun q => ¬SilentStops (i.val + 1) q) (silenced (i.val + 1) s).wnu :=
    sounds_stationSilent (i.val + 1) s.wnu
  set u := if i.val + 1 = 3 then evalWarnings [.bodyLinkLost] (silenced (i.val + 1) s) else silenced (i.val + 1) s
    with hu
  have hoffers : OnlyOffers (silenced (i.val + 1) s) u := by
    rw [hu]
    split_ifs
    · exact warnSteps_onlyOffers.evalWarnings _ _
    · exact OnlyOffers.of_link rfl
  have htone {R : State → State → Prop} (hR : ToneSteps R) : R (silenced (i.val + 1) s) u := by
    rw [hu]
    split_ifs
    · exact hR.evalTogether [] _ _
    · exact hR.refl _
  refine ⟨refresh u, hexec, fun b hb => ?_, ?_, ?_, ?_, fun r hr hstops => ?_, fun q hq => ?_, fun hne => ?_,
    fun hthree hpowered => ?_⟩
  · cases b
    case link | wnu | msc | seq | draw => simp at hb
    all_goals
      simp only [Agree, refresh_frame]
      rw [hu]
      split_ifs <;> simp [silenced]
  · simp only [refresh_frame]
    rw [hoffers.1, ← hroster]
  · simp only [refresh_frame]
    rw [hoffers.1]
    rfl
  · simp only [refresh_frame]
    rw [hoffers.1]
    rfl
  · simp only [refresh_frame]
    exact htone toneSteps_spacing (hstop r hr hstops)
  · simp only [refresh_frame] at hq
    refine (htone (toneSteps_sounds (P := fun q => ¬SilentStops (i.val + 1) q) (fun q n h => h) fun q n hsrc h => ?_)
      hsounds).1 q hq
    exact ChimeSource.noConfusion (hsrc.symm.trans h.1)
  · have hwnu : (refresh u).wnu = s.wnu.stationSilent (i.val + 1) := by
      simp only [refresh_frame, hu, if_neg (show ¬i.val + 1 = 3 by omega)]
      rfl
    rw [hwnu]
    exact ⟨hspec, hkeep⟩
  · have hu3 : u = evalWarnings [.bodyLinkLost] (silenced (i.val + 1) s) := by rw [hu, if_pos (by omega)]
    refine warningsMoved_evalWarnings (s := silenced (i.val + 1) s) hpowered (by simp) (by simp)
      { records := ?_, list := ?_, counts := ?_, spoiled := rfl, room := fun h => WarningsRoom.of_roomFor h }
      (hu3 ▸ warnAfter_refresh _) <;>
    · rw [show (silenced (i.val + 1) s).wnu = s.wnu.stationSilent (i.val + 1) from rfl, hspec]

end Sys2Proof.Machine
end

section
/-! SUPPORT. A signal record written or changed: the gauges that read it decide their targets (R65 to R68), the drive and
the running timer follow it, and the conditions that read it are worked out (R122, R152). -/

namespace Sys2Proof.Machine

open Sys2Proof

variable {s t : State} {g : GaugeId}

/-! ## The curve (R65) -/

/-- Straight-line interpolation, truncated, lies on the line or less than one step below it. -/
theorem interpolated_between {x a b : Int} {pa pb : Nat} (hab : a < b) (hx : a ≤ x) (hp : pa ≤ pb) :
    let p := pa + ((x - a) * ((pb : Int) - pa) / (b - a)).toNat
    ((p : Int) - pa) * (b - a) ≤ (x - a) * ((pb : Int) - pa) ∧
      (x - a) * ((pb : Int) - pa) < ((p : Int) - pa + 1) * (b - a) := by
  intro p
  have hd : 0 < b - a := by omega
  have hnonneg : 0 ≤ (x - a) * ((pb : Int) - pa) / (b - a) :=
    Int.ediv_nonneg (Int.mul_nonneg (by omega) (by omega)) hd.le
  have hp' : (p : Int) - pa = (x - a) * ((pb : Int) - pa) / (b - a) := by
    rw [Nat.cast_add, Int.toNat_of_nonneg hnonneg]
    ring
  rw [hp']
  exact ⟨Int.ediv_mul_le _ hd.ne', Int.lt_ediv_add_one_mul_self _ hd⟩

theorem curveStep_mono {span a b : Nat} (h : a ≤ b) : curveStep span a ≤ curveStep span b :=
  Nat.div_le_div_right (Nat.mul_le_mul_right span h)

/-- An even curve gives each value R65's step position. -/
theorem curveGives_curveTarget {points : List (Int × Nat)} (h : EvenCurve points) (span : Nat) (v : Int) :
    CurveGives span points v (curveTarget span v points) := by
  induction points with
  | nil => exact ⟨by simp, by simp, fun l a b r heq => by simp at heq⟩
  | cons a points ih =>
    cases points with
    | nil =>
      refine ⟨fun q hq _ => ?_, fun q hq _ => ?_, fun l a b r heq => ?_⟩
      · cases hq; rfl
      · cases hq; rfl
      · have := congrArg List.length heq
        simp at this
        omega
    | cons b rest =>
      obtain ⟨hab, heven⟩ := List.pairwise_cons.mp h
      have hlt : a.1 < b.1 := (hab b List.mem_cons_self).1
      have hle : a.2 ≤ b.2 := (hab b List.mem_cons_self).2
      have ih := ih heven
      have hlast {q : Int × Nat} (hq : (a :: b :: rest).getLast? = some q) : (b :: rest).getLast? = some q := by
        rwa [List.getLast?_cons_cons] at hq
      have hlater {l r : List (Int × Nat)} {x c d : Int × Nat} (heq : a :: b :: rest = (x :: l) ++ c :: d :: r) :
          b :: rest = l ++ c :: d :: r := (List.cons.inj heq).2
      have hmem {l r : List (Int × Nat)} {c d : Int × Nat} (heq : b :: rest = l ++ c :: d :: r) : b.1 ≤ c.1 := by
        have hc : c ∈ b :: rest := by rw [heq]; simp
        rcases List.mem_cons.mp hc with rfl | hc
        · exact le_rfl
        · exact ((List.pairwise_cons.mp heven).1 c hc).1.le
      unfold curveTarget
      split_ifs with hva hvb
      · refine ⟨fun q hq _ => by cases hq; rfl, fun q hq hqv => ?_, fun l c d r heq hcv hvd => ?_⟩
        · have := (hab q (List.mem_of_getLast? (hlast hq))).1
          omega
        · cases l with
          | nil =>
            obtain ⟨rfl, hrest⟩ := List.cons.inj heq
            obtain ⟨rfl, -⟩ := List.cons.inj hrest
            have hva' : v - a.1 = 0 := by omega
            simpa [curveStep, hva'] using hlt
          | cons x l =>
            have := hmem (hlater heq)
            omega
      · refine ⟨fun q hq hqv => ?_, fun q hq hqv => ?_, fun l c d r heq hcv hvd => ?_⟩
        · cases hq
          exact absurd hqv hva
        · have hq' := List.mem_of_getLast? (hlast hq)
          rcases List.mem_cons.mp hq' with rfl | hq'
          · omega
          · have := ((List.pairwise_cons.mp heven).1 q hq').1
            omega
        · cases l with
          | nil =>
            obtain ⟨rfl, hrest⟩ := List.cons.inj heq
            obtain ⟨rfl, -⟩ := List.cons.inj hrest
            exact interpolated_between hlt hcv (curveStep_mono hle)
          | cons x l =>
            have := hmem (hlater heq)
            omega
      · obtain ⟨hhead, hend, hmid⟩ := ih
        refine ⟨fun q hq hqv => ?_, fun q hq hqv => hend q (hlast hq) hqv, fun l c d r heq hcv hvd => ?_⟩
        · cases hq
          exact absurd hqv hva
        · cases l with
          | nil =>
            obtain ⟨rfl, hrest⟩ := List.cons.inj heq
            obtain ⟨rfl, -⟩ := List.cons.inj hrest
            have hv : v = b.1 := by omega
            have hd : 0 < b.1 - a.1 := by omega
            rw [hhead b rfl hv.le, hv]
            refine ⟨by rw [Int.mul_comm], ?_⟩
            nlinarith
          | cons x l => exact hmid l c d r (hlater heq) hcv hvd

/-! ## The targets (R67, R68, R81) -/

/-- A gauge that has decided its target, unless it is PARKING or PARKED. -/
def Gauge.decided (q : Gauge) (target : Nat) : Gauge :=
  if q.state = .parking ∨ q.state = .parked then q else { q with target := target }

theorem gauge_decideTarget_same (s : State) (g : GaugeId) :
    (decideTarget s g).gauge g = (s.gauge g).decided (s.targetOf g) := by
  unfold Gauge.decided
  rcases decideTarget_cases s g with ⟨hpark, heq⟩ | ⟨hparking, hparked, heq⟩ <;> rw [heq]
  · rw [if_pos hpark]
  · rw [if_neg (by simp [hparking, hparked]), State.gauge_setGauge_same]

theorem gauge_decideTarget_other {h : GaugeId} (hne : g ≠ h) (s : State) : (decideTarget s h).gauge g = s.gauge g := by
  rcases decideTarget_cases s h with ⟨-, heq⟩ | ⟨-, -, heq⟩ <;> rw [heq]
  exact State.gauge_setGauge_other s _ hne

theorem targetOf_congr (hpower : t.power = s.power) (hsignal : t.signal g.signal = s.signal g.signal)
    (hsettings : t.settings = s.settings) (hstale : (t.gauge g).staleTarget = (s.gauge g).staleTarget) :
    t.targetOf g = s.targetOf g := by
  rw [State.targetOf, State.targetOf, hpower, hsignal, State.span, State.span, hsettings, hstale,
    State.curve_of_power hpower]

@[simp] theorem Gauge.decided_staleTarget (q : Gauge) (p : Nat) : (q.decided p).staleTarget = q.staleTarget := by
  unfold Gauge.decided
  split_ifs <;> rfl

theorem Gauge.decided_decided (q : Gauge) (p : Nat) : (q.decided p).decided p = q.decided p := by
  unfold Gauge.decided
  split_ifs with h <;> simp_all

/-- Deciding a target changes no other figure that a target goes by. -/
theorem targetOf_decideTarget (s : State) (g h : GaugeId) : (decideTarget s h).targetOf g = s.targetOf g := by
  refine targetOf_congr (by simp) (by simp [State.signal]) (by simp) ?_
  rcases eq_or_ne g h with rfl | hne
  · rw [gauge_decideTarget_same, Gauge.decided_staleTarget]
  · rw [gauge_decideTarget_other hne]

/-- Several gauges decide their targets, each by the record that it reads. -/
theorem gauge_foldl_decideTarget (l : List GaugeId) (s : State) (g : GaugeId) :
    (l.foldl decideTarget s).gauge g = if g ∈ l then (s.gauge g).decided (s.targetOf g) else s.gauge g := by
  induction l generalizing s with
  | nil => rfl
  | cons h l ih =>
    rw [List.foldl_cons, ih, targetOf_decideTarget]
    rcases eq_or_ne g h with rfl | hne
    · simp only [gauge_decideTarget_same, Gauge.decided_decided, List.mem_cons, true_or, if_true, ite_self]
    · simp only [gauge_decideTarget_other hne, List.mem_cons, hne, false_or]

theorem mem_gaugesOf (sig : Signal) (g : GaugeId) : g ∈ gaugesOf sig ↔ g.signal = sig := by
  have hall : g ∈ GaugeId.all := by cases g <;> decide
  simp [gaugesOf, hall]

/-- The gauges that read some signals decide their targets. -/
theorem gauge_foldl_decideTargets (sigs : List Signal) (s : State) (g : GaugeId) :
    (sigs.foldl (fun x h => decideTargets h x) s).gauge g =
      if g.signal ∈ sigs then (s.gauge g).decided (s.targetOf g) else s.gauge g := by
  have hfold : sigs.foldl (fun x h => decideTargets h x) s = (sigs.flatMap gaugesOf).foldl decideTarget s := by
    rw [List.foldl_flatMap]
    rfl
  have hmem : g ∈ sigs.flatMap gaugesOf ↔ g.signal ∈ sigs := by
    simp [List.mem_flatMap, mem_gaugesOf]
  rw [hfold, gauge_foldl_decideTarget]
  simp only [hmem]

theorem parkInForce_foldl_decideTargets (sigs : List Signal) (s : State) :
    (sigs.foldl (fun x h => decideTargets h x) s).gdu.parkInForce = s.gdu.parkInForce := by
  refine foldl_keeps (fun x : State => x.gdu.parkInForce) _ (fun x h => ?_) sigs s
  refine foldl_keeps (fun x : State => x.gdu.parkInForce) _ (fun x g => ?_) _ x
  rcases decideTarget_cases x g with ⟨-, heq⟩ | ⟨-, -, heq⟩ <;> rw [heq]
  rfl

/-- The target that a record gives is the one that R65 to R68 say. -/
theorem targetIs_targetOf {held : Nat} (hheld : (s.signal g.signal).state = .stale → (s.gauge g).staleTarget = held) :
    TargetIs s g held (s.targetOf g) := by
  unfold TargetIs
  refine ⟨fun hc => by simp [State.targetOf, hc], fun hc => ⟨fun v hst hv => ?_, fun hst => ?_, fun hst => ?_⟩⟩
  · refine ⟨heldCurveTarget (s.span g) (gaugeValue g s.settings.capacity v) (s.curve g), ?_, fun heven => ?_⟩
    · simp [State.targetOf, hc, hst, hv]
    · rw [heldCurveTarget_even heven]
      exact curveGives_curveTarget heven _ _
  · simp [State.targetOf, hc, hst, hheld hst]
  · rcases hst with hst | hst | hst <;> simp [State.targetOf, hc, hst]

theorem TargetIs.congr {held p : Nat} (hconf : t.power.configured = s.power.configured)
    (hcurve : t.curve g = s.curve g) (hsignal : t.signal g.signal = s.signal g.signal)
    (hsettings : t.settings = s.settings) (h : TargetIs s g held p) : TargetIs t g held p := by
  unfold TargetIs at h ⊢
  simpa only [hsignal, hconf, State.span, hsettings, hcurve] using h

/-! ## The readers of a record (R67, R122, R152) -/

/-- A state after the readers of a record still shows what they made of it. -/
structure ReadAfter (t t' : State) : Prop where
  warn : WarnAfter t t'
  gdu : t'.gdu = t.gdu
  configured : t'.power.configured = t.power.configured

theorem ReadAfter.refl (t : State) : ReadAfter t t := ⟨WarnAfter.refl t, rfl, rfl⟩

theorem ReadAfter.trans {u : State} (h : ReadAfter s t) (h' : ReadAfter t u) : ReadAfter s u :=
  ⟨h.warn.trans h'.warn, h'.gdu.trans h.gdu, h'.configured.trans h.configured⟩

theorem readAfter_refresh (s : State) : ReadAfter s (refresh s) := ⟨warnAfter_refresh s, by simp, by simp⟩

theorem SameSources.curve (h : SameSources s t) (g : GaugeId) : t.curve g = s.curve g := by
  simp only [State.curve, h.spoiled, h.memory]

/-- The state in which the conditions are worked out after records have changed. -/
def beforeConditions (sigs : List Signal) (s : State) : State :=
  let s1 := sigs.foldl (fun t g => decideTargets g t) s
  let s2 := if sigs.contains .coolantT then noteCoolant s1 else s1
  if sigs.contains .engFlags then followEngine s2 else s2

theorem signalsChanged_eq (sigs : List Signal) (s : State) :
    signalsChanged sigs s =
      evalWarnings ((beforeConditions sigs s).warningsReading sigs) (beforeConditions sigs s) := rfl

theorem foldl_decideTargets_frame (sigs : List Signal) (s : State) :
    let t := sigs.foldl (fun x h => decideTargets h x) s
    t.power = s.power ∧ t.link = s.link ∧ t.signals = s.signals ∧ t.wnu = s.wnu ∧ t.sru = s.sru ∧
      t.settings = s.settings := by
  refine ⟨foldl_keeps State.power _ (fun x h => ?_) sigs s, foldl_keeps State.link _ (fun x h => ?_) sigs s,
    foldl_keeps State.signals _ (fun x h => ?_) sigs s, foldl_keeps State.wnu _ (fun x h => ?_) sigs s,
    foldl_keeps State.sru _ (fun x h => ?_) sigs s, foldl_keeps State.settings _ (fun x h => ?_) sigs s⟩ <;> simp

theorem followEngine_wnu (s : State) :
    (followEngine s).wnu =
      { s.wnu with
        engineRunning := s.engineRunning
        runningTimer :=
          if s.engineRunning then (if s.wnu.engineRunning then s.wnu.runningTimer else some 5000) else none
        runningLong := s.engineRunning && (s.wnu.engineRunning && s.wnu.runningLong) } := by
  unfold followEngine
  dsimp only
  split_ifs with h1 h2 <;> simp [h1] <;> simp [h2]
  rw [← h2]

theorem beforeConditions_frame (sigs : List Signal) (s : State) :
    let t := beforeConditions sigs s
    t.power = s.power ∧ t.link = s.link ∧ t.signals = s.signals ∧ t.settings = s.settings ∧
      t.gdu = (sigs.foldl (fun x h => decideTargets h x) s).gdu := by
  obtain ⟨hpower, hlink, hsignals, -, -, hsettings⟩ := foldl_decideTargets_frame sigs s
  unfold beforeConditions
  dsimp only
  split_ifs <;> simp [hpower, hlink, hsignals, hsettings]

theorem nodup_all : Warning.all.Nodup := by decide

theorem beforeConditions_wnu (sigs : List Signal) (s : State) :
    (Signal.engFlags ∉ sigs → (beforeConditions sigs s).wnu = s.wnu) ∧
      (Signal.engFlags ∈ sigs →
        (beforeConditions sigs s).wnu =
          { s.wnu with
            engineRunning := s.engineRunning
            runningTimer :=
              if s.engineRunning then (if s.wnu.engineRunning then s.wnu.runningTimer else some 5000) else none
            runningLong := s.engineRunning && (s.wnu.engineRunning && s.wnu.runningLong) }) := by
  obtain ⟨-, -, hsignals, hwnu, -, -⟩ := foldl_decideTargets_frame sigs s
  have hrunning (x : State) (hx : x.signals = s.signals) : x.engineRunning = s.engineRunning := by
    simp [State.engineRunning, State.signal, hx]
  unfold beforeConditions
  dsimp only
  refine ⟨fun h => ?_, fun h => ?_⟩
  · rw [if_neg (by simpa using h)]
    split_ifs <;> simp [hwnu]
  · rw [if_pos (by simpa using h), followEngine_wnu]
    generalize hx : (if sigs.contains .coolantT = true then noteCoolant (sigs.foldl (fun x h => decideTargets h x) s)
      else sigs.foldl (fun x h => decideTargets h x) s) = x
    have hxs : x.signals = s.signals ∧ x.wnu = s.wnu := by
      subst hx
      split_ifs <;> simp [hwnu, hsignals]
    rw [hrunning x hxs.1, hxs.2]

theorem beforeConditions_sru (sigs : List Signal) (s : State) :
    (Signal.coolantT ∉ sigs → (beforeConditions sigs s).sru = s.sru) ∧
      (Signal.coolantT ∈ sigs →
        (beforeConditions sigs s).sru =
          if s.power.state = .run ∧ s.coolantWarm = true then
            { s.sru with drive := s.sru.drive.map (fun d => { d with warm := true }) }
          else s.sru) := by
  obtain ⟨hpower, -, hsignals, -, hsru, -⟩ := foldl_decideTargets_frame sigs s
  have hsplit : (beforeConditions sigs s).sru =
      (if sigs.contains .coolantT = true then noteCoolant (sigs.foldl (fun x h => decideTargets h x) s)
        else sigs.foldl (fun x h => decideTargets h x) s).sru := by
    unfold beforeConditions
    dsimp only
    split_ifs <;> simp
  rw [hsplit]
  refine ⟨fun h => ?_, fun h => ?_⟩
  · rw [if_neg (by simpa using h), hsru]
  · have hwarm : (sigs.foldl (fun x h => decideTargets h x) s).coolantWarm = s.coolantWarm := by
      simp [State.coolantWarm, State.signal, hsignals]
    rw [if_pos (by simpa using h), noteCoolant, hpower, hwarm]
    split_ifs
    · rw [State.setSru_sru, hsru]
    · exact hsru

/-- The conditions behind a change of records are those that read them. -/
theorem warningsReading_iff {sigs : List Signal} {ws : List Warning}
    (hws : ∀ n, n ∈ ws ↔ ∃ g ∈ sigs, n ∈ warningsOf g) (s : State) (n : Warning) :
    n ∈ s.warningsReading sigs ↔ n ∈ ReadBy s sigs ws := by
  have hall : n ∈ Warning.all := by cases n <;> decide
  unfold State.warningsReading ReadBy
  split_ifs
  · rfl
  · simp [hall, hws]

theorem warningsReading_nodup (s : State) (sigs : List Signal) : (s.warningsReading sigs).Nodup := by
  unfold State.warningsReading
  split_ifs
  · exact nodup_all.filter _
  · exact nodup_all.filter _

/-- No signal is read for SERVICE_DUE and SERVICE_SOON (R130). -/
theorem warningsReading_service {s : State} {sigs : List Signal} {n : Warning} (h : n ∈ s.warningsReading sigs) :
    n ≠ .serviceDue ∧ n ≠ .serviceSoon := by
  have hnone (g : Signal) : Warning.serviceDue ∉ warningsOf g ∧ Warning.serviceSoon ∉ warningsOf g := by
    cases g <;> decide
  unfold State.warningsReading at h
  split_ifs at h
  · have hread := (List.mem_filter.mp h).2
    constructor <;> rintro rfl <;> simp [State.heldSignals] at hread
  · have hread := (List.mem_filter.mp h).2
    constructor <;> rintro rfl <;> simp [hnone] at hread

theorem WarningsMoved.congr {ws vs free : List Warning} (h : WarningsMoved ws free s t) (hv : ∀ n, n ∈ ws ↔ n ∈ vs) :
    WarningsMoved vs free s t :=
  fun n => ⟨fun hn => (h n).1 ((hv n).mpr hn), fun hn hf => (h n).2 (fun hw => hn ((hv n).mp hw)) hf⟩

/-- The state before records changed, for those that read them: the gauges hold their targets for a STALE record. -/
structure ReadBefore (sigs : List Signal) (s0 s : State) : Prop where
  power : s.power = s0.power
  wnu : s.wnu = s0.wnu
  sru : s.sru = s0.sru
  room : RoomFor s0 0x62 → WarningsRoom s
  park : s.gdu.parkInForce = s0.gdu.parkInForce
  gauge : ∀ g, s.gauge g =
    if g.signal ∈ sigs ∧ (s.signal g.signal).state = .stale then
      { s0.gauge g with staleTarget := (s0.gauge g).target } else s0.gauge g

/-- The gauges follow the records that changed (R67). -/
theorem gaugesFollow_signalsChanged {sigs : List Signal} {s0 s t' : State} (hbefore : ReadBefore sigs s0 s)
    (hafter : ReadAfter (signalsChanged sigs s) t') : GaugesFollow sigs s0 t' := by
  obtain ⟨hpower, -, hsignals, hsettings, hgdu⟩ := beforeConditions_frame sigs s
  have hgdu' : t'.gdu = (sigs.foldl (fun x h => decideTargets h x) s).gdu := by
    rw [hafter.gdu, signalsChanged_eq, ← hgdu]
    simp
  have hgauge (g : GaugeId) : t'.gauge g = if g.signal ∈ sigs then (s.gauge g).decided (s.targetOf g) else s.gauge g := by
    rw [← gauge_foldl_decideTargets, State.gauge, hgdu', State.gauge]
  have hsources : SameSources (signalsChanged sigs s) t' := hafter.warn.sources
  have hsig (g : Signal) : t'.signal g = s.signal g := by
    rw [hsources.signal, signalsChanged_eq]
    simp [State.signal, hsignals]
  refine ⟨by rw [hgdu', parkInForce_foldl_decideTargets, hbefore.park], fun g => ⟨fun hg => ?_, fun hg => ?_⟩⟩
  · rw [hgauge, if_neg hg, hbefore.gauge, if_neg (fun h => hg h.1)]
  · have hs := hbefore.gauge g
    have hstale : (s.signal g.signal).state = .stale → (s.gauge g).staleTarget = (s0.gauge g).target := fun h => by
      rw [hs, if_pos ⟨hg, h⟩]
    have hstate : (s.gauge g).state = (s0.gauge g).state := by
      rw [hs]
      split_ifs <;> rfl
    have htarget : (s.gauge g).target = (s0.gauge g).target := by
      rw [hs]
      split_ifs <;> rfl
    have hp : (t'.gauge g).target =
        if (s0.gauge g).state = .parking ∨ (s0.gauge g).state = .parked then (s0.gauge g).target else s.targetOf g := by
      rw [hgauge, if_pos hg, Gauge.decided, hstate]
      split_ifs
      · exact htarget
      · rfl
    refine ⟨?_, fun hpk => ?_, fun h1 h2 => ?_⟩
    · rw [hp, hgauge, if_pos hg, Gauge.decided, hstate, hs, hsig]
      simp only [hg, true_and]
      split_ifs <;> rfl
    · rw [hp, if_pos hpk]
    · rw [hp, if_neg (by simp [h1, h2])]
      refine TargetIs.congr ?_ ?_ (hsig _) ?_ (targetIs_targetOf hstale)
      · rw [hafter.configured, signalsChanged_eq]
        simp [hpower]
      · rw [hsources.curve, signalsChanged_eq]
        exact congrFun (State.curve_of_power (by simp [hpower])) g
      · rw [hafter.warn.settings, signalsChanged_eq]
        simp [hsettings]

/-- The readers of the records that changed follow them (R67, R122). -/
theorem readersFollow_signalsChanged {sigs : List Signal} {ws : List Warning} {s0 s t' : State}
    (hws : ∀ n, n ∈ ws ↔ ∃ g ∈ sigs, n ∈ warningsOf g) (hbefore : ReadBefore sigs s0 s)
    (hafter : ReadAfter (signalsChanged sigs s) t') : ReadersFollow sigs ws s0 t' := by
  refine ⟨gaugesFollow_signalsChanged hbefore hafter, fun hpowered => ?_⟩
  obtain ⟨hpower, hlink, -, -, -⟩ := beforeConditions_frame sigs s
  have hwnu : (beforeConditions sigs s).wnu.records = s0.wnu.records ∧ (beforeConditions sigs s).wnu.list = s0.wnu.list ∧
      (beforeConditions sigs s).wnu.counts = s0.wnu.counts := by
    rw [← hbefore.wnu]
    by_cases h : Signal.engFlags ∈ sigs
    · rw [(beforeConditions_wnu sigs s).2 h]
      exact ⟨rfl, rfl, rfl⟩
    · rw [(beforeConditions_wnu sigs s).1 h]
      exact ⟨rfl, rfl, rfl⟩
  have hpow : (beforeConditions sigs s).powered = true := by
    rw [State.powered, State.awake, hpower, hbefore.power]
    exact hpowered
  have hmoved : WarningsMoved ((beforeConditions sigs s).warningsReading sigs) [] s0 t' := by
    refine warningsMoved_evalWarnings hpow (warningsReading_nodup _ sigs) (fun n hn => warningsReading_service hn)
      { records := hwnu.1, list := hwnu.2.1, counts := hwnu.2.2, spoiled := by rw [hpower, hbefore.power], room := fun h => ?_ }
      hafter.warn
    have := hbefore.room h
    rwa [WarningsRoom, hlink]
  refine hmoved.congr fun n => ?_
  rw [warningsReading_iff hws]
  have hspoiled : t'.power.patternSpoiled = (beforeConditions sigs s).power.patternSpoiled := by
    rw [hafter.warn.sources.spoiled, signalsChanged_eq]
    simp
  have hmemory : t'.power.patternMemory = (beforeConditions sigs s).power.patternMemory := by
    rw [hafter.warn.sources.memory, signalsChanged_eq]
    simp
  have hheld (k : Warning) : t'.heldSignals k = (beforeConditions sigs s).heldSignals k := by
    simp only [State.heldSignals, hmemory]
  simp only [ReadBy, hspoiled, hheld]

/-- The warm flag follows the coolant (R152). -/
theorem sru_signalsChanged {sigs : List Signal} {s0 s t' : State} (hbefore : ReadBefore sigs s0 s)
    (hafter : WarnAfter (signalsChanged sigs s) t') (hsru : t'.sru = (signalsChanged sigs s).sru) :
    (Signal.coolantT ∈ sigs → WarmFollows s0 t') ∧ (Signal.coolantT ∉ sigs → t'.sru = s0.sru) := by
  obtain ⟨hpower, -, hsignals, -, -⟩ := beforeConditions_frame sigs s
  have hsru' : t'.sru = (beforeConditions sigs s).sru := by
    rw [hsru, signalsChanged_eq]
    simp
  have hstate : t'.power.state = s.power.state := by
    rw [hafter.sources.state, signalsChanged_eq]
    simp [hpower]
  have hsig : t'.signal .coolantT = s.signal .coolantT := by
    rw [hafter.sources.signal, signalsChanged_eq]
    simp [State.signal, hsignals]
  have hwarm : s.coolantWarm = true ↔ Tested (t'.signal .coolantT) (70 ≤ ·) := by
    rw [State.coolantWarm, test_iff, hsig]
    simp
  refine ⟨fun h => ⟨fun hw => ?_, fun hw => ?_⟩, fun h => ?_⟩
  · rw [hsru', (beforeConditions_sru sigs s).2 h, if_pos ⟨hstate ▸ hw.1, hwarm.mpr hw.2⟩, hbefore.sru]
  · rw [hsru', (beforeConditions_sru sigs s).2 h, if_neg, hbefore.sru]
    exact fun hc => hw ⟨hstate ▸ hc.1, hwarm.mp hc.2⟩
  · rw [hsru', (beforeConditions_sru sigs s).1 h, hbefore.sru]

/-- The running timer follows the engine (R122). -/
theorem runningFollows_signalsChanged {sigs : List Signal} {s0 s t' : State} (h : Signal.engFlags ∈ sigs)
    (hbefore : ReadBefore sigs s0 s) (hafter : WarnAfter (signalsChanged sigs s) t')
    (hwnu : t'.wnu = (signalsChanged sigs s).wnu) : RunningFollows s0 t' := by
  obtain ⟨-, -, hsignals, -, -⟩ := beforeConditions_frame sigs s
  have hmoves : OnlyMoves (beforeConditions sigs s) (signalsChanged sigs s) := onlyMoves_evalTogether [] _ _
  rw [OnlyMoves, (beforeConditions_wnu sigs s).2 h, hbefore.wnu] at hmoves
  have hrunning : Running t' ↔ s.engineRunning = true := by
    rw [running_iff, State.engineRunning, State.engineRunning, hafter.sources.signal, signalsChanged_eq]
    simp [State.signal, hsignals]
  unfold RunningFollows
  rw [hrunning, hwnu, hmoves]
  cases s.engineRunning <;> cases s0.wnu.engineRunning <;> simp

end Sys2Proof.Machine
end

section
/-! CLAIM. The Signal Table (chapter 2): the status frames reach their records, and records age. -/

namespace Sys2Proof.Machine

open Sys2Proof

variable {s t : State}

/-! ## Arrivals (R28) -/

/-- A record after an arrival, by whether the field carried a value (R28). -/
theorem written_eq (r : SignalRecord) (v : Option Int) (timer : Timer) :
    r.written v timer =
      { r with
        value := if v = none then r.value else v
        state := if v = none then .invalid else .fresh
        timer := timer, count := min (r.count + 1) 255 } := by
  cases v <;> rfl

theorem written_not_stale (r : SignalRecord) (v : Option Int) (timer : Timer) : (r.written v timer).state ≠ .stale := by
  cases v <;> simp [SignalRecord.written]

theorem signal_foldl_arrive_other {l : List (Signal × Option Int)} {g : Signal} (h : ∀ a ∈ l, g ≠ a.1) (s : State) :
    (l.foldl arrive s).signal g = s.signal g := by
  induction l generalizing s with
  | nil => rfl
  | cons a l ih =>
    rw [List.foldl_cons, ih fun x hx => h x (List.mem_cons_of_mem a hx), arrive,
      State.signal_setSignal_other _ _ (h a List.mem_cons_self)]

theorem signal_foldl_arrive_mem {l : List (Signal × Option Int)} (hl : (l.map (·.1)).Nodup) {g : Signal} {v : Option Int}
    (h : (g, v) ∈ l) (s : State) :
    (l.foldl arrive s).signal g = (s.signal g).written v (some g.refreshMs) := by
  induction l generalizing s with
  | nil => exact absurd h List.not_mem_nil
  | cons a l ih =>
    obtain ⟨ha, hl⟩ := List.nodup_cons.mp hl
    have hne : ∀ x ∈ l, a.1 ≠ x.1 := fun x hx he => ha (List.mem_map.mpr ⟨x, hx, he.symm⟩)
    rw [List.foldl_cons]
    rcases List.mem_cons.mp h with rfl | hin
    · rw [signal_foldl_arrive_other hne, arrive, State.signal_setSignal_same]
    · rw [ih hl hin, arrive, State.signal_setSignal_other _ _ (hne _ hin).symm]

theorem foldl_arrive_frame (l : List (Signal × Option Int)) (s : State) :
    let t := l.foldl arrive s
    t.power = s.power ∧ t.link = s.link ∧ t.wnu = s.wnu ∧ t.sru = s.sru ∧ t.gdu = s.gdu := by
  refine ⟨foldl_keeps State.power _ (fun x h => ?_) l s, foldl_keeps State.link _ (fun x h => ?_) l s,
    foldl_keeps State.wnu _ (fun x h => ?_) l s, foldl_keeps State.sru _ (fun x h => ?_) l s,
    foldl_keeps State.gdu _ (fun x h => ?_) l s⟩ <;> rfl

/-- The records of arrivals have changed, and nothing yet reads them. -/
theorem readBefore_foldl_arrive {l : List (Signal × Option Int)} (hl : (l.map (·.1)).Nodup) {s0 s : State}
    (hpower : s.power = s0.power) (hwnu : s.wnu = s0.wnu) (hsru : s.sru = s0.sru) (hgdu : s.gdu = s0.gdu)
    (hqueue : s.link.txQueue = s0.link.txQueue) : ReadBefore (l.map (·.1)) s0 (l.foldl arrive s) := by
  obtain ⟨hp, hk, hw, hr, hg⟩ := foldl_arrive_frame l s
  refine ⟨hp.trans hpower, hw.trans hwnu, hr.trans hsru, fun h => ?_, by rw [hg, hgdu], fun g => ?_⟩
  · exact WarningsRoom.of_roomFor (by rwa [RoomFor, hk, hqueue])
  · rw [if_neg, State.gauge, State.gauge, hg, hgdu]
    rintro ⟨hin, hst⟩
    obtain ⟨⟨h, v⟩, ha, rfl⟩ := List.mem_map.mp hin
    rw [signal_foldl_arrive_mem hl ha] at hst
    exact written_not_stale _ _ _ hst

theorem onlyOffers_signalsChanged (sigs : List Signal) (s : State) : OnlyOffers s (signalsChanged sigs s) := by
  rw [signalsChanged_eq]
  exact (OnlyOffers.of_link (beforeConditions_frame sigs s).2.1).trans (warnSteps_onlyOffers.evalWarnings _ _)

/-- What follows a change of records leaves the records alone. -/
theorem signal_signalsChanged (sigs : List Signal) (s : State) (g : Signal) :
    (signalsChanged sigs s).signal g = s.signal g := by
  simp [State.signal]

/-- A status frame of its length from its expected source takes effect (R30, R31). -/
theorem statusFrame_of_fits {expected len : Nat} {f : Frame} (hsource : f.source = expected) (hlen : f.data.length = len)
    (effect : State → State) (s : State) : statusFrame expected len effect f s = effect s := by
  simp [statusFrame, hsource, hlen]

/-- What is carried out behind the readers of a record leaves to them what they made of it. -/
theorem ReadAfter.of_eq {t t' : State} (hpower : t'.power = t.power) (hlink : t'.link = t.link)
    (hsignals : t'.signals = t.signals) (hinput : t'.input = t.input) (hgdu : t'.gdu = t.gdu) (hstc : t'.stc = t.stc)
    (hwnu : t'.wnu = t.wnu) (hclock : t'.clock = t.clock) (hsettings : t'.settings = t.settings) : ReadAfter t t' where
  warn :=
    { elsewhere := fun n => Elsewhere.of_wnu hwnu n
      list := by rw [hwnu]
      sources := SameSources.of_onlyMoves (by rw [OnlyMoves, hwnu]) (OnlyOffers.of_link hlink) hpower hsignals hinput hgdu
        hstc hclock hsettings
      settings := hsettings
      queue := fun f _ h => by rwa [Queued, hlink] }
  gdu := hgdu
  configured := by rw [hpower]

theorem fuelHandOn_trc_first {count : Nat} (h : s.trc.fuelRef = none) :
    (fuelHandOn count s).trc = { s.trc with fuelRef := some count } := by
  unfold fuelHandOn
  dsimp only
  rw [h]
  rfl

theorem fuelHandOn_trc {count ref : Nat} (h : s.trc.fuelRef = some ref) :
    (fuelHandOn count s).trc =
      if 500 < (count + 65536 - ref) % 65536 then TripComputer.gap { s.trc with fuelRef := some count }
      else if s.power.state = .run then
        TripComputer.addFuel { s.trc with fuelRef := some count } ((count + 65536 - ref) % 65536)
      else { s.trc with fuelRef := some count } := by
  unfold fuelHandOn
  dsimp only
  rw [h]
  dsimp only
  split_ifs <;> rfl

/-- The fuel count in two bytes (R34). -/
theorem engineFuelCount_eq (b0 b1 b2 b3 b4 b5 : Byte) :
    engineFuelCount [b0, b1, b2, b3, b4, b5] = 256 * b3.toNat + b4.toNat := by
  simp [engineFuelCount, slice, beNat]

/-- ENGINE_STATUS from the expected source: its arrivals, then its fuel count (R34). -/
theorem exec_engineStatus {f : Frame} {rest : List Frame} {b0 b1 b2 b3 b4 b5 : Byte} (h : HandsOn s 0x10 f rest)
    (hsource : f.source = s.settings.srcEngine) (hdata : f.data = [b0, b1, b2, b3, b4, b5]) :
    exec .engineStatus s =
      done (fuelHandOn (256 * b3.toNat + b4.toNat)
        (arriveAll (engineArrivals [b0, b1, b2, b3, b4, b5]) (s.setLink { s.link with ring := rest }))) := by
  have hexec : exec .engineStatus s = done (statusFrame s.settings.srcEngine 6
      (fun u => fuelHandOn (engineFuelCount f.data) (arriveAll (engineArrivals f.data) u)) f
      (s.setLink { s.link with ring := rest })) := congrArg done (dispatch_of_handsOn h _)
  rw [hexec, statusFrame_of_fits hsource (by rw [hdata]; rfl), hdata, engineFuelCount_eq]

/-- What a frame of arrivals comes to, whatever follows it that leaves its readers alone. -/
structure ArrivalsTaken (l : List (Signal × Option Int)) (s : State) (rest : List Frame) (t : State) : Prop where
  ring : t.link.ring = rest
  roster : t.link.roster = s.link.roster
  receiver : t.link.receiver = s.link.receiver
  arrived : ∀ g v, (g, v) ∈ l → t.signal g = (s.signal g).written v (some g.refreshMs)
  others : ∀ g, (∀ a ∈ l, g ≠ a.1) → t.signal g = s.signal g
  readers : ∀ ws : List Warning, (∀ n, n ∈ ws ↔ ∃ g ∈ l.map (·.1), n ∈ warningsOf g) →
    ReadersFollow (l.map (·.1)) ws s t

/-- The fields of a frame reach their records together, and these their readers (R28, R67, R122). -/
theorem arrivalsTaken_arriveAll {l : List (Signal × Option Int)} (hl : (l.map (·.1)).Nodup) (s : State)
    (rest : List Frame) {t : State} (hlink : t.link = (arriveAll l (s.setLink { s.link with ring := rest })).link)
    (hafter : ReadAfter (arriveAll l (s.setLink { s.link with ring := rest })) t) : ArrivalsTaken l s rest t := by
  have hbefore : ReadBefore (l.map (·.1)) s (l.foldl arrive (s.setLink { s.link with ring := rest })) :=
    readBefore_foldl_arrive hl rfl rfl rfl rfl rfl
  have hkept : t.link = { s.link with
      ring := rest, txQueue := t.link.txQueue, tx := t.link.tx
      counters := { s.link.counters with txDisplaced := t.link.counters.txDisplaced } } := by
    have h := (onlyOffers_signalsChanged (l.map (·.1)) (l.foldl arrive (s.setLink { s.link with ring := rest }))).1
    rw [(foldl_arrive_frame l _).2.1] at h
    rw [hlink]
    exact h
  have hsignal (g : Signal) : t.signal g = (l.foldl arrive (s.setLink { s.link with ring := rest })).signal g := by
    rw [hafter.warn.sources.signal]
    exact signal_signalsChanged _ _ g
  exact
    { ring := by rw [hkept]
      roster := by rw [hkept]
      receiver := by rw [hkept]
      arrived := fun g v h => (hsignal g).trans (signal_foldl_arrive_mem hl h _)
      others := fun g h => (hsignal g).trans (signal_foldl_arrive_other h _)
      readers := fun ws hws => readersFollow_signalsChanged hws hbefore hafter }

/-- The state that ENGINE_STATUS leads to, its arrivals being whatever they are (R28, R34, R67, R90, R122). -/
theorem arrivalsTaken_fuelHandOn {l : List (Signal × Option Int)}
    (hl : l.map (·.1) = [.engRpm, .coolantT, .oilP, .engFlags]) (count : Nat) (s : State) (rest : List Frame) :
    let t := refresh (fuelHandOn count (arriveAll l (s.setLink { s.link with ring := rest })))
    ArrivalsTaken l s rest t ∧ Touches [.link, .signals, .gdu, .trc, .wnu, .sru, .msc, .seq, .draw] s t ∧
      WarmFollows s t ∧ RunningFollows s t := by
  intro t
  have hnodup : (l.map (·.1)).Nodup := by rw [hl]; decide
  have hbefore : ReadBefore (l.map (·.1)) s (l.foldl arrive (s.setLink { s.link with ring := rest })) :=
    readBefore_foldl_arrive hnodup rfl rfl rfl rfl rfl
  have hafter : ReadAfter (arriveAll l (s.setLink { s.link with ring := rest })) t :=
    ReadAfter.of_eq (by simp [t]) (by simp [t]) (by simp [t]) (by simp [t]) (by simp [t]) (by simp [t]) (by simp [t])
      (by simp [t]) (by simp [t])
  refine ⟨arrivalsTaken_arriveAll hnodup s rest (by simp [t]) hafter, fun b hb => ?_, ?_, ?_⟩
  · cases b
    case link | signals | gdu | trc | wnu | sru | msc | seq | draw => simp at hb
    all_goals simp [Agree, t]
  · exact (sru_signalsChanged hbefore hafter.warn (by simp [t, arriveAll])).1 (by rw [hl]; decide)
  · exact runningFollows_signalsChanged (by rw [hl]; decide) hbefore hafter.warn (by simp [t, arriveAll])

/-- Settles O22: the arrivals reach their records and these their readers; the fuel count then goes to the trips. -/
theorem engineStatusIsTaken : Obligations.EngineStatusIsTaken := by
  unfold Obligations.EngineStatusIsTaken
  refine ⟨fun s f rest b0 b1 b2 b3 b4 b5 h hsource hdata => ?_, fun s f rest b0 b1 b2 b3 b4 b5 h hsource hdata => ?_⟩ <;>
    have hexec := exec_engineStatus h hsource hdata
  · intro arrived
    have hsignals : (engineArrivals [b0, b1, b2, b3, b4, b5]).map (·.1) = [.engRpm, .coolantT, .oilP, .engFlags] := rfl
    obtain ⟨⟨hring, hroster, hreceiver, harrived, hothers, hreaders⟩, htouches, hwarm, hrunning⟩ :=
      arrivalsTaken_fuelHandOn hsignals (256 * b3.toNat + b4.toNat) s rest
    rw [hsignals] at hreaders
    refine ⟨_, hexec, htouches, hring, hroster, hreceiver, ?_, ?_, ?_, ?_, fun g h1 h2 h3 h4 => ?_, ?_, hwarm, hrunning⟩
    · rw [harrived .engRpm (some (32 * b0.toNat : Nat)) (by simp [engineArrivals, byteAt, Nat.mul_comm]), written_eq]
      rfl
    · rw [harrived .coolantT (if b1 = 0xFF then none else some ((b1.toNat : Int) - 40))
        (by simp [engineArrivals, byteAt, marked]), written_eq]
      rfl
    · rw [harrived .oilP (if b2 = 0xFF then none else some (4 * b2.toNat : Nat))
        (by simp [engineArrivals, byteAt, marked, Int.mul_comm]), written_eq]
      rfl
    · rw [harrived .engFlags (some (b5.toNat % 8 : Nat)) (by simp [engineArrivals, byteAt]), written_eq]
      rfl
    · exact hothers g (by simp [engineArrivals, h1, h2, h3, h4])
    · exact hreaders _ (by intro n; cases n <;> decide)
  · intro count added
    generalize engineArrivals [b0, b1, b2, b3, b4, b5] = l at hexec
    have htrc : (arriveAll l (s.setLink { s.link with ring := rest })).trc = s.trc := by simp
    have hpower : (arriveAll l (s.setLink { s.link with ring := rest })).power = s.power := by simp
    generalize arriveAll l (s.setLink { s.link with ring := rest }) = u at *
    refine ⟨_, hexec, fun href => ?_, fun ref href hle => ⟨fun hq => ?_, fun hq hrun => ?_, fun hq hrun => ?_⟩⟩
    · rw [(refresh_frame _).2.2.2.2.2.1, fuelHandOn_trc_first (by rw [htrc, href]), htrc]
    · rw [(refresh_frame _).2.2.2.2.2.1, fuelHandOn_trc (by rw [htrc, href]), if_pos hq, htrc]
      rfl
    · rw [(refresh_frame _).2.2.2.2.2.1, fuelHandOn_trc (by rw [htrc, href]), if_neg (by omega), hpower, if_pos hrun, htrc]
      rfl
    · rw [(refresh_frame _).2.2.2.2.2.1, fuelHandOn_trc (by rw [htrc, href]), if_neg (by omega), hpower, if_neg hrun, htrc]

/-- A restart of the courtesy timer is nothing that the readers of a record read. -/
theorem readAfter_restartCourtesy (s : State) : ReadAfter s (restartCourtesy s) := by
  have hkept : ∀ u : State, u = restartCourtesy s → u.power.state = s.power.state ∧
      u.power.patternSpoiled = s.power.patternSpoiled ∧ u.power.patternMemory = s.power.patternMemory ∧
      u.power.configured = s.power.configured := by
    rintro u rfl
    unfold restartCourtesy
    split_ifs <;> exact ⟨rfl, rfl, rfl, rfl⟩
  obtain ⟨hstate, hspoiled, hmemory, hconfigured⟩ := hkept _ rfl
  have hwnu : (restartCourtesy s).wnu = s.wnu := by simp
  exact
    { warn :=
        { elsewhere := fun n => Elsewhere.of_wnu hwnu n
          list := by rw [hwnu]
          sources :=
            { SameSources.refl s with
              state := hstate, spoiled := hspoiled, memory := hmemory, signals := by simp, filters := by simp
              gauges := by simp, fault := by simp, valid := by simp, reserve := by simp, roster := by simp
              runningLong := by simp, linkWindow := by simp, beltWindow := by simp, odoRestored := by simp
              configDefaults := by simp }
          settings := by simp
          queue := fun f _ h => by simpa [Queued] using h }
      gdu := by simp
      configured := hconfigured }

theorem exec_transStatus {f : Frame} {rest : List Frame} {b0 b1 : Byte} (h : HandsOn s 0x12 f rest)
    (hsource : f.source = s.settings.srcTrans) (hdata : f.data = [b0, b1]) :
    exec .transStatus s = done (arriveAll (transArrivals [b0, b1]) (s.setLink { s.link with ring := rest })) := by
  have hexec : exec .transStatus s = done (statusFrame s.settings.srcTrans 2 (arriveAll (transArrivals f.data)) f
      (s.setLink { s.link with ring := rest })) := congrArg done (dispatch_of_handsOn h _)
  rw [hexec, statusFrame_of_fits hsource (by rw [hdata]; rfl), hdata]

theorem exec_bodyStatus {f : Frame} {rest : List Frame} {b0 b1 b2 : Byte} (h : HandsOn s 0x20 f rest)
    (hsource : f.source = s.settings.srcBody) (hdata : f.data = [b0, b1, b2]) :
    exec .bodyStatus s =
      done (if bodyChanged s (bodyArrivals [b0, b1, b2]) = true then
        restartCourtesy (arriveAll (bodyArrivals [b0, b1, b2]) (s.setLink { s.link with ring := rest }))
      else arriveAll (bodyArrivals [b0, b1, b2]) (s.setLink { s.link with ring := rest })) := by
  have hexec : exec .bodyStatus s = done (statusFrame s.settings.srcBody 3
      (fun u =>
        let a := bodyArrivals f.data
        let v := arriveAll a u
        if bodyChanged u a then restartCourtesy v else v) f
      (s.setLink { s.link with ring := rest })) := congrArg done (dispatch_of_handsOn h _)
  rw [hexec, statusFrame_of_fits hsource (by rw [hdata]; rfl), hdata]
  rfl

/-- The arriving flags differ from a value held, of fields that all carry one (R36). -/
theorem bodyChanged_iff {fields : List (Signal × Int)} :
    bodyChanged s (fields.map fun p => (p.1, some p.2)) = true ↔
      ∃ p ∈ fields, ∃ v, (s.signal p.1).value = some v ∧ v ≠ p.2 := by
  simp only [bodyChanged, List.any_map, List.any_eq_true, Function.comp_apply, Bool.and_eq_true, bne_iff_ne]
  refine exists_congr fun p => and_congr_right fun _ => ?_
  cases (s.signal p.1).value <;> simp

/-- The state that TRANS_STATUS leads to, its arrivals being whatever they are (R35). -/
theorem arrivalsTaken_refresh {l : List (Signal × Option Int)} (hl : (l.map (·.1)).Nodup) (s : State) (rest : List Frame) :
    let t := refresh (arriveAll l (s.setLink { s.link with ring := rest }))
    ArrivalsTaken l s rest t ∧ Touches [.link, .signals, .gdu, .wnu, .sru, .msc, .seq, .draw] s t := by
  intro t
  refine ⟨arrivalsTaken_arriveAll hl s rest (by simp [t]) (readAfter_refresh _), fun b hb => ?_⟩
  cases b
  case link | signals | gdu | wnu | sru | msc | seq | draw => simp at hb
  all_goals simp [Agree, t]

/-- The state that BODY_STATUS leads to, its arrivals being whatever they are (R36, R182). -/
theorem arrivalsTaken_restartCourtesy {l : List (Signal × Option Int)} (hl : (l.map (·.1)).Nodup)
    (changed : Bool) (s : State) (rest : List Frame) :
    let u := arriveAll l (s.setLink { s.link with ring := rest })
    let t := refresh (if changed then restartCourtesy u else u)
    ArrivalsTaken l s rest t ∧ Touches [.power, .link, .signals, .gdu, .wnu, .sru, .msc, .seq, .draw] s t ∧
      t.power =
        if changed = true ∧ s.power.state = .courtesy ∧ s.power.endPhase = .none then
          { s.power with courtesyTimer := some (1000 * s.settings.courtesyS) }
        else s.power := by
  intro u t
  have hpower : u.power = s.power := by simp [u]
  have hsettings : u.settings = s.settings := by simp [u]
  refine ⟨arrivalsTaken_arriveAll hl s rest ?_ ?_, fun b hb => ?_, ?_⟩
  · cases changed <;> simp [t, u]
  · cases changed
    · exact readAfter_refresh u
    · exact (readAfter_restartCourtesy u).trans (readAfter_refresh _)
  · cases b
    case power | link | signals | gdu | wnu | sru | msc | seq | draw => simp at hb
    all_goals cases changed <;> simp [Agree, t, u]
  · cases changed
    · simp [t, hpower]
    · simp only [t, if_true, refresh_frame, restartCourtesy, hpower, hsettings, true_and]
      split_ifs <;> simp [hpower]

/-- The fields of a BODY_STATUS, all with a value (R36). -/
def bodyFields (b0 b1 b2 : Byte) : List (Signal × Int) :=
  let bit1 (i : Nat) : Int := if b1.getLsbD i then 1 else 0
  [(.doors, (b0.toNat % 64 : Nat)), (.lamps, (b1.toNat % 4 : Nat)), (.keyIn, bit1 2), (.belt, bit1 3),
    (.parkBrake, bit1 4), (.washer, bit1 5), (.bulbs, (b2.toNat : Nat))]

theorem bodyArrivals_eq (b0 b1 b2 : Byte) :
    bodyArrivals [b0, b1, b2] = (bodyFields b0 b1 b2).map fun p => (p.1, some p.2) := by
  have hbit (i : Nat) : (bitNat b1 i : Int) = if b1.getLsbD i then 1 else 0 := by
    unfold bitNat bit
    split_ifs <;> rfl
  simp [bodyArrivals, bodyFields, byteAt, hbit]

/-- Settles O23: the arrivals reach their records and these their readers; a change of a body flag restarts the
courtesy timer behind them. -/
theorem transAndBodyStatusUpdateSignals : Obligations.TransAndBodyStatusUpdateSignals := by
  unfold Obligations.TransAndBodyStatusUpdateSignals
  intro s f rest arrived
  refine ⟨fun b0 b1 h hsource hdata => ?_, fun b0 b1 b2 h hsource hdata => ?_⟩
  · have hexec := exec_transStatus h hsource hdata
    have hsignals : (transArrivals [b0, b1]).map (·.1) = [.gear, .transT] := rfl
    obtain ⟨⟨hring, -, -, harrived, hothers, hreaders⟩, htouches⟩ :=
      arrivalsTaken_refresh (l := transArrivals [b0, b1]) (by rw [hsignals]; decide) s rest
    rw [hsignals] at hreaders
    refine ⟨_, hexec, htouches, hring, ?_, ?_, fun g h1 h2 => ?_, ?_⟩
    · rw [harrived .gear (if b0.toNat ≤ 5 then some (b0.toNat : Int) else none)
        (by simp [transArrivals, byteAt, Nat.lt_succ_iff]), written_eq]
      rfl
    · rw [harrived .transT (if b1 = 0xFF then none else some ((b1.toNat : Int) - 40))
        (by simp [transArrivals, byteAt, marked]), written_eq]
      rfl
    · exact hothers g (by simp [transArrivals, h1, h2])
    · exact hreaders _ (by intro n; cases n <;> decide)
  · intro bit1 fields
    have hexec := exec_bodyStatus h hsource hdata
    have hfields : bodyArrivals [b0, b1, b2] = fields.map fun p => (p.1, some p.2) := bodyArrivals_eq b0 b1 b2
    have hsignals : fields.map (·.1) = [.doors, .lamps, .keyIn, .belt, .parkBrake, .washer, .bulbs] := rfl
    clear_value fields
    have hmap : (fields.map fun p => (p.1, some p.2)).map (·.1) = fields.map (·.1) := by simp
    have hrefresh : ∀ p ∈ fields, p.1.refreshMs = 600 := by
      intro p hp
      have hin : p.1 ∈ fields.map (·.1) := List.mem_map_of_mem hp
      rw [hsignals] at hin
      revert hin
      cases p.1 <;> decide
    obtain ⟨⟨hring, -, -, harrived, hothers, hreaders⟩, htouches, hpower⟩ :=
      arrivalsTaken_restartCourtesy (l := fields.map fun p => (p.1, some p.2)) (by rw [hmap, hsignals]; decide)
        (bodyChanged s (fields.map fun p => (p.1, some p.2))) s rest
    rw [hmap] at hreaders
    rw [hfields] at hexec
    refine ⟨_, hexec, htouches, hring, fun p hp => ?_, fun g hg => ?_, ?_, fun hx hs he => ?_, fun hx => ?_⟩
    · rw [harrived p.1 (some p.2) (List.mem_map.mpr ⟨p, hp, rfl⟩), written_eq, hrefresh p hp]
    · refine hothers g fun a ha => ?_
      obtain ⟨p, hp, rfl⟩ := List.mem_map.mp ha
      exact hg p hp
    · exact hreaders _ (by rw [hsignals]; intro n; cases n <;> decide)
    · exact hpower.trans (if_pos ⟨bodyChanged_iff.mpr hx, hs, he⟩)
    · refine hpower.trans (if_neg ?_)
      rintro ⟨hchanged, hs, he⟩
      obtain ⟨p, hp, v, hv, hne⟩ := bodyChanged_iff.mp hchanged
      rcases hx with hx | hx | hx
      · exact hne (hx p hp v hv)
      · exact hx hs
      · exact hx he

/-! ## The age of a record (R29) -/

/-- The gauges of a list hold their targets. -/
theorem gauge_foldl_hold (l : List GaugeId) (s : State) (g : GaugeId) :
    (l.foldl (fun t h => t.setGauge h { t.gauge h with staleTarget := (t.gauge h).target }) s).gauge g =
      if g ∈ l then { s.gauge g with staleTarget := (s.gauge g).target } else s.gauge g := by
  induction l generalizing s with
  | nil => rfl
  | cons h l ih =>
    rw [List.foldl_cons, ih]
    rcases eq_or_ne g h with rfl | hne
    · simp
    · simp [State.gauge_setGauge_other _ _ hne, hne]

theorem gauge_holdTargets (sig : Signal) (s : State) (g : GaugeId) :
    (holdTargets sig s).gauge g =
      if g.signal = sig then { s.gauge g with staleTarget := (s.gauge g).target } else s.gauge g := by
  rw [holdTargets, gauge_foldl_hold]
  simp only [mem_gaugesOf]

theorem parkInForce_holdTargets (sig : Signal) (s : State) :
    (holdTargets sig s).gdu.parkInForce = s.gdu.parkInForce :=
  foldl_keeps (fun x : State => x.gdu.parkInForce)
    (fun t h => t.setGauge h { t.gauge h with staleTarget := (t.gauge h).target }) (fun _ _ => rfl) _ s

/-- A record whose timer ends: what it becomes (R29). -/
theorem expired_eq {r : SignalRecord} (n : Nat) (h : r.state = .fresh ∨ r.state = .invalid ∨ r.state = .stale) :
    r.expired n =
      if r.state = .stale then { r with state := .lost, timer := none }
      else { r with state := .stale, timer := some (2 * n) } := by
  unfold SignalRecord.expired
  rcases h with h | h | h <;> rw [h] <;> rfl

/-- A record has aged, its gauges hold what they should, and nothing yet reads it. -/
def aged (g : Signal) (s : State) : State :=
  let s1 := s.setSignal g ((s.signal g).expired g.refreshMs)
  let s2 := if ((s.signal g).expired g.refreshMs).state = .stale then holdTargets g s1 else s1
  if g = .engFlags ∧ ((s.signal g).expired g.refreshMs).state = .lost then countLost s2 else s2

theorem exec_signalExpiry {g : Signal} (h : (s.signal g).timer.isSome = true) :
    exec (.signalExpiry g) s = done (signalsChanged [g] (aged g s)) :=
  if_pos h

theorem aged_frame (g : Signal) (s : State) :
    let t := aged g s
    t.power = s.power ∧ t.link = s.link ∧ t.wnu = s.wnu ∧ t.sru = s.sru ∧ t.gdu.parkInForce = s.gdu.parkInForce ∧
      t.signals = (s.setSignal g ((s.signal g).expired g.refreshMs)).signals ∧ t.input = s.input ∧ t.odo = s.odo ∧
      t.stc = s.stc ∧ t.clock = s.clock ∧ t.rqs = s.rqs ∧ t.settings = s.settings ∧ t.store = s.store ∧
      t.pending = s.pending := by
  unfold aged
  dsimp only
  split_ifs <;> simp [parkInForce_holdTargets, countLost]

theorem aged_trc (g : Signal) (s : State) :
    (aged g s).trc =
      if g = .engFlags ∧ ((s.signal g).expired g.refreshMs).state = .lost then { s.trc with fuelRef := none } else s.trc := by
  unfold aged
  dsimp only
  split_ifs <;> simp [countLost]

theorem gauge_aged (g : Signal) (s : State) (h : GaugeId) :
    (aged g s).gauge h =
      if h.signal = g ∧ ((s.signal g).expired g.refreshMs).state = .stale then
        { s.gauge h with staleTarget := (s.gauge h).target } else s.gauge h := by
  have hlost (u : State) : (countLost u).gauge h = u.gauge h := rfl
  have hset (r : SignalRecord) : (s.setSignal g r).gauge h = s.gauge h := rfl
  unfold aged
  dsimp only
  split_ifs with h1 h2 h3 h4 h5 <;> simp_all [gauge_holdTargets]

theorem readBefore_aged (g : Signal) (s : State) : ReadBefore [g] s (aged g s) := by
  obtain ⟨hpower, hlink, hwnu, hsru, hpark, hsignals, -⟩ := aged_frame g s
  have hsame : (aged g s).signal g = (s.signal g).expired g.refreshMs := by
    rw [State.signal, hsignals]
    exact State.signal_setSignal_same _ _ _
  refine ⟨hpower, hwnu, hsru, fun h => WarningsRoom.of_roomFor (by rwa [RoomFor, hlink]), hpark, fun h => ?_⟩
  rw [gauge_aged]
  by_cases hg : h.signal = g
  · subst hg
    simp [hsame]
  · simp [hg]

/-- Settles O25: the record ages, its gauges hold or fall, and what reads it follows. -/
theorem signalAges : Obligations.SignalAges := by
  unfold Obligations.SignalAges
  intro s g hpeer htimer hstate
  obtain ⟨hpower, hlink, hwnu, hsru, hpark, hsignals, hframe⟩ := aged_frame g s
  have hbefore := readBefore_aged g s
  have hafter := readAfter_refresh (signalsChanged [g] (aged g s))
  have hsignal (h : Signal) :
      (refresh (signalsChanged [g] (aged g s))).signal h = (s.setSignal g ((s.signal g).expired g.refreshMs)).signal h := by
    rw [hafter.warn.sources.signal, signal_signalsChanged, State.signal, hsignals]
    rfl
  have hring : (signalsChanged [g] (aged g s)).link.ring = s.link.ring := by
    rw [(onlyOffers_signalsChanged [g] (aged g s)).1, hlink]
  refine ⟨_, exec_signalExpiry htimer, fun b hb => ?_, ?_, ?_, fun h hne => ?_, ?_,
    readersFollow_signalsChanged (by simp) hbefore hafter, fun hg => ?_, fun hg => ?_, fun hg => ?_⟩
  · cases b
    case link | signals | gdu | trc | wnu | sru | msc | seq | draw => simp at hb
    all_goals simp [Agree, hpower, hframe]
  · simpa using hring
  · rw [hsignal, State.signal_setSignal_same, expired_eq _ hstate]
  · rw [hsignal, State.signal_setSignal_other _ _ hne]
  · have htrc : (refresh (signalsChanged [g] (aged g s))).trc = (aged g s).trc := by simp
    have hlost : ((s.signal g).expired g.refreshMs).state = .lost ↔ (s.signal g).state = .stale := by
      rw [expired_eq _ hstate]
      split_ifs with hst <;> simp [hst]
    simp only [htrc, aged_trc, hlost]
  · exact runningFollows_signalsChanged (by simp [hg]) hbefore hafter.warn (by simp)
  · exact (sru_signalsChanged hbefore hafter.warn (by simp)).1 (by simp [hg])
  · exact (sru_signalsChanged hbefore hafter.warn (by simp)).2 (by simpa using Ne.symm hg)

end Sys2Proof.Machine
end

section
/-! CLAIM. The measured signals (chapter 3): the speed gate, the supply and the fuel sender write their records. -/

namespace Sys2Proof.Machine

open Sys2Proof

variable {s t : State}

/-! ## A local signal is written (R32) -/

/-- A local signal has been written behind a change of the inputs: its record, and what reads it. -/
theorem writeLocal_spec {g : Signal} (v : Option Int) (i : Input) (s : State) {t : State}
    (hafter : ReadAfter (writeLocal g v (s.setInput i)) t) :
    t.signal g = (s.signal g).written v none ∧ (∀ h, h ≠ g → t.signal h = s.signal h) ∧
      ∀ ws : List Warning, (∀ n, n ∈ ws ↔ n ∈ warningsOf g) → ReadersFollow [g] ws s t := by
  have hsignal (h : Signal) : t.signal h = ((s.setInput i).setSignal g ((s.signal g).written v none)).signal h := by
    rw [hafter.warn.sources.signal]
    exact signal_signalsChanged _ _ h
  have hbefore : ReadBefore [g] s ((s.setInput i).setSignal g ((s.signal g).written v none)) := by
    refine ⟨rfl, rfl, rfl, WarningsRoom.of_roomFor, rfl, fun h => ?_⟩
    rw [if_neg]
    · rfl
    · rintro ⟨hin, hst⟩
      rw [List.mem_singleton.mp hin, State.signal_setSignal_same] at hst
      exact written_not_stale _ _ _ hst
  refine ⟨(hsignal g).trans (State.signal_setSignal_same _ _ _), fun h hne => ?_, fun ws hws => ?_⟩
  · exact (hsignal h).trans (State.signal_setSignal_other _ _ hne)
  · exact readersFollow_signalsChanged (by simpa using hws) hbefore hafter

/-- What the write of a local signal may touch. -/
theorem writeLocal_touches (g : Signal) (v : Option Int) (i : Input) (s : State) :
    let t := refresh (writeLocal g v (s.setInput i))
    Touches [.link, .signals, .input, .gdu, .wnu, .sru, .msc, .seq, .draw] s t ∧ t.input = i := by
  refine ⟨fun b hb => ?_, by simp⟩
  cases b
  case link | signals | input | gdu | wnu | sru | msc | seq | draw => simp at hb
  all_goals simp [Agree]

/-! ## The speed gate and the supply (R48, R49, R56) -/

/-- The quotient of a speed, to the nearest and with its halves up. -/
theorem nearest_quotient {a d : Nat} (hd : 0 < d) :
    let w := (2 * a + d) / (2 * d)
    d * (2 * w) ≤ 2 * a + d ∧ 2 * a + d < d * (2 * w + 2) := by
  intro w
  have hpos : 0 < 2 * d := by omega
  constructor
  · calc d * (2 * w) = w * (2 * d) := by ring
      _ ≤ 2 * a + d := Nat.div_mul_le_self _ _
  · calc 2 * a + d < 2 * d * (w + 1) := Nat.lt_mul_div_succ _ hpos
      _ = d * (2 * w + 2) := by ring

/-- The speed of two edges or more over a span of time (R48). -/
theorem gateSpeed_nearest {ppk intervals span : Nat} (hppk : 0 < ppk) (hspan : 0 < span) :
    ∃ w, gateSpeed ppk intervals span = min 2550 w ∧
      ppk * span * (2 * w) ≤ 72000000000 * intervals + ppk * span ∧
      72000000000 * intervals + ppk * span < ppk * span * (2 * w + 2) := by
  refine ⟨(2 * intervals * 36000000000 + ppk * span) / (2 * ppk * span), by rw [gateSpeed, if_neg hspan.ne'], ?_⟩
  have h := nearest_quotient (a := intervals * 36000000000) (Nat.mul_pos hppk hspan)
  rw [← Nat.mul_assoc, ← Nat.mul_assoc] at h
  dsimp only at h
  constructor
  · exact h.1.trans (by omega)
  · exact lt_of_le_of_lt (by omega) h.2

/-- Settles O30: a gate's end writes the speed, a reading the voltage. -/
theorem speedAndVoltageAreWritten : Obligations.SpeedAndVoltageAreWritten := by
  unfold Obligations.SpeedAndVoltageAreWritten
  refine ⟨fun s hawake hopen hppk => ?_, fun s mv hpowered => ?_⟩
  · intro g
    have hexec : exec .speedGateEnd s =
        done (writeLocal .vehSpeed (some (g.result s.settings.ppk))
          (s.setInput { s.input with gate := g.next s.settings.ppk })) := if_pos ⟨hawake, hopen⟩
    obtain ⟨hsame, hother, hreaders⟩ := writeLocal_spec (some (g.result s.settings.ppk))
      { s.input with gate := g.next s.settings.ppk } s (g := .vehSpeed) (readAfter_refresh _)
    obtain ⟨htouches, hinput⟩ := writeLocal_touches .vehSpeed (some (g.result s.settings.ppk))
      { s.input with gate := g.next s.settings.ppk } s
    refine ⟨_, g.result s.settings.ppk, hexec, htouches, hsame, hother, fun htwo hspan => ?_, fun last hnone hlast => ?_,
      fun last hone hlast => ?_, fun hle hlast => ?_, by rw [hinput], by rw [hinput]; rfl, by rw [hinput]; exact hopen,
      ?_⟩
    · rw [SpeedGate.result, if_pos htwo]
      exact gateSpeed_nearest (by omega) (Nat.sub_pos_of_lt hspan)
    · rw [SpeedGate.result, if_neg (by omega), SpeedGate.age, if_neg (by omega), hlast]
      cases g.sinceEdge <;> rfl
    · rw [SpeedGate.result, if_neg (by omega), SpeedGate.age, if_pos (by omega), hlast]
      exact if_pos (by omega)
    · rw [SpeedGate.result, if_neg (by omega), hlast]
      split <;> simp_all
    · exact hreaders _ (by intro n; cases n <;> decide)
  · have hexec : exec (.supplyReading mv) s =
        done (writeLocal .sysVolt (some (min 200 (mv / 100) : Nat)) (s.setInput s.input)) := if_pos hpowered
    obtain ⟨hsame, hother, hreaders⟩ := writeLocal_spec (some (min 200 (mv / 100) : Nat)) s.input s (g := .sysVolt)
      (readAfter_refresh _)
    obtain ⟨htouches, hinput⟩ := writeLocal_touches .sysVolt (some (min 200 (mv / 100) : Nat)) s.input s
    refine ⟨_, hexec, fun b hb => ?_, hsame, hother, ?_⟩
    · cases b
      case input => exact hinput
      all_goals exact htouches _ (by revert hb; decide)
    · exact hreaders _ (by intro n; cases n <;> decide)

/-! ## The sender's table (R51, R52) -/

section table

variable {R : Nat → Nat → Prop} {x : Nat} {l r : List (Nat × Nat)} {p q : Nat × Nat}

/-- Neighbours stand in a relation just where the list is a chain of it. -/
theorem all_neighbours_iff_isChain [DecidableRel R] (r : List Nat) :
    (r.zip r.tail).all (fun p => decide (R p.1 p.2)) = true ↔ r.IsChain R := by
  induction r with
  | nil => simp
  | cons a r ih =>
    cases r with
    | nil => simp
    | cons b r =>
      rw [List.tail_cons, List.zip_cons_cons, List.all_cons, List.isChain_cons_cons, ← ih]
      simp

/-- The ends of a strictly monotonic table stand before and behind every point. -/
theorem ends_of_pairwise {table : List (Nat × Nat)} {first last : Nat × Nat} (h : table.Pairwise fun a b => R a.1 b.1)
    (hfirst : table.head? = some first) (hlast : table.getLast? = some last) (hp : p ∈ table) :
    (first = p ∨ R first.1 p.1) ∧ (p = last ∨ R p.1 last.1) := by
  obtain ⟨l, rfl⟩ := List.head?_eq_some_iff.mp hfirst
  obtain ⟨l', hl'⟩ := List.getLast?_eq_some_iff.mp hlast
  constructor
  · rcases List.mem_cons.mp hp with rfl | hin
    · exact .inl rfl
    · exact .inr ((List.pairwise_cons.mp h).1 p hin)
  · rw [hl'] at h hp
    rcases List.mem_append.mp hp with hin | hin
    · exact .inr ((List.pairwise_append.mp h).2.2 p hin last (List.mem_singleton.mpr rfl))
    · exact .inl (List.mem_singleton.mp hin)

variable [Std.Irrefl R]

/-- In a strictly monotonic table one point stands at a reading. -/
theorem find_reading_of_mem {table : List (Nat × Nat)} (h : table.Pairwise fun a b => R a.1 b.1) (hp : p ∈ table) :
    table.find? (fun a => a.1 == p.1) = some p := by
  induction table with
  | nil => exact absurd hp List.not_mem_nil
  | cons a l ih =>
    obtain ⟨ha, hl⟩ := List.pairwise_cons.mp h
    rcases List.mem_cons.mp hp with rfl | hin
    · simp
    · have hne : a.1 ≠ p.1 := fun he => irrefl_of R p.1 (he ▸ ha p hin)
      simp [hne, ih hl hin]

variable [IsTrans Nat R]

/-- No point stands at a reading between two neighbouring points. -/
theorem find_reading_between (h : (l ++ p :: q :: r).Pairwise fun a b => R a.1 b.1) (hp : R p.1 x) (hq : R x q.1) :
    (l ++ p :: q :: r).find? (fun a => a.1 == x) = none := by
  obtain ⟨-, htail, hcross⟩ := List.pairwise_append.mp h
  obtain ⟨hpq, hqr⟩ := List.pairwise_cons.mp htail
  obtain ⟨hqr, -⟩ := List.pairwise_cons.mp hqr
  refine List.find?_eq_none.mpr fun a ha => ?_
  simp only [beq_iff_eq]
  rintro rfl
  rcases List.mem_append.mp ha with hin | hin
  · exact irrefl_of R _ (trans_of R (hcross a hin p List.mem_cons_self) hp)
  · rcases List.mem_cons.mp hin with rfl | hin
    · exact irrefl_of R _ hp
    · rcases List.mem_cons.mp hin with rfl | hin
      · exact irrefl_of R _ hq
      · exact irrefl_of R _ (trans_of R hq (hqr a hin))

/-- The neighbouring points about a reading are the ones found. -/
theorem find_brackets_between (hbrackets : ∀ a b, R a.1 b.1 → (brackets x (a, b) = true ↔ R a.1 x ∧ R x b.1))
    (h : (l ++ p :: q :: r).Pairwise fun a b => R a.1 b.1) (hp : R p.1 x) (hq : R x q.1) :
    ((l ++ p :: q :: r).zip (l ++ p :: q :: r).tail).find? (brackets x) = some (p, q) := by
  induction l with
  | nil =>
    have hpq := (List.pairwise_cons.mp h).1 q List.mem_cons_self
    rw [List.nil_append, List.tail_cons, List.zip_cons_cons, List.find?_cons_of_pos ((hbrackets p q hpq).mpr ⟨hp, hq⟩)]
  | cons c l ih =>
    obtain ⟨hc, hl⟩ := List.pairwise_cons.mp h
    obtain ⟨d, rest, hd⟩ : ∃ d rest, l ++ p :: q :: r = d :: rest := by cases l <;> exact ⟨_, _, rfl⟩
    have hdp : d = p ∨ R d.1 p.1 := by
      cases l with
      | nil => exact .inl (List.cons.inj hd).1.symm
      | cons e l' =>
        obtain ⟨rfl, -⟩ := List.cons.inj hd
        exact .inr ((List.pairwise_cons.mp hl).1 p (by simp))
    have hdx : R d.1 x := by
      rcases hdp with rfl | hdp
      · exact hp
      · exact trans_of R hdp hp
    have hcd : R c.1 d.1 := hc d (by simp [hd])
    have hfalse : ¬brackets x (c, d) = true := fun hb =>
      irrefl_of R _ (trans_of R ((hbrackets c d hcd).mp hb).2 hdx)
    have ih' := ih hl
    rw [List.cons_append, List.tail_cons]
    rw [hd] at ih' ⊢
    rw [List.zip_cons_cons, List.find?_cons_of_neg hfalse]
    exact ih'

end table

/-- No neighbouring points stand about a reading beyond the table. -/
theorem find_brackets_beyond {x : Nat} {table : List (Nat × Nat)} (h : (∀ a ∈ table, x < a.1) ∨ ∀ a ∈ table, a.1 < x) :
    (table.zip table.tail).find? (brackets x) = none := by
  refine List.find?_eq_none.mpr fun a ha => ?_
  obtain ⟨h1, h2⟩ := List.of_mem_zip (a := a.1) (b := a.2) ha
  have h2 := List.mem_of_mem_tail h2
  simp only [brackets, Bool.or_eq_true, Bool.and_eq_true, decide_eq_true_eq]
  rcases h with h | h
  · have := h _ h1
    have := h _ h2
    omega
  · have := h _ h1
    have := h _ h2
    omega

theorem brackets_of_lt {x : Nat} (a b : Nat × Nat) (h : a.1 < b.1) : brackets x (a, b) = true ↔ a.1 < x ∧ x < b.1 := by
  simp only [brackets, Bool.or_eq_true, Bool.and_eq_true, decide_eq_true_eq]
  omega

theorem brackets_of_gt {x : Nat} (a b : Nat × Nat) (h : a.1 > b.1) : brackets x (a, b) = true ↔ a.1 > x ∧ x > b.1 := by
  simp only [brackets, Bool.or_eq_true, Bool.and_eq_true, decide_eq_true_eq]
  omega

/-- A table is monotonic if its readings rise, or if they fall (R52). -/
theorem senderMonotonic_iff {table : List (Nat × Nat)} :
    senderMonotonic table = true ↔
      (table.Pairwise fun a b => a.1 < b.1) ∨ table.Pairwise fun a b => a.1 > b.1 := by
  have hlt := all_neighbours_iff_isChain (R := (· < ·)) (table.map (·.1))
  have hgt := all_neighbours_iff_isChain (R := (· > ·)) (table.map (·.1))
  rw [List.isChain_iff_pairwise, List.pairwise_map] at hlt hgt
  rw [senderMonotonic, Bool.or_eq_true, hlt]
  exact or_congr_right hgt

/-- The level of a reading at a point of the table, or beyond its readings (R51). -/
theorem senderLevel_point {table : List (Nat × Nat)} {capacity x : Nat} {p : Nat × Nat}
    (h : senderMonotonic table = true) (hp : p ∈ table)
    (hx : p.1 = x ∨ (x < p.1 ∧ ∀ q ∈ table, p.1 ≤ q.1) ∨ (p.1 < x ∧ ∀ q ∈ table, q.1 ≤ p.1)) :
    senderLevel table capacity x = shareLevel capacity p.2 := by
  rcases hx with rfl | hx
  · have hfind : table.find? (fun a => a.1 == p.1) = some p := by
      rcases senderMonotonic_iff.mp h with h | h
      · exact find_reading_of_mem h hp
      · exact find_reading_of_mem h hp
    rw [senderLevel, hfind]
  · obtain ⟨first, hfirst⟩ : ∃ first, table.head? = some first := by
      cases table with
      | nil => exact absurd hp List.not_mem_nil
      | cons a l => exact ⟨a, rfl⟩
    obtain ⟨last, hlast⟩ : ∃ last, table.getLast? = some last :=
      ⟨_, List.getLast?_eq_some_getLast (List.ne_nil_of_mem hp)⟩
    have hinFirst : first ∈ table := List.mem_of_mem_head? hfirst
    have hinLast : last ∈ table := List.mem_of_getLast? hlast
    have hbeyond : (∀ a ∈ table, x < a.1) ∨ ∀ a ∈ table, a.1 < x := by
      rcases hx with ⟨hx, hmin⟩ | ⟨hx, hmax⟩
      · exact .inl fun a ha => lt_of_lt_of_le hx (hmin a ha)
      · exact .inr fun a ha => lt_of_le_of_lt (hmax a ha) hx
    have hnone : table.find? (fun a => a.1 == x) = none := by
      refine List.find?_eq_none.mpr fun a ha => ?_
      rcases hbeyond with h | h <;> simp [(h a ha).ne, (h a ha).ne']
    rw [senderLevel, hnone]
    dsimp only
    rw [find_brackets_beyond hbeyond]
    dsimp only
    rw [hfirst, hlast]
    dsimp only
    have hends : (x < p.1 ∧ p.1 ≤ first.1 ∧ p.1 ≤ last.1) ∨ (p.1 < x ∧ first.1 ≤ p.1 ∧ last.1 ≤ p.1) := by
      rcases hx with ⟨hx, hmin⟩ | ⟨hx, hmax⟩
      · exact .inl ⟨hx, hmin _ hinFirst, hmin _ hinLast⟩
      · exact .inr ⟨hx, hmax _ hinFirst, hmax _ hinLast⟩
    have hchoice : (p = first ∧ (p = last ∨ (x < first.1 ↔ first.1 < last.1))) ∨
        (p = last ∧ (p = first ∨ ¬(x < first.1 ↔ first.1 < last.1))) := by
      rcases senderMonotonic_iff.mp h with h | h <;>
        obtain ⟨hf, hl⟩ := ends_of_pairwise h hfirst hlast hp <;> grind
    simp only [decide_eq_decide]
    rcases hchoice with ⟨rfl, rfl | hc⟩ | ⟨rfl, rfl | hc⟩
    · rw [ite_self]
    · rw [if_pos hc]
    · rw [ite_self]
    · rw [if_neg hc]

/-- The level of a reading between two neighbouring points (R51). -/
theorem senderLevel_between {l r : List (Nat × Nat)} {capacity x : Nat} {p q a b : Nat × Nat}
    (h : senderMonotonic (l ++ p :: q :: r) = true) (hab : (a, b) = (p, q) ∨ (a, b) = (q, p)) (hax : a.1 < x) (hxb : x < b.1) :
    senderLevel (l ++ p :: q :: r) capacity x = betweenLevel capacity a.1 a.2 b.1 b.2 x := by
  have hfound : (l ++ p :: q :: r).find? (fun a => a.1 == x) = none ∧
      ((l ++ p :: q :: r).zip (l ++ p :: q :: r).tail).find? (brackets x) = some (p, q) := by
    rcases senderMonotonic_iff.mp h with h | h
    · have hpq : p.1 < q.1 := (List.pairwise_cons.mp (List.pairwise_append.mp h).2.1).1 q List.mem_cons_self
      have hp : p.1 < x ∧ x < q.1 := by
        rcases hab with he | he <;> obtain ⟨rfl, rfl⟩ := Prod.mk.inj he <;> omega
      exact ⟨find_reading_between h hp.1 hp.2, find_brackets_between brackets_of_lt h hp.1 hp.2⟩
    · have hpq : p.1 > q.1 := (List.pairwise_cons.mp (List.pairwise_append.mp h).2.1).1 q List.mem_cons_self
      have hp : p.1 > x ∧ x > q.1 := by
        rcases hab with he | he <;> obtain ⟨rfl, rfl⟩ := Prod.mk.inj he <;> omega
      exact ⟨find_reading_between h hp.1 hp.2, find_brackets_between brackets_of_gt h hp.1 hp.2⟩
  rw [senderLevel, hfound.1]
  dsimp only
  rw [hfound.2]
  rcases hab with he | he <;> obtain ⟨rfl, rfl⟩ := Prod.mk.inj he
  · exact if_pos (by omega)
  · exact if_neg (by omega)

theorem readingGives_senderLevel {table : List (Nat × Nat)} (h : senderMonotonic table = true) (capacity x : Nat) :
    ReadingGives table capacity x (senderLevel table capacity x) := by
  refine ⟨fun p hp hx => senderLevel_point h hp hx, fun l p q r a b heq hab hax hxb => ?_⟩
  subst heq
  exact senderLevel_between h hab hax hxb

/-! ## The filter (R53) -/

/-- A step toward the level: the truncated share of the distance, and at least 1 where there is a distance. -/
theorem filterStep_up {f64 level k : Nat} (h : f64 ≤ 64 * level) :
    filterStep f64 level k =
      f64 + (if 64 * level - f64 = 0 then 0 else max 1 ((64 * level - f64) / 2 ^ k)) := by
  obtain ⟨d, hd⟩ := Nat.exists_eq_add_of_le h
  have hdist : 64 * (level : Int) - f64 = (d : Int) := by omega
  have hnat : 64 * level - f64 = d := by omega
  have hquot : (d : Int).tdiv ((2 ^ k : Nat) : Int) = ((d / 2 ^ k : Nat) : Int) := rfl
  rw [filterStep, hdist, hquot, hnat]
  rcases Nat.eq_zero_or_pos d with rfl | hpos
  · simp
  · have hsign : (d : Int).sign = 1 := Int.sign_eq_one_of_pos (by omega)
    simp only [hsign]
    generalize d / 2 ^ k = q
    split_ifs <;> omega

theorem filterStep_down {f64 level k : Nat} (h : 64 * level < f64) :
    filterStep f64 level k = f64 - max 1 ((f64 - 64 * level) / 2 ^ k) := by
  obtain ⟨d, hd⟩ := Nat.exists_eq_add_of_lt h
  have hdist : 64 * (level : Int) - f64 = -((d + 1 : Nat) : Int) := by omega
  have hnat : f64 - 64 * level = d + 1 := by omega
  have hquot : (-((d + 1 : Nat) : Int)).tdiv ((2 ^ k : Nat) : Int) = -(((d + 1) / 2 ^ k : Nat) : Int) := by
    rw [Int.neg_tdiv]
    rfl
  have hle : (d + 1) / 2 ^ k ≤ d + 1 := Nat.div_le_self _ _
  have hsign : (-((d + 1 : Nat) : Int)).sign = -1 := Int.sign_eq_neg_one_of_neg (by omega)
  rw [filterStep, hdist, hquot, hnat]
  simp only [hsign]
  generalize (d + 1) / 2 ^ k = q at hle ⊢
  split_ifs <;> omega

theorem filterRate_eq (s : State) :
    2 ^ filterRate s =
      if (s.signal .vehSpeed).state = .fresh ∧ 0 < (s.signal .vehSpeed).value.getD 0 then 512 else 32 := by
  have hany : (s.signal .vehSpeed).value.any (fun v => decide (0 < v)) = true ↔ 0 < (s.signal .vehSpeed).value.getD 0 := by
    cases (s.signal .vehSpeed).value <;> simp
  simp only [filterRate, hany]
  split_ifs <;> rfl

/-! ## The level is written, with its triggers of the range (R50, R98, R100) -/

/-- While FUEL_LEVEL is FRESH a trigger works out the range from its level. -/
theorem recomputeRange_of_fresh {v : Int} (hstate : (s.signal .fuelLevel).state = .fresh)
    (hvalue : (s.signal .fuelLevel).value = some v) :
    recomputeRange s = s.setTrc { s.trc with range := some (s.trc.rangeAt s.settings.d10 v.toNat) } := by
  unfold recomputeRange
  dsimp only
  rw [hstate, hvalue]

/-- A second trigger of one write works out the same range. -/
theorem recomputeRange_recomputeRange (s : State) : recomputeRange (recomputeRange s) = recomputeRange s := by
  by_cases h : (s.signal .fuelLevel).state = .fresh ∧ ∃ v, (s.signal .fuelLevel).value = some v
  · obtain ⟨hstate, v, hvalue⟩ := h
    rw [recomputeRange_of_fresh hstate hvalue]
    generalize hr : some (s.trc.rangeAt s.settings.d10 v.toNat) = r
    have h := recomputeRange_of_fresh (s := s.setTrc { s.trc with range := r }) (v := v) hstate hvalue
    rw [h, ← hr]
    rfl
  · have hsame : recomputeRange s = s := by
      unfold recomputeRange
      dsimp only
      split
      · exact absurd ⟨‹_›, _, ‹_›⟩ h
      · rfl
    rw [hsame, hsame]

theorem readAfter_recomputeRange (s : State) : ReadAfter s (recomputeRange s) :=
  ReadAfter.of_eq (by simp) (by simp) (by simp) (by simp) (by simp) (by simp) (by simp) (by simp) (by simp)

theorem rangeWorkedOut_of_fresh {held : Option HeldRange} {v : Int} (hstate : (t.signal .fuelLevel).state = .fresh)
    (hvalue : (t.signal .fuelLevel).value = some v)
    (hrange : t.trc.range = some (t.trc.rangeAt t.settings.d10 v.toNat)) : RangeWorkedOut held t := by
  refine ⟨fun w _ hw => ?_, fun h => absurd hstate h⟩
  obtain rfl := Option.some.inj (hvalue.symm.trans hw)
  exact hrange

/-- A trigger of R98, by the record before the write and the held range. -/
theorem rangeTriggeredBy_iff {before : SignalRecord} {held : Option HeldRange} {v : Nat} :
    rangeTriggeredBy before held v = true ↔
      before.state = .never ∨ before.state = .invalid ∨ held = none ∨
        ∃ h, held = some h ∧ (h.level + 5 ≤ v ∨ v + 5 ≤ h.level) := by
  cases held <;> simp [rangeTriggeredBy, or_assoc]

/-- FUEL_LEVEL is written FRESH behind a change of the inputs, and a refuel works out the range besides. -/
theorem fuelLevel_written (refuel : Bool) (v : Nat) (i : Input) (s : State) :
    let u := writeFuelLevel v (s.setInput i)
    let t := refresh (if refuel then recomputeRange u else u)
    Touches [.link, .signals, .input, .gdu, .trc, .wnu, .sru, .msc, .seq, .draw] s t ∧ t.input = i ∧
      t.signal .fuelLevel = (s.signal .fuelLevel).written (some v) none ∧
      (∀ h, h ≠ .fuelLevel → t.signal h = s.signal h) ∧
      ReadersFollow [.fuelLevel] [.fuelReserve, .senderFault] s t ∧
      t.trc = { s.trc with range := t.trc.range } ∧
      (rangeTriggeredBy (s.signal .fuelLevel) s.trc.range v = true ∨ refuel = true → RangeWorkedOut s.trc.range t) ∧
      (¬rangeTriggeredBy (s.signal .fuelLevel) s.trc.range v = true → ¬refuel = true → t.trc.range = s.trc.range) := by
  intro u t
  set w := writeLocal .fuelLevel (some (v : Int)) (s.setInput i) with hw
  have hu : u = if rangeTriggeredBy (s.signal .fuelLevel) s.trc.range v = true then recomputeRange w else w := rfl
  have ht : t = refresh (if rangeTriggeredBy (s.signal .fuelLevel) s.trc.range v = true ∨ refuel = true then
      recomputeRange w else w) := by
    simp only [t, hu]
    by_cases hr : rangeTriggeredBy (s.signal .fuelLevel) s.trc.range v = true <;> cases refuel <;>
      simp [hr, recomputeRange_recomputeRange]
  have hafter : ReadAfter w t := by
    rw [ht]
    split_ifs
    · exact (readAfter_recomputeRange w).trans (readAfter_refresh _)
    · exact readAfter_refresh w
  obtain ⟨hsame, hother, hreaders⟩ := writeLocal_spec (some (v : Int)) i s hafter
  have hwsame : w.signal .fuelLevel = t.signal .fuelLevel := (hafter.warn.sources.signal _).symm
  have hstate : (t.signal .fuelLevel).state = .fresh := by rw [hsame]; rfl
  have hvalue : (t.signal .fuelLevel).value = some (v : Int) := by rw [hsame]; rfl
  have hwtrc : w.trc = s.trc := by simp [hw]
  have hrec := recomputeRange_of_fresh (s := w) (by rw [hwsame]; exact hstate) (by rw [hwsame]; exact hvalue)
  have htrc : t.trc = if rangeTriggeredBy (s.signal .fuelLevel) s.trc.range v = true ∨ refuel = true then
      { s.trc with range := some (s.trc.rangeAt w.settings.d10 v) } else s.trc := by
    rw [ht]
    split_ifs
    · rw [(refresh_frame _).2.2.2.2.2.1, hrec, State.setTrc_trc, hwtrc]
      rfl
    · rw [(refresh_frame _).2.2.2.2.2.1, hwtrc]
  refine ⟨fun b hb => ?_, ?_, hsame, hother, hreaders _ (by intro n; cases n <;> decide), ?_, fun h => ?_, fun h1 h2 => ?_⟩
  · rw [ht]
    cases b
    case link | signals | input | gdu | trc | wnu | sru | msc | seq | draw => simp at hb
    all_goals split_ifs <;> simp [Agree, hw]
  · rw [ht]
    split_ifs <;> simp [hw]
  · rw [htrc]
    split_ifs <;> rfl
  · refine rangeWorkedOut_of_fresh hstate hvalue ?_
    rw [htrc, if_pos h, hafter.warn.settings]
    rfl
  · rw [htrc, if_neg (by tauto)]

/-! ## The samples of the sender (R50 to R55) -/

theorem exec_badSample {x : Byte} (hpowered : s.powered = true) (hconf : s.power.configured = true)
    (hx : x.toNat < 8 ∨ 247 < x.toNat) : exec (.fuelSample x) s = done (badReading s) :=
  (if_pos ⟨hpowered, hconf⟩).trans (if_pos hx)

theorem exec_goodSample {x : Byte} (hpowered : s.powered = true) (hconf : s.power.configured = true)
    (hlow : 8 ≤ x.toNat) (hhigh : x.toNat ≤ 247) :
    exec (.fuelSample x) s =
      if s.input.fuel.averaging = true then
        done (averageReading (senderLevel s.settings.sender s.settings.capacity x.toNat) s)
      else done (filterReading (senderLevel s.settings.sender s.settings.capacity x.toNat) s) :=
  (if_pos ⟨hpowered, hconf⟩).trans (if_neg (by omega))

theorem refuelled_iff {threshold average : Nat} {f64 : Option Nat} :
    refuelled threshold average f64 = true ↔ ∃ f, f64 = some f ∧ (f + 32) / 64 + threshold ≤ average := by
  cases f64 with
  | none => simp [refuelled]
  | some f =>
    simp only [refuelled, f64Level, Option.some.injEq, exists_eq_left']
    exact decide_eq_true_iff

theorem averagedF64_eq (threshold average : Nat) (f64 : Option Nat) :
    (f64 = none ∨ refuelled threshold average f64 = true → averagedF64 threshold average f64 = 64 * average) ∧
      ∀ f, f64 = some f → ¬refuelled threshold average f64 = true → averagedF64 threshold average f64 = f := by
  cases f64 with
  | none => simp [averagedF64]
  | some f =>
    simp only [averagedF64, refuelled, decide_eq_true_eq, Option.some.injEq, reduceCtorEq, false_or]
    refine ⟨fun h => if_pos h, ?_⟩
    rintro g rfl h
    exact if_neg h

/-- Settles O31: a bad reading counts, a good one averages or filters, and each write reaches its readers. -/
theorem fuelSamples : Obligations.FuelSamples := by
  unfold Obligations.FuelSamples
  refine ⟨fun s x hpowered hconf hx => ?_, fun s x hpowered hconf hlow hhigh => ?_⟩
  · have hexec := exec_badSample hpowered hconf hx
    unfold badReading at hexec
    dsimp only at hexec
    by_cases hbad : 4 ≤ s.input.fuel.bad
    · rw [if_pos hbad] at hexec
      obtain ⟨htouches, hinput⟩ := writeLocal_touches .fuelLevel none
        { s.input with fuel := { s.input.fuel with bad := min 5 (s.input.fuel.bad + 1) } } s
      obtain ⟨hsame, hother, hreaders⟩ := writeLocal_spec none
        { s.input with fuel := { s.input.fuel with bad := min 5 (s.input.fuel.bad + 1) } } s (g := .fuelLevel)
        (readAfter_refresh _)
      refine ⟨_, hexec, htouches, hinput, hother, ?_, fun h => absurd h (by omega), fun _ => ?_⟩
      · rw [if_neg (by omega)]
        exact hsame
      · exact hreaders _ (by intro n; cases n <;> decide)
    · rw [if_neg hbad] at hexec
      refine ⟨_, hexec, fun b hb => ?_, by simp, fun h _ => by simp [State.signal], ?_, fun _ => by simp,
        fun h => absurd h hbad⟩
      · cases b
        case link | signals | input | gdu | wnu | sru | msc | seq | draw => simp at hb
        all_goals simp [Agree]
      · rw [if_pos (by omega)]
        simp [State.signal]
  · intro level rate sum average filled before trigger
    refine ⟨fun h => readingGives_senderLevel h _ _, ?_⟩
    intro writes
    have hexec := exec_goodSample hpowered hconf hlow hhigh
    have hwrites (refuel : Bool) (P : Prop) (hP : P ↔ refuel = true) (f' : Nat) (i : Input)
        (he : exec (.fuelSample x) s =
          done (if refuel = true then recomputeRange (writeFuelLevel (f64Level f') (s.setInput i))
            else writeFuelLevel (f64Level f') (s.setInput i))) : ∃ t, writes P f' t ∧ t.input = i := by
      obtain ⟨htouches, hinput, hsame, hother, hreaders, htrc, hpos, hneg⟩ := fuelLevel_written refuel (f64Level f') i s
      refine ⟨_, ⟨he, htouches, hsame, hother, hreaders, htrc, fun h => hpos ?_, fun h h' => hneg ?_ ?_⟩, hinput⟩
      · exact h.imp rangeTriggeredBy_iff.mpr hP.mp
      · exact fun hc => h (rangeTriggeredBy_iff.mp hc)
      · exact fun hc => h' (hP.mpr hc)
    refine ⟨fun f64 hav hf64 => ?_, fun hav hgood => ?_, fun hav hgood => ?_⟩
    · rw [hav] at hexec
      obtain ⟨t, ht, hinput⟩ := hwrites false False (by simp) (filterStep f64 level (filterRate s))
        { s.input with fuel := { s.input.fuel with bad := 0, f64 := some (filterStep f64 level (filterRate s)) } } (by
          rw [hexec, filterReading, hf64]
          rfl)
      refine ⟨t, _, ht, hinput, fun hle => ?_, fun hlt => ?_⟩
      · rw [filterStep_up hle, filterRate_eq]
      · rw [filterStep_down hlt, filterRate_eq]
    · rw [if_pos hav, averageReading] at hexec
      dsimp only at hexec
      rw [if_pos (by omega)] at hexec
      refine ⟨_, hexec, fun b hb => ?_, by simp [sum, level]⟩
      cases b
      case input | msc => simp at hb
      all_goals simp [Agree]
    · rw [if_pos hav, averageReading] at hexec
      dsimp only at hexec
      rw [if_neg (by omega)] at hexec
      obtain ⟨t, ht, hinput⟩ := hwrites (refuelled s.settings.refuel average s.input.fuel.f64) filled
        refuelled_iff.symm _ _ hexec
      obtain ⟨hstart, hheld⟩ := averagedF64_eq s.settings.refuel average s.input.fuel.f64
      refine ⟨t, _, ht, by rw [hinput], by rw [hinput], fun h => hstart ?_, fun f hf h => hheld f hf ?_⟩
      · exact h.imp_right refuelled_iff.mpr
      · exact fun hc => h (refuelled_iff.mp hc)

end Sys2Proof.Machine
end

section
/-! CLAIM. The switch filters (R57 to R59): samples count, and a completion reaches its line's reader. -/

namespace Sys2Proof.Machine

open Sys2Proof

variable {s t : State} {f : SwitchFilter} {n : Nat} {l level : Level} {line : SwitchLine}

/-! ## A filter's samples (R57) -/

theorem completes_iff :
    f.completes n l = true ↔
      (if f.last = some l then min n (f.run + 1) else 1) = n ∧ (f.completed = false ∨ f.level ≠ l) := by
  simp [SwitchFilter.completes, SwitchFilter.counted]

theorem sampled_of_completes (h : f.completes n l = true) :
    f.sampled n l = { level := l, last := some l, run := n, completed := true } := by
  rw [SwitchFilter.sampled, if_pos h]
  have hrun := (completes_iff.mp h).1
  simp [SwitchFilter.counted, hrun]

theorem sampled_of_not_completes (h : f.completes n l = false) : f.sampled n l = f.counted n l := by
  rw [SwitchFilter.sampled, if_neg (by simp [h])]

theorem NoneCompletes.of_append {p q : List Level} (h : NoneCompletes f n (p ++ q)) : NoneCompletes f n p :=
  fun p' l q' he => h p' l (q' ++ q) (by simp [he])

theorem NoneCompletes.last {p : List Level} (h : NoneCompletes f n (p ++ [l])) : (f.after n p).completes n l = false :=
  h p l [] rfl

theorem after_concat (p : List Level) : f.after n (p ++ [l]) = (f.after n p).sampled n l := by
  exact f.after_append n p [l]

/-- Samples that complete nothing leave the filtered level as it is. -/
theorem level_after {p : List Level} (h : NoneCompletes f n p) : (f.after n p).level = f.level := by
  induction p using List.reverseRecOn with
  | nil => rfl
  | append_singleton p l ih =>
    rw [after_concat, sampled_of_not_completes h.last]
    exact ih h.of_append

/-- The state with a line's filter as it then is. -/
def withFilter (line : SwitchLine) (f : SwitchFilter) (s : State) : State :=
  s.setInput { s.input with filters := s.input.filters.set line.ix f }

theorem withFilter_filter (line : SwitchLine) (s : State) : withFilter line (s.filter line) s = s := by
  simp [withFilter, State.filter, State.setInput]

theorem filter_withFilter_same (line : SwitchLine) (f : SwitchFilter) (s : State) : (withFilter line f s).filter line = f := by
  simp [withFilter, State.filter]

theorem switchLine_ix_injective {a b : SwitchLine} (h : a.ix = b.ix) : a = b := by
  revert h
  cases a <;> cases b <;> decide

theorem filter_withFilter_other {k : SwitchLine} (h : k ≠ line) (f : SwitchFilter) (s : State) :
    (withFilter line f s).filter k = s.filter k := by
  have hne : line.ix.val ≠ k.ix.val := fun he => h (switchLine_ix_injective (Fin.ext he)).symm
  simp [withFilter, State.filter, Vector.getElem_set_ne _ _ hne]

theorem lineSampled_withFilter (line : SwitchLine) (f : SwitchFilter) (s : State) :
    lineSampled (withFilter line f s) line = lineSampled s line := by
  cases line <;> rfl

theorem filterLength_withFilter (line : SwitchLine) (f : SwitchFilter) (s : State) :
    filterLength (withFilter line f s) line = filterLength s line := by
  cases line <;> rfl

/-- One sample of a line behind others. -/
theorem sampleLine_withFilter (hs : lineSampled s line = true) (contacts : BitVec 6) (f : SwitchFilter) (l : Level) :
    sampleLine line contacts (withFilter line f s) l =
      if f.completes (filterLength s line) l = true then
        refresh (readerTakes line l (f.level != l) contacts
          (withFilter line (f.sampled (filterLength s line) l) s))
      else withFilter line (f.sampled (filterLength s line) l) s := by
  have hf : (withFilter line f s).input.filters[line.ix] = f := filter_withFilter_same line f s
  have hcount : countSample line l (withFilter line f s) = withFilter line (f.sampled (filterLength s line) l) s := by
    rw [countSample, hf, filterLength_withFilter]
    simp [withFilter, State.setInput]
  unfold sampleLine
  dsimp only
  rw [hf, filterLength_withFilter, lineSampled_withFilter, hcount, if_pos hs]

/-- Samples that complete nothing change only their line's filter. -/
theorem foldl_sampleLine (hs : lineSampled s line = true) (contacts : BitVec 6) {p : List Level}
    (h : NoneCompletes (s.filter line) (filterLength s line) p) :
    p.foldl (sampleLine line contacts) s = withFilter line ((s.filter line).after (filterLength s line) p) s := by
  induction p using List.reverseRecOn with
  | nil => exact (withFilter_filter line s).symm
  | append_singleton p l ih =>
    rw [List.foldl_append, ih h.of_append, List.foldl_cons, List.foldl_nil, sampleLine_withFilter hs, if_neg (by simp [h.last]),
      after_concat]

/-- The last of the samples completes the filter, and the line's reader takes it. -/
theorem foldl_sampleLine_completes (hs : lineSampled s line = true) (contacts : BitVec 6) {samples : List Level}
    (h : LastCompletes (s.filter line) (filterLength s line) samples level) :
    samples.foldl (sampleLine line contacts) s =
      refresh (readerTakes line level ((s.filter line).level != level) contacts
        (withFilter line { level := level, last := some level, run := filterLength s line, completed := true } s)) := by
  obtain ⟨p, rfl, hnone, hlast⟩ := h
  rw [List.foldl_append, foldl_sampleLine hs contacts hnone, List.foldl_cons, List.foldl_nil, sampleLine_withFilter hs,
    if_pos hlast, level_after hnone, sampled_of_completes hlast]

/-! ## The readers of a completion (R59) -/

/-- A signal that no gauge shows reaches none. -/
theorem gdu_writeLocal {g : Signal} (hg : gaugesOf g = []) (v : Option Int) (s : State) : (writeLocal g v s).gdu = s.gdu := by
  rw [writeLocal, signalsChanged_eq]
  have h := (beforeConditions_frame [g] (s.setSignal g ((s.signal g).written v none))).2.2.2.2
  rw [(evalWarnings_frame _ _).2.2.2.1, h, List.foldl_cons, List.foldl_nil, decideTargets, hg]
  rfl

theorem evalWarnings_nil (s : State) : evalWarnings [] s = s := by
  unfold evalWarnings evalTogether
  split_ifs <;> rfl

/-- No condition as made reads the headlamp switch. -/
theorem wnu_writeHeadlamp (h : AsMade s) (v : Option Int) : (writeLocal .headlampSw v s).wnu = s.wnu := by
  have hnone : (beforeConditions [.headlampSw] (s.setSignal .headlampSw ((s.signal .headlampSw).written v none))).warningsReading
      [.headlampSw] = [] := by
    rw [State.warningsReading, if_neg]
    · decide
    · rw [(beforeConditions_frame _ _).1]
      simpa [AsMade] using h
  rw [writeLocal, signalsChanged_eq, hnone, evalWarnings_nil]
  exact (beforeConditions_wnu _ _).1 (by decide)

/-- A flag that no gauge shows is written: what that may touch. -/
theorem writeFlag_touches {g : Signal} (hgauges : gaugesOf g = []) (hcoolant : Signal.coolantT ∉ [g]) (v : Option Int)
    (i : Input) (s : State) :
    let t := refresh (writeLocal g v (s.setInput i))
    Touches [.link, .signals, .input, .wnu, .msc, .seq, .draw] s t ∧ t.input = i := by
  intro t
  obtain ⟨htouches, hinput⟩ := writeLocal_touches g v i s
  refine ⟨fun b hb => ?_, hinput⟩
  cases b
  case gdu => exact (refresh_frame _).2.2.2.2.1.trans (gdu_writeLocal hgauges v _)
  case sru =>
    have hsru := (beforeConditions_sru [g] ((s.setInput i).setSignal g (((s.setInput i).signal g).written v none))).1 hcoolant
    have ht : t.sru = (writeLocal g v (s.setInput i)).sru := by simp [t]
    exact ht.trans (((evalWarnings_frame _ _).2.2.2.2.2.2.2.1).trans hsru)
  all_goals exact htouches _ (by revert hb; decide)

/-- What a driver-door edge does to the Power Unit before its conditions are worked out (R182, R184). -/
def doorMark (s : State) : State :=
  if s.power.state = .courtesy ∧ s.power.endPhase ≠ .none then s.setPower { s.power with pendingWake := true }
  else restartCourtesy s

theorem doorMark_eq (s : State) :
    doorMark s = s.setPower (if s.power.state = .courtesy then
        if s.power.endPhase = .none then { s.power with courtesyTimer := some (1000 * s.settings.courtesyS) }
        else { s.power with pendingWake := true }
      else s.power) := by
  unfold doorMark restartCourtesy
  by_cases hc : s.power.state = .courtesy <;> by_cases he : s.power.endPhase = .none <;> simp [hc, he, State.setPower]

/-- A driver-door edge outside SLEEP: the mark, then its conditions. -/
theorem doorEdge_eq (h : s.powered = true) : doorEdge s = evalWarnings [.lightsOn, .keyIn] (doorMark s) := by
  have hstate : (evalWarnings [.lightsOn, .keyIn] (doorMark s)).power.state = s.power.state := by
    rw [(evalWarnings_frame _ _).1, doorMark_eq, State.setPower_power]
    split_ifs <;> rfl
  refine if_neg (c := (evalWarnings [.lightsOn, .keyIn] (doorMark s)).power.state = .sleep) ?_
  rw [hstate]
  intro hsleep
  simp [State.powered, State.awake, hsleep] at h

/-- A driver-door edge of a powered part: the Power Unit, the conditions, and what else it may touch. -/
theorem doorEdge_spec (i : Input) (s : State) (h : s.powered = true) :
    let t := refresh (doorEdge (s.setInput i))
    Touches [.power, .link, .input, .wnu, .msc, .seq, .draw] s t ∧ t.input = i ∧
      t.power =
        (if s.power.state = .courtesy then
          if s.power.endPhase = .none then { s.power with courtesyTimer := some (1000 * s.settings.courtesyS) }
          else { s.power with pendingWake := true }
        else s.power) ∧
      WarningsMoved [.lightsOn, .keyIn] [] s t := by
  intro t
  have hpowered : (s.setInput i).powered = true := h
  have ht : t = refresh (evalWarnings [.lightsOn, .keyIn] (doorMark (s.setInput i))) := by
    rw [← doorEdge_eq hpowered]
  have hmark := doorMark_eq (s.setInput i)
  have hpower : (doorMark (s.setInput i)).power =
      (if s.power.state = .courtesy then
        if s.power.endPhase = .none then { s.power with courtesyTimer := some (1000 * s.settings.courtesyS) }
        else { s.power with pendingWake := true }
      else s.power) := by
    rw [hmark]
    rfl
  have hstate : (doorMark (s.setInput i)).power.state = s.power.state ∧
      (doorMark (s.setInput i)).power.patternSpoiled = s.power.patternSpoiled := by
    rw [hpower]
    split_ifs <;> exact ⟨rfl, rfl⟩
  refine ⟨fun b hb => ?_, by rw [ht, hmark]; simp, by rw [ht, ← hpower]; simp, ?_⟩
  · rw [ht, hmark]
    cases b
    case power | link | input | wnu | msc | seq | draw => simp at hb
    all_goals simp [Agree]
  · rw [ht]
    refine warningsMoved_evalWarnings ?_ (by decide) (by decide) ?_ (warnAfter_refresh _)
    · simpa [State.powered, State.awake, hstate.1] using h
    · exact WarnBefore.of_wnu (by rw [hmark]; rfl) (by rw [hmark]; rfl) hstate.2

/-- Settles O32: a sample counts or completes, and a completion reaches its line's reader. -/
theorem switchCompletionReachesReader : Obligations.SwitchCompletionReachesReader := by
  unfold Obligations.SwitchCompletionReachesReader
  refine ⟨fun f n l => ?_, fun s line samples contacts hpowered => ?_⟩
  · intro run
    have hiff : f.completes n l = true ↔ run = n ∧ (f.completed = false ∨ f.level ≠ l) := completes_iff
    refine ⟨fun hrun hnew => ?_, fun hnot => ?_⟩
    · have hc := hiff.mpr ⟨hrun, hnew⟩
      exact ⟨hc, sampled_of_completes hc⟩
    · have hc : f.completes n l = false := by
        rw [← Bool.not_eq_true, hiff]
        rintro ⟨hrun, hnew⟩
        rcases hnot with h | ⟨hdone, hsame⟩
        · exact h hrun
        · simp [hdone, hsame] at hnew
      exact ⟨hc, sampled_of_not_completes hc⟩
  · intro n
    have hn : n = filterLength s line := by cases line <;> rfl
    clear_value n
    subst hn
    have hs : lineSampled s line = true := by
      have hoff : s.power.state ≠ .off := fun h => by simp [State.powered, State.awake, h] at hpowered
      cases line <;> simp [lineSampled, hpowered, hoff]
    refine ⟨fun hnone => congrArg _ (foldl_sampleLine hs contacts hnone), fun level hline hlast => ?_⟩
    intro edge
    obtain ⟨F, hF⟩ : ∃ F : SwitchFilter,
      F = { level := level, last := some level, run := filterLength s line, completed := true } := ⟨_, rfl⟩
    rw [← hF]
    have hexec : exec (.switchFilterCompletion line samples contacts) s =
        .next (refresh (readerTakes line level ((s.filter line).level != level) contacts (withFilter line F s))) := by
      rw [hF, ← foldl_sampleLine_completes hs contacts hlast]
      rfl
    have hfilter (t : State) (ht : t.input = (withFilter line F s).input) :
        t.filter line = F ∧ ∀ l, l ≠ line → t.filter l = s.filter l := by
      refine ⟨?_, fun l hl => ?_⟩
      · rw [State.filter, ht]
        exact filter_withFilter_same line F s
      · rw [State.filter, ht]
        exact filter_withFilter_other hl F s
    cases line with
    | ignition => exact absurd rfl hline
    | driverDoor =>
      by_cases hedge : edge
      · have hne : ((s.filter .driverDoor).level != level) = true := by simpa using hedge
        rw [hne] at hexec
        obtain ⟨htouches, hinput, hpower, hmoved⟩ := doorEdge_spec (withFilter .driverDoor F s).input s hpowered
        obtain ⟨hsame, hother⟩ := hfilter _ hinput
        refine ⟨refresh (doorEdge (s.setInput (withFilter .driverDoor F s).input)), hexec, fun b hb => ?_, hsame, hother, by simp,
          fun g _ => ?_, by simp, by simp, fun _ => hmoved,
          by simp [hedge], by simp, fun _ _ hc => ?_, fun h => ?_⟩
        · cases b
          case signals => simp at hb
          all_goals exact htouches _ (by revert hb; decide)
        · have hsignals : _ = s.signals := htouches .signals (by decide)
          rw [State.signal, hsignals]
          rfl
        · rw [hpower, if_pos hc]
        · rw [hpower, if_neg (by simpa [hedge] using h)]
      · have hne : ((s.filter .driverDoor).level != level) = false := by simpa [edge] using hedge
        rw [hne] at hexec
        obtain ⟨hsame, hother⟩ := hfilter (refresh (withFilter .driverDoor F s)) (by simp)
        refine ⟨refresh (withFilter .driverDoor F s), hexec, fun b hb => ?_, hsame, hother, by simp, fun g _ => by simp [State.signal, withFilter], by simp, by simp,
          fun h => absurd h.2 hedge, fun _ => by simp [withFilter], by simp, fun _ h => absurd h hedge,
          fun _ => by simp [withFilter]⟩
        cases b
        case power | link | signals | input | wnu | msc | seq | draw => simp at hb
        all_goals simp [Agree, withFilter]
    | headlamp =>
      obtain ⟨hsame, hother, hreaders⟩ := writeLocal_spec (some (levelValue level)) (withFilter .headlamp F s).input s
        (g := .headlampSw) (readAfter_refresh _)
      obtain ⟨htouches, hinput⟩ := writeFlag_touches (g := .headlampSw) (by decide) (by decide) (some (levelValue level))
        (withFilter .headlamp F s).input s
      obtain ⟨hline', hlines⟩ := hfilter _ hinput
      refine ⟨refresh (writeLocal .headlampSw (some (levelValue level)) (s.setInput (withFilter .headlamp F s).input)), hexec, fun b hb => ?_, hline', hlines, fun g hg => ?_, fun g hg => ?_, by simp, fun _ => ?_, by simp, by simp,
        fun _ hmade => ?_, by simp, fun _ => ?_⟩
      · exact htouches _ (by revert hb; cases b <;> decide)
      · obtain ⟨-, rfl⟩ : SwitchLine.headlamp = .headlamp ∧ g = .headlampSw := by simpa using hg
        rw [hsame, written_eq]
        cases level <;> rfl
      · exact hother g (by simpa using hg)
      · exact (hreaders [] (by intro n; cases n <;> decide)).2 hpowered
      · have hmade' : AsMade (s.setInput (withFilter .headlamp F s).input) := hmade
        rw [(refresh_frame _).2.2.2.2.2.2.2.2.1, wnu_writeHeadlamp hmade']
        rfl
      · exact htouches .power (by decide)
    | brakeFluid =>
      obtain ⟨hsame, hother, hreaders⟩ := writeLocal_spec (some (levelValue level)) (withFilter .brakeFluid F s).input s
        (g := .brakeFluid) (readAfter_refresh _)
      obtain ⟨htouches, hinput⟩ := writeFlag_touches (g := .brakeFluid) (by decide) (by decide) (some (levelValue level))
        (withFilter .brakeFluid F s).input s
      obtain ⟨hline', hlines⟩ := hfilter _ hinput
      refine ⟨refresh (writeLocal .brakeFluid (some (levelValue level)) (s.setInput (withFilter .brakeFluid F s).input)), hexec, fun b hb => ?_, hline', hlines, fun g hg => ?_, fun g hg => ?_, fun _ => ?_, by simp, by simp, by simp,
        by simp, by simp, fun _ => ?_⟩
      · exact htouches _ (by revert hb; cases b <;> decide)
      · obtain ⟨-, rfl⟩ : SwitchLine.brakeFluid = .brakeFluid ∧ g = .brakeFluid := by simpa using hg
        rw [hsame, written_eq]
        cases level <;> rfl
      · exact hother g (by simpa using hg)
      · exact (hreaders [.brakeFluid] (by intro n; cases n <;> decide)).2 hpowered
      · exact htouches .power (by decide)
    | spare =>
      obtain ⟨hsame, hother⟩ := hfilter (refresh (withFilter .spare F s)) (by simp)
      refine ⟨refresh (withFilter .spare F s), hexec, fun b hb => ?_, hsame, hother, by simp, fun g _ => by simp [State.signal, withFilter], by simp, by simp,
        by simp, fun _ => by simp [withFilter], by simp, by simp, fun _ => by simp [withFilter]⟩
      cases b
      case power | link | signals | input | wnu | msc | seq | draw => simp at hb
      all_goals simp [Agree, withFilter]

end Sys2Proof.Machine
end

section
/-! CLAIM. The button debouncers (R60 to R62): positions, timers and the queue of events. -/

namespace Sys2Proof.Machine

open Sys2Proof

variable {s : State} {b : Button} {d : Debouncer} {c : Contact}

/-! ## A button's samples (R60) -/

theorem sampled_first (h : d.last = none) :
    d.sampled c = { d with position := c, last := some c, run := 1, locked := decide (c = .down) } := by
  rw [Debouncer.sampled, h]
  cases c <;> rfl

theorem sampled_later {x : Contact} (h : d.last = some x) :
    d.sampled c = { d with last := some c, run := if x = c then min 4 (d.run + 1) else 1 } := by
  rw [Debouncer.sampled, h]

theorem changes_iff : d.changes c = true ↔ (d.sampled c).run = 4 ∧ (d.sampled c).position ≠ c := by
  simp [Debouncer.changes]

/-- A change of a position comes behind earlier samples. -/
theorem last_of_changes (h : d.changes c = true) : ∃ x, d.last = some x := by
  cases hl : d.last with
  | some x => exact ⟨x, rfl⟩
  | none =>
    rw [changes_iff, sampled_first hl] at h
    exact absurd h.1 (by simp)

theorem NoneChanges.of_append {p q : List Contact} (h : NoneChanges d (p ++ q)) : NoneChanges d p :=
  fun p' l q' he => h p' l (q' ++ q) (by simp [he])

theorem button_ix_injective {a b : Button} (h : a.ix = b.ix) : a = b := by
  revert h
  cases a <;> cases b <;> decide

theorem button_setButton_same (s : State) (b : Button) (d : Debouncer) : (s.setButton b d).button b = d := by
  simp [State.setButton, State.button]

theorem button_setButton_other {a : Button} (h : a ≠ b) (s : State) (d : Debouncer) :
    (s.setButton b d).button a = s.button a := by
  have hne : b.ix.val ≠ a.ix.val := fun he => h (button_ix_injective (Fin.ext he)).symm
  simp [State.setButton, State.button, Vector.getElem_set_ne _ _ hne]

theorem setButton_button (s : State) (b : Button) : s.setButton b (s.button b) = s := by
  simp [State.setButton, State.button, State.setInput]

theorem setButton_setButton (s : State) (b : Button) (d e : Debouncer) : (s.setButton b d).setButton b e = s.setButton b e := by
  simp [State.setButton, State.setInput]

/-- Samples short of a change only count in their button. -/
theorem foldl_sampleButton (hs : s.powered = true) {p : List Contact} (h : NoneChanges (s.button b) p) :
    p.foldl (sampleButton b) s = s.setButton b ((s.button b).after p) := by
  induction p using List.reverseRecOn with
  | nil => exact (setButton_button s b).symm
  | append_singleton p c ih =>
    have hlast : (((s.setButton b ((s.button b).after p)).button b).changes c) = false := by
      rw [button_setButton_same]
      exact h p c [] rfl
    rw [List.foldl_append, ih h.of_append, List.foldl_cons, List.foldl_nil,
      sampleButton_quiet hlast hs, button_setButton_same, setButton_setButton,
      Debouncer.after_append]
    rfl

/-! ## The queue of events (R62) -/

/-- The inputs with an event given to the queue, or dropped. -/
def queuedEvent (e : ButtonEvent) (i : Input) : Input :=
  if i.events.length < 7 then { i with events := i.events ++ [e] }
  else { i with
    overrun := if i.overrun = .clearRead ∨ i.overrun = .raisedAfterRead then .raisedAfterRead else .raised }

theorem giveEvent_eq (e : ButtonEvent) (s : State) : giveEvent e s = s.setInput (queuedEvent e s.input) := by
  unfold giveEvent queuedEvent
  split_ifs with hlen hread <;> try rfl
  · rcases hread with h | h <;> rw [h] <;> rfl
  · have hraise : s.input.overrun.raise = .raised := by
      cases ho : s.input.overrun <;> simp_all [OverrunFlag.raise]
    rw [hraise]

theorem giveUnlocked_eq (locked : Bool) (e : ButtonEvent) (s : State) :
    giveUnlocked locked e s = s.setInput (if locked then s.input else queuedEvent e s.input) := by
  cases locked
  · exact giveEvent_eq e s
  · rfl

/-! ## A change of a position (R60, R61) -/

/-- A button that has become DOWN, with the 10 s of the pair. -/
def pressedInput (b : Button) (d : Debouncer) (s : State) : Input :=
  { s.input with
    buttons :=
      s.input.buttons.set b.ix
        { position := .down, last := some .down, run := 4, hold := some 2000, holdGiven := false, locked := d.locked }
    longTimer :=
      if d.locked = false ∧
          ((b = .check ∧ (s.button .reset).position = .down ∧ (s.button .reset).locked = false) ∨
            (b = .reset ∧ (s.button .check).position = .down ∧ (s.button .check).locked = false)) then some 10000
      else s.input.longTimer }

/-- A button that has become UP. -/
def releasedInput (b : Button) (d : Debouncer) (s : State) : Input :=
  { s.input with
    buttons :=
      s.input.buttons.set b.ix
        { position := .up, last := some .up, run := 4, hold := none, holdGiven := d.holdGiven, locked := false }
    longTimer := if b = .check ∨ b = .reset then none else s.input.longTimer }

/-- The pair of LONG is DOWN, a button of it having just become so. -/
theorem pair_down_iff (s : State) (b : Button) (e : Debouncer) (he : e.position = .down) :
    longPair b = true ∧ bothDown (s.setButton b e) = true ↔
      e.locked = false ∧
        ((b = .check ∧ (s.button .reset).position = .down ∧ (s.button .reset).locked = false) ∨
          (b = .reset ∧ (s.button .check).position = .down ∧ (s.button .check).locked = false)) := by
  cases b with
  | mode => simp [longPair]
  | set => simp [longPair]
  | check =>
    rw [bothDown, button_setButton_same, button_setButton_other (by decide)]
    simp [longPair, he, and_assoc]
  | reset =>
    rw [bothDown, button_setButton_same, button_setButton_other (by decide)]
    simp [longPair, he]
    tauto

theorem pressButton_eq (hlast : d.last = some .down) (hrun : d.run = 4) (s : State) (b : Button) :
    pressButton b (s.setButton b d) =
      s.setInput (if d.locked then pressedInput b d s else queuedEvent (.press b) (pressedInput b d s)) := by
  have hs2 : (if longPair b = true ∧
        bothDown (s.setButton b { d with position := .down, hold := some 2000, holdGiven := false }) = true then
      (s.setButton b { d with position := .down, hold := some 2000, holdGiven := false }).setInput
        { (s.setButton b { d with position := .down, hold := some 2000, holdGiven := false }).input with
          longTimer := some 10000 }
      else s.setButton b { d with position := .down, hold := some 2000, holdGiven := false }) =
      s.setInput (pressedInput b d s) := by
    simp only [pair_down_iff s b { d with position := .down, hold := some 2000, holdGiven := false } rfl]
    unfold pressedInput
    split_ifs <;> simp [State.setButton, State.setInput, hlast, hrun]
  unfold pressButton
  dsimp only
  rw [button_setButton_same, setButton_setButton, hs2, giveUnlocked_eq]
  rfl

theorem releaseButton_eq (hlast : d.last = some .up) (hrun : d.run = 4) (s : State) (b : Button) :
    releaseButton b (s.setButton b d) =
      s.setInput (if d.locked then releasedInput b d s
        else queuedEvent (if d.holdGiven then .releaseAfterHold b else .release b) (releasedInput b d s)) := by
  have hs2 : (if longPair b = true then
      (s.setButton b { d with position := .up, hold := none, locked := false }).setInput
        { (s.setButton b { d with position := .up, hold := none, locked := false }).input with longTimer := none }
      else s.setButton b { d with position := .up, hold := none, locked := false }) =
      s.setInput (releasedInput b d s) := by
    cases b <;> simp [releasedInput, longPair, State.setButton, State.setInput, hlast, hrun]
  unfold releaseButton
  dsimp only
  rw [button_setButton_same, setButton_setButton, hs2, giveUnlocked_eq]
  rfl

/-- The fourth equal sample that differs from the position changes it (R60). -/
theorem foldl_sampleButton_changes (hs : s.powered = true) {p : List Contact} (h : NoneChanges (s.button b) p)
    (hc : ((s.button b).after p).changes c = true) :
    ∃ e : Debouncer, e = ((s.button b).after p).sampled c ∧ e.last = some c ∧ e.run = 4 ∧
      e.locked = ((s.button b).after p).locked ∧ e.holdGiven = ((s.button b).after p).holdGiven ∧
      (p ++ [c]).foldl (sampleButton b) s =
        (match c with
         | .down => pressButton b (s.setButton b e)
         | .up => releaseButton b (s.setButton b e)) := by
  obtain ⟨x, hx⟩ := last_of_changes hc
  obtain ⟨hrun, -⟩ := changes_iff.mp hc
  have he := sampled_later (c := c) hx
  refine ⟨_, rfl, by rw [he], hrun, by rw [he], by rw [he], ?_⟩
  have hpow : (s.setButton b ((s.button b).after p)).powered = true := hs
  rw [List.foldl_append, foldl_sampleButton hs h, List.foldl_cons, List.foldl_nil, sampleButton, if_pos hpow]
  dsimp only
  rw [button_setButton_same, if_pos hc, setButton_setButton]
  cases c <;> rfl

/-- Settles O35: samples count, a change gives its event, and the two timers theirs. -/
theorem buttonsGiveEvents : Obligations.ButtonsGiveEvents := by
  unfold Obligations.ButtonsGiveEvents
  refine ⟨fun d c => ⟨fun h => ⟨?_, sampled_first h⟩, fun x h => ?_⟩, fun s b samples hs hnone => ?_, fun s b hs => ?_⟩
  · rw [← Bool.not_eq_true]
    intro hc
    obtain ⟨x, hx⟩ := last_of_changes hc
    rw [h] at hx
    cases hx
  · intro run
    refine ⟨sampled_later h, ?_⟩
    rw [changes_iff, sampled_later h]
  · intro d read queued down up
    refine ⟨fun hne => ?_, ?_, fun hc => ?_, fun hc => ?_⟩
    · exact (if_neg (by simp [hne])).trans (congrArg _ (foldl_sampleButton hs hnone))
    · refine (if_pos ⟨rfl, hs⟩).trans (congrArg (fun x => (.next (s.setInput { s.input with overrun := x }) : Answer)) ?_)
      cases s.input.overrun <;> rfl
    · obtain ⟨e, -, hlast, hrun, hlocked, -, hfold⟩ := foldl_sampleButton_changes hs hnone hc
      have hdown : down = pressedInput b e s := by simp only [down, pressedInput, hlocked, d]
      refine (if_neg (by simp)).trans (congrArg _ (hfold.trans ?_))
      rw [pressButton_eq hlast hrun, hlocked, ← hdown]
      rfl
    · obtain ⟨e, -, hlast, hrun, hlocked, hgiven, hfold⟩ := foldl_sampleButton_changes hs hnone hc
      have hup : up = releasedInput b e s := by simp only [up, releasedInput, hgiven, d]
      refine (if_neg (by simp)).trans (congrArg _ (hfold.trans ?_))
      rw [releaseButton_eq hlast hrun, hlocked, hgiven, ← hup]
      rfl
  · intro read queued
    refine ⟨fun h => ?_, fun h => ?_⟩
    · exact (if_pos ⟨hs, h⟩).trans (congrArg _ (giveEvent_eq _ _))
    · exact (if_pos ⟨hs, h⟩).trans (congrArg _ (giveEvent_eq _ _))

end Sys2Proof.Machine
end

section
/-! CLAIM. The chime queue (R135, R136), what a request does to the tone (R138 to R140), and the stations' requests and
cancels (R141, R142). -/

namespace Sys2Proof.Machine

open Sys2Proof

variable {s : State} {r : ChimeRequest} {q : List ChimeRequest}

/-! ## A request takes its place (R135) -/

theorem chimeBefore_trans {a b c : ChimeRequest} (h : ChimeBefore a b) (h' : ChimeBefore b c) : ChimeBefore a c := by
  unfold ChimeBefore at *
  omega

theorem chimePlaced_chimeInsert (h : q.Pairwise ChimeBefore) : ChimePlaced r q (chimeInsert r q) := by
  induction q with
  | nil => exact ⟨[], [], rfl, by simp, by simp, rfl⟩
  | cons x xs ih =>
    obtain ⟨hx, hxs⟩ := List.pairwise_cons.mp h
    by_cases hb : ChimeBefore x r
    · obtain ⟨p, y, hq, hp, hy, heq⟩ := ih hxs
      have hins : chimeInsert r (x :: xs) = x :: chimeInsert r xs := if_pos hb
      refine ⟨x :: p, y, by rw [hq]; rfl, fun z hz => ?_, hy, by rw [hins, heq]; rfl⟩
      rcases List.mem_cons.mp hz with rfl | hz
      · exact hb
      · exact hp z hz
    · refine ⟨[], x :: xs, rfl, by simp, fun z hz hzr => hb ?_, if_neg hb⟩
      rcases List.mem_cons.mp hz with rfl | hz
      · exact hzr
      · exact chimeBefore_trans (hx z hz) hzr

/-- The youngest request of the largest class number leaves the queue (R136). -/
theorem chimeRemoveYoungest_split {low : Nat} (h : chimeLowestClass q = some low) :
    ∃ p y x, q = p ++ y :: x ∧ chimeRemoveYoungest low q = p ++ x ∧
      ∀ z ∈ p ++ x, z.cls < y.cls ∨ (z.cls = y.cls ∧ z.entered ≤ y.entered) := by
  obtain ⟨⟨x, hx, hc⟩, hmax⟩ := chimeLowestClass_eq_some_iff.mp h
  obtain ⟨y, hy, hyc, hlatest, hye⟩ := exists_latest hx hc
  obtain ⟨a, l₁, l₂, -, ha, heq, heq'⟩ := List.exists_of_eraseP
    (p := fun r => r.cls == low && r.entered == (((q.filter (fun r => r.cls == low)).map (·.entered)).max?).getD 0)
    hy (by simp [hyc, hye])
  have ha : a.cls = low ∧ a.entered = y.entered := by simpa [← hye] using ha
  refine ⟨l₁, a, l₂, heq, heq', fun z hz => ?_⟩
  have hzq : z ∈ q := by
    rw [heq]
    simp only [List.mem_append, List.mem_cons] at hz ⊢
    tauto
  have hzc := hmax z hzq
  have hze := hlatest z hzq
  omega

theorem chimeRemove_eq_filter (src : ChimeSource) (q : List ChimeRequest) :
    chimeRemove src q = q.filter (fun x => x.source ≠ src) :=
  List.filter_congr fun x _ => by by_cases h : x.source = src <;> simp [h]

theorem chimeGiven_chimeJoin (h : ChimesOk q) : ChimeGiven r q (chimeJoin r q).1 (chimeJoin r q).2 := by
  rcases chimeJoin_cases r q with
    ⟨old, hold, hsrc, heq⟩ | ⟨hnew, ⟨hlen, heq⟩ | ⟨hlen, low, hlow, hlt, heq⟩ | ⟨hlen, hmax, heq⟩⟩ <;> rw [heq]
  · refine ⟨fun old' hold' hsrc' => ⟨rfl, ?_⟩, fun hnone => absurd hsrc (hnone old hold)⟩
    obtain rfl := h.eq_of_source hold hold' (hsrc.trans hsrc'.symm)
    rw [← chimeRemove_eq_filter]
    exact chimePlaced_chimeInsert (h.2.1.sublist (chimeRemove_sublist r.source q))
  · refine ⟨fun old hold hsrc => absurd hsrc (hnew old hold), fun _ => ⟨fun _ => ⟨rfl, chimePlaced_chimeInsert h.2.1⟩,
      fun hfull => absurd hlen (by omega), fun hfull => absurd hlen (by omega)⟩⟩
  · obtain ⟨⟨x, hx, hxc⟩, -⟩ := chimeLowestClass_eq_some_iff.mp hlow
    refine ⟨fun old hold hsrc => absurd hsrc (hnew old hold), fun _ => ⟨fun hroom => absurd hlen (by omega),
      fun _ hle => ?_, fun _ _ => ⟨rfl, ?_⟩⟩⟩
    · have := hle x hx
      omega
    · obtain ⟨p, y, z, hq, hrem, hyoung⟩ := chimeRemoveYoungest_split hlow
      refine ⟨p, y, z, hq, hyoung, ?_⟩
      rw [hrem]
      exact chimePlaced_chimeInsert (hrem ▸ h.2.1.sublist (chimeRemoveYoungest_sublist low q))
  · refine ⟨fun old hold hsrc => absurd hsrc (hnew old hold), fun _ => ⟨fun hroom => absurd hlen (by omega),
      fun _ _ => ⟨rfl, rfl⟩, fun _ hex => ?_⟩⟩
    obtain ⟨x, hx, hlt⟩ := hex
    have := hmax x hx
    omega

/-! ## A request acts on the tone (R138 to R140) -/

/-- A taken request waits in the queue, but for its time of entry. -/
theorem exists_source_chimeJoin (h : (chimeJoin r q).2 = true) :
    ∃ n, n ∈ (chimeJoin r q).1 ∧ n.source = r.source ∧ n.cls = r.cls := by
  obtain ⟨m, hm⟩ := exists_mem_chimeJoin h
  exact ⟨_, hm, rfl, rfl⟩

theorem chimeTaken_giveChime {w : WarningUnit} (h : w.ChimeOk) (r : ChimeRequest) :
    ChimeTaken r w (w.giveChime r).1 (w.giveChime r).2 := by
  have hgiven := chimeGiven_chimeJoin (r := r) h.1
  have hq := chimesOk_chimeJoin (r := r) h.1
  have htone := h.2
  unfold WarningUnit.giveChime
  cases hw : w.tone with
  | silent => exact ⟨by simp, _, hgiven, by simp [hw], by simp [hw], by simp [hw]⟩
  | spacing => exact ⟨by simp, _, hgiven, by simp [hw], by simp [hw], by simp [hw]⟩
  | idle =>
    have hempty : w.chimes = [] := by rwa [hw] at htone
    have hjoin : chimeJoin r w.chimes = ([r], true) := by rw [hempty]; rfl
    dsimp only
    rw [hjoin] at hgiven ⊢
    exact ⟨rfl, _, hgiven, fun _ => ⟨rfl, rfl⟩, by simp [hw], by simp [hw]⟩
  | sounding cur =>
    rw [hw] at htone
    have hidle : w.tone ≠ .idle := by simp [hw]
    have hquiet : ¬(w.tone = .silent ∨ w.tone = .spacing) := by simp [hw]
    dsimp only
    split_ifs with hsame hpre
    · refine ⟨rfl, _, hgiven, fun h => absurd h hidle, fun h => absurd h hquiet, fun cur' hc => ?_⟩
      obtain rfl := Tone.sounding.inj (hw.symm.trans hc)
      exact ⟨fun _ => ⟨rfl, rfl⟩, fun hne => absurd hsame hne, fun hne => absurd hsame hne⟩
    · obtain ⟨htaken, hlt⟩ := hpre
      obtain ⟨n, hn, hns, hnc⟩ := exists_source_chimeJoin htaken
      have hcur : ∀ x ∈ (chimeJoin r w.chimes).1, x.source ≠ n.source → cur.cls ≤ x.cls := by
        intro x hx hne
        rcases mem_chimeJoin hx with ⟨m, rfl⟩ | ⟨hx, -⟩
        · exact absurd hns.symm hne
        · exact (htone x hx).2
      obtain ⟨-, -, -, heq⟩ := preempt_spec (w := { w with chimes := (chimeJoin r w.chimes).1, tone := .sounding cur })
        (cur := cur) (r := n) hq hn hcur (hns ▸ hsame) (hnc ▸ hlt)
      rw [hns] at heq
      rw [heq]
      refine ⟨rfl, _, hgiven, fun h => absurd h hidle, fun h => absurd h hquiet, fun cur' hc => ?_⟩
      obtain rfl := Tone.sounding.inj (hw.symm.trans hc)
      refine ⟨fun h => absurd h hsame, fun _ h => ?_, fun _ _ _ => ⟨n, hn, hns, rfl, fun hone => ?_, fun hcont => ?_⟩⟩
      · rcases h with h | h
        · exact Bool.noConfusion (htaken.symm.trans h)
        · omega
      · rw [← chimeRemove_eq_filter, if_neg (by simp [hone])]
      · refine ⟨_, _, chimeGiven_chimeJoin (r := cur) hq, ?_⟩
        rw [← chimeRemove_eq_filter, if_pos hcont]
    · refine ⟨by simp, _, hgiven, fun h => absurd h hidle, fun h => absurd h hquiet, fun cur' hc => ?_⟩
      obtain rfl := Tone.sounding.inj (hw.symm.trans hc)
      exact ⟨fun h => absurd h hsame, fun _ _ => ⟨hw.symm, rfl⟩, fun _ ht hlt => absurd ⟨ht, hlt⟩ hpre⟩

/-! ## The display behind a command (R166) -/

/-- What the display shows is composed anew, and the rest of the Message Centre stays. -/
theorem refresh_msc_kept (s : State) :
    (refresh s).msc =
      { s.msc with
        composed := (refresh s).msc.composed, lastSent := (refresh s).msc.lastSent
        sending := (refresh s).msc.sending } := by
  rcases refresh_msc s with h | h | h <;> rw [h]

/-- A command that composes the display touches the Message Centre besides. -/
theorem Touches.refresh {bs : List Block} {s t : State} (h : Touches bs s t) (hmsc : .msc ∈ bs) :
    Touches bs s (Machine.refresh t) :=
  h.trans ((touches_refresh t).mono (by simpa using hmsc))

/-! ## The stations (R38, R141, R142) -/

/-- The source's sounding pattern that is one of those stopped ends; any other tone goes on. -/
theorem tone_stopSounding (w : WarningUnit) (src : ChimeSource) (stops : Pattern → Bool) :
    (∀ r, w.tone = .sounding r → r.source = src → stops r.pattern = true → (w.stopSounding src stops).tone = .spacing) ∧
      ((∀ r, w.tone = .sounding r → ¬(r.source = src ∧ stops r.pattern = true)) → w.stopSounding src stops = w) := by
  unfold WarningUnit.stopSounding
  cases hw : w.tone with
  | sounding r =>
    dsimp only
    refine ⟨fun r' h hs hstop => ?_, fun h => ?_⟩
    · obtain rfl := Tone.sounding.inj h
      rw [if_pos (by simpa using ⟨hs, hstop⟩)]
      rfl
    · exact if_neg (by simpa using h r rfl)
  | idle | silent | spacing => simp

theorem stationsTaken_iff : s.stationsTaken = true ↔ s.awake = true ∧ s.power.endPhase = .none := by
  simp [State.stationsTaken]

/-- A station's request whose fields are in order. -/
theorem stationRequest_of_fields {f : Frame} {b0 b1 b2 : Byte} {p : Pattern} (hdata : f.data = [b0, b1, b2])
    (hp : Pattern.ofNat? b0.toNat = some p) (hcls : b1.toNat ≤ 3) (moment : Nat) :
    stationRequest f moment =
      some { source := .station f.source, pattern := p, cls := max 1 b1.toNat, entered := moment } := by
  simp [stationRequest, hdata, byteAt, hp, hcls]

/-- A pattern has a number from 1 to 7. -/
theorem pattern_ofNat_eq_none {n : Nat} (h : n = 0 ∨ 7 < n) : Pattern.ofNat? n = none := by
  rcases h with rfl | h
  · rfl
  · obtain ⟨m, rfl⟩ := Nat.exists_eq_add_of_le h
    rw [Nat.add_comm]
    rfl

/-- A request that is not well formed is none. -/
theorem stationRequest_eq_none {f : Frame}
    (h : f.data.length ≠ 3 ∨ (byteAt f.data 0).toNat = 0 ∨ 7 < (byteAt f.data 0).toNat ∨ 3 < (byteAt f.data 1).toNat)
    (moment : Nat) : stationRequest f moment = none := by
  unfold stationRequest
  by_cases hp : (byteAt f.data 0).toNat = 0 ∨ 7 < (byteAt f.data 0).toNat
  · rw [pattern_ofNat_eq_none hp]
  · cases Pattern.ofNat? (byteAt f.data 0).toNat with
    | none => rfl
    | some p =>
      refine if_neg ?_
      rintro ⟨hlen, hcls⟩
      omega

/-- A station's request takes its place, and shows its text if it is in the queue. -/
theorem giveStationChime_spec (s : State) (r : ChimeRequest) (text station : Nat) :
    let taken := (s.wnu.giveChime r).2
    let t := giveStationChime r text station s
    Touches [.wnu, .msc, .seq] s t ∧ t.wnu = (s.wnu.giveChime r).1 ∧
      t.msc =
        if taken = true ∧ 1 ≤ text ∧ text ≤ 5 then
          { s.msc with peerText := some { text := text, station := station }, peerTimer := some 5000 }
        else s.msc := by
  intro taken t
  have ht : t = if taken = true ∧ 1 ≤ text ∧ text ≤ 5 then
      showPeerText text station (s.setWnu (s.wnu.giveChime r).1).nextMoment
      else (s.setWnu (s.wnu.giveChime r).1).nextMoment := rfl
  rw [ht]
  refine ⟨fun b hb => ?_, ?_, ?_⟩
  · cases b
    case wnu | msc | seq => simp at hb
    all_goals split_ifs <;> rfl
  · split_ifs <;> rfl
  · split_ifs <;> rfl

/-- A cancel ends what a station has sounding, waiting and on show, and nothing of another's. -/
theorem cancelStation_spec (s : State) (station : Nat) :
    let t := cancelStation station s
    Touches [.wnu, .msc] s t ∧
      t.wnu = { s.wnu with tone := t.wnu.tone, chimes := t.wnu.chimes } ∧
      t.wnu.chimes = s.wnu.chimes.filter (fun q => q.source ≠ .station station) ∧
      (∀ r, s.wnu.tone = .sounding r → r.source = .station station → t.wnu.tone = .spacing) ∧
      ((∀ r, s.wnu.tone = .sounding r → r.source ≠ .station station) → t.wnu.tone = s.wnu.tone) ∧
      ∀ x, s.msc.peerText = some x → t.msc.peerText = if x.station = station then none else some x := by
  intro t
  let w : WarningUnit := { s.wnu with chimes := chimeRemove (.station station) s.wnu.chimes }
  have hwnu : t.wnu = w.stopSounding (.station station) (fun _ => true) := by
    simp only [t, cancelStation]
    split_ifs <;> rfl
  obtain ⟨hstops, hgoes⟩ := tone_stopSounding w (.station station) (fun _ => true)
  refine ⟨fun b hb => ?_, ?_, ?_, fun r hr hs => ?_, fun h => ?_, fun x hx => ?_⟩
  · cases b
    case wnu | msc => simp at hb
    all_goals
      simp only [t, cancelStation]
      split_ifs <;> rfl
  · rw [hwnu]
    rcases stopSounding_eq w (.station station) (fun _ => true) with heq | heq
    · rw [heq]
    · rw [heq]
      rfl
  · rw [← chimeRemove_eq_filter, hwnu]
    rcases stopSounding_eq w (.station station) (fun _ => true) with heq | heq
    · rw [heq]
    · rw [heq]
      rfl
  · rw [hwnu]
    exact hstops r hr hs rfl
  · rw [hwnu, hgoes fun r hr hc => h r hr hc.1]
  · have hmsc : t.msc.peerText = if s.msc.peerText.any (fun x => x.station == station) then none else s.msc.peerText := by
      simp only [t, cancelStation]
      split_ifs with h1 h2 h2
      · rfl
      · exact absurd h1 h2
      · exact absurd h2 h1
      · rfl
    rw [hmsc, hx]
    simp

/-- Settles O26: a request takes its place by R135 and R136 and acts on the tone by R138 to R140; a cancel takes its
station's own away, and what is not in order is discarded. -/
theorem stationChimes : Obligations.StationChimes := by
  unfold Obligations.StationChimes
  refine ⟨fun s f rest b0 b1 b2 p hinv h hdata hp hcls hawake hphase => ?_,
    fun s r hinv => chimeTaken_giveChime ((chimeInv_iff s).mp hinv) r,
    fun s f rest h hdata hawake hphase => ?_, fun s f rest c id => ?_⟩
  · have hexec : exec .chimeRequest s =
        done (giveStationChime
          { source := .station f.source, pattern := p, cls := max 1 b1.toNat, entered := s.seq } b2.toNat f.source
          (s.setLink { s.link with ring := rest })) := by
      have htaken : (s.setLink { s.link with ring := rest }).stationsTaken = true :=
        stationsTaken_iff.mpr ⟨hawake, hphase⟩
      refine congrArg done ((dispatch_of_handsOn h _).trans ?_)
      rw [stationRequest_of_fields hdata hp hcls]
      dsimp only
      rw [if_pos htaken, hdata]
      rfl
    generalize ({ source := .station f.source, pattern := p, cls := max 1 b1.toNat, entered := s.seq } : ChimeRequest) = r
      at hexec ⊢
    obtain ⟨htouches, hwnu, hmsc⟩ := giveStationChime_spec (s.setLink { s.link with ring := rest }) r b2.toNat f.source
    refine ⟨_, (s.wnu.giveChime r).2, hexec, ?_, ?_, ?_, fun ht => ?_, fun ht => ?_⟩
    · exact (((touches_setLink s _).mono (by simp)).trans (htouches.mono (by simp))).refresh (by simp)
    · exact (refresh_frame _).2.1.trans (htouches .link (by simp))
    · rw [(refresh_frame _).2.2.2.2.2.2.2.2.1, hwnu]
      exact chimeTaken_giveChime ((chimeInv_iff s).mp hinv) _
    · have hshown := hmsc.trans (if_pos ht)
      rw [refresh_msc_kept, hshown]
      exact ⟨rfl, rfl⟩
    · have hsame := hmsc.trans (if_neg ht)
      rw [refresh_msc_kept, hsame]
      exact ⟨rfl, rfl⟩
  · have hexec : exec .chimeCancel s = done (cancelStation f.source (s.setLink { s.link with ring := rest })) := by
      refine congrArg done ((dispatch_of_handsOn h _).trans (if_pos ⟨hdata, ?_⟩))
      exact stationsTaken_iff.mpr ⟨hawake, hphase⟩
    obtain ⟨htouches, hwnu, hchimes, hstops, hgoes, htext⟩ :=
      cancelStation_spec (s.setLink { s.link with ring := rest }) f.source
    have hw := (refresh_frame (cancelStation f.source (s.setLink { s.link with ring := rest }))).2.2.2.2.2.2.2.2.1
    refine ⟨_, hexec, ?_, (refresh_frame _).2.1.trans (htouches .link (by simp)), ?_, ?_, ?_, ?_, fun x hx => ?_⟩
    · exact (((touches_setLink s _).mono (by simp)).trans (htouches.mono (by simp))).refresh (by simp)
    · rw [hw]
      exact hwnu
    · rw [hw]
      exact hchimes
    · rw [hw]
      exact hstops
    · rw [hw]
      exact hgoes
    · rw [refresh_msc_kept]
      exact htext x hx
  · intro b away hc h
    have haway : away → (s.setLink { s.link with ring := rest }).stationsTaken = false := by
      intro ha
      rw [← Bool.not_eq_true]
      intro ht
      obtain ⟨hawake, hphase⟩ := stationsTaken_iff.mp ht
      rcases ha with ha | ha
      · exact Bool.noConfusion (ha.symm.trans hawake)
      · exact ha hphase
    have hexec : exec c s = done (s.setLink { s.link with ring := rest }) := by
      rcases hc with ⟨rfl, rfl, hbad⟩ | ⟨rfl, rfl, hbad⟩
      · refine congrArg done ((dispatch_of_handsOn h _).trans ?_)
        by_cases ha : away
        · rw [haway ha]
          split <;> rfl
        · rw [stationRequest_eq_none (by tauto)]
      · refine congrArg done ((dispatch_of_handsOn h _).trans (if_neg ?_))
        rintro ⟨hdata, ht⟩
        rcases hbad with hbad | hbad
        · exact hbad hdata
        · exact Bool.noConfusion ((haway hbad).symm.trans ht)
    exact ⟨_, hexec, ((touches_setLink s _).mono (by simp)).refresh (by simp), (refresh_frame _).2.1, refresh_msc_kept _⟩

end Sys2Proof.Machine
end

section
/-! CLAIM. The metres (R47, R88, R96, R105, R107): what a pulse counts, and what a metre does to the commit. -/

namespace Sys2Proof.Machine

open Sys2Proof

variable {s t : State} {m : Nat}

/-! ## The odometer's metre (R105, R107) -/

/-- A job that begins changes no figure of the odometer. -/
theorem odo_stcBegin (s : State) : (stcBegin s).odo = { s.odo with commit := (stcBegin s).odo.commit } := by
  unfold stcBegin
  dsimp only
  (repeat' split) <;> rfl

/-- A commit that starts waits or is written at once (R107). -/
theorem commitStart_commit (s : State) :
    (commitStart s).odo.commit = .waiting ∨ (commitStart s).odo.commit = .writing := by
  unfold commitStart
  rcases stcBegin_cases ((s.setStc
      { s.stc with waitOdometer := some { value := s.odo.jobValue, mark := s.odo.restored } }).setOdo
      { s.odo with commit := .waiting }) with h | ⟨j, -, -, h, -⟩ | ⟨e, es, hno, -⟩ | ⟨hno, -⟩
  · exact .inl (by rw [h]; rfl)
  · exact .inr h
  · cases hno
  · cases hno

theorem odo_commitStart (s : State) : (commitStart s).odo = { s.odo with commit := (commitStart s).odo.commit } := by
  unfold commitStart
  rw [odo_stcBegin]
  rfl

/-- Short of its limit the pending distance takes a metre, and no other figure of the odometer changes. -/
theorem odo_odometerMetre (h : s.odo.pending < 4294967295) :
    (odometerMetre s).odo = { s.odo with pending := s.odo.pending + 1, commit := (odometerMetre s).odo.commit } := by
  have hpending : satInc max32 s.odo.pending = s.odo.pending + 1 := Nat.min_eq_left (by unfold max32; omega)
  unfold odometerMetre
  dsimp only
  rw [hpending]
  split
  · split
    · rw [odo_commitStart]
      rfl
    · rfl
  · unfold raiseWaiting
    split <;> rfl
  · rfl
  · split
    · rw [odo_commitStart]
      rfl
    · rfl

/-- What the commit makes of a metre, in each of its states (R107, R108). -/
theorem odometerMetre_commit (h : s.odo.pending < 4294967295) :
    let t := odometerMetre s
    (s.odo.commit = .clear → s.odo.resolved = true → 1000 * s.settings.commitKm ≤ s.odo.pending + 1 →
      t.odo.commit = .waiting ∨ t.odo.commit = .writing) ∧
    (s.odo.commit = .clear → s.odo.resolved = false ∨ s.odo.pending + 1 < 1000 * s.settings.commitKm →
      t.odo.commit = .clear ∧ t.stc = s.stc) ∧
    (s.odo.commit = .deferred → s.odo.retryPoint ≤ t.odo.total → t.odo.commit = .waiting ∨ t.odo.commit = .writing) ∧
    (s.odo.commit = .deferred → t.odo.total < s.odo.retryPoint → t.odo.commit = .deferred ∧ t.stc = s.stc) ∧
    (s.odo.commit = .writing → t.odo.commit = .writing ∧ t.stc = s.stc) ∧
    (∀ j, s.odo.commit = .waiting → s.stc.waitOdometer = some j →
      t.odo.commit = .waiting ∧ ∃ v, JobHolds t.odo v ∧ t.stc.waitOdometer = some { j with value := v }) := by
  intro t
  have hpending : satInc max32 s.odo.pending = s.odo.pending + 1 := Nat.min_eq_left (by unfold max32; omega)
  let s1 := s.setOdo { s.odo with pending := s.odo.pending + 1 }
  have ht : t =
      match s.odo.commit with
      | .clear => if s1.odo.resolved = true ∧ s1.commitMetres ≤ s1.odo.pending then commitStart s1 else s1
      | .waiting => raiseWaiting s1
      | .writing => s1
      | .deferred => if s1.odo.retryPoint ≤ s1.odo.total then commitStart s1 else s1 := by
    simp only [t, odometerMetre, hpending]
    rfl
  have htotal : t.odo.total = s1.odo.total := by
    rw [show t.odo = _ from odo_odometerMetre h]
    rfl
  have hkm : s1.commitMetres = 1000 * s.settings.commitKm := Nat.mul_comm _ _
  refine ⟨fun hc hr hle => ?_, fun hc hno => ?_, fun hc hle => ?_, fun hc hlt => ?_, fun hc => ?_, fun j hc hj => ?_⟩ <;>
    rw [hc] at ht <;> dsimp only at ht
  · rw [ht, if_pos ⟨hr, by rw [hkm]; exact hle⟩]
    exact commitStart_commit s1
  · have hnot : ¬(s1.odo.resolved = true ∧ s1.commitMetres ≤ s1.odo.pending) := by
      rw [hkm]
      rintro ⟨hr, hle⟩
      rcases hno with hno | hno
      · exact Bool.noConfusion (hno.symm.trans hr)
      · exact absurd hle (not_le.mpr hno)
    rw [ht, if_neg hnot]
    exact ⟨hc, rfl⟩
  · have hle' : s1.odo.retryPoint ≤ s1.odo.total := htotal ▸ hle
    rw [ht, if_pos hle']
    exact commitStart_commit s1
  · have hlt' : s1.odo.total < s1.odo.retryPoint := htotal ▸ hlt
    rw [ht, if_neg (not_le.mpr hlt')]
    exact ⟨hc, rfl⟩
  · rw [ht]
    exact ⟨hc, rfl⟩
  · have hraise : raiseWaiting s1 = s1.setStc { s1.stc with waitOdometer := some { j with value := s1.odo.jobValue } } := by
      unfold raiseWaiting
      rw [show s1.stc.waitOdometer = some j from hj]
    rw [ht, hraise]
    exact ⟨hc, s1.odo.jobValue, s1.odo.jobHolds_jobValue, rfl⟩

theorem exec_speedPulse (us : Nat) (hawake : s.awake = true) :
    exec (.speedPulse us) s =
      done ((takePulse s).setInput { (takePulse s).input with gate := (takePulse s).input.gate.edge us }) :=
  if_pos hawake

theorem takePulse_metre (h : s.settings.ppk ≤ s.input.residue + 1000) :
    ∃ i : Input, takePulse s = metreEvent (s.setInput i) ∧ i.residue = s.input.residue + 1000 - s.settings.ppk :=
  ⟨_, if_pos h, rfl⟩

theorem takePulse_short (h : s.input.residue + 1000 < s.settings.ppk) :
    takePulse s = s.setInput { s.input with residue := s.input.residue + 1000 } :=
  if_neg (not_le.mpr h)

/-- Settles O29: a metre acts on the commit by the state that this is in. -/
theorem metreStartsCommit : Obligations.MetreStartsCommit := by
  unfold Obligations.MetreStartsCommit
  intro s us hawake hppk hpending
  have hexec := exec_speedPulse us hawake
  obtain ⟨i, hpulse, -⟩ := takePulse_metre hppk
  rw [hpulse] at hexec
  have hodo (u : State) (i : Input) : (refresh ((metreEvent u).setInput i)).odo = (odometerMetre u).odo := by
    simp [metreEvent]
  have hstc (u : State) (i : Input) : (refresh ((metreEvent u).setInput i)).stc = (odometerMetre u).stc := by
    simp [metreEvent]
  have hp : (s.setInput i).odo.pending < 4294967295 := hpending
  refine ⟨_, hexec, ?_, ?_⟩
  · rw [hodo, odo_odometerMetre hp]
    rfl
  · rw [hodo, hstc]
    exact odometerMetre_commit hp

/-! ## The trip computer's metre (R88, R96) -/

theorem trc_recomputeRange (s : State) :
    (recomputeRange s).trc = { s.trc with range := (recomputeRange s).trc.range } := by
  unfold recomputeRange
  dsimp only
  split <;> rfl

/-- A trigger works out the range from the level, or leaves it. -/
theorem rangeWorkedOut_recomputeRange (s : State) : RangeWorkedOut s.trc.range (recomputeRange s) := by
  unfold RangeWorkedOut
  dsimp only
  rw [show (recomputeRange s).signal .fuelLevel = s.signal .fuelLevel by simp [State.signal]]
  refine ⟨fun v hstate hvalue => ?_, fun hstate => ?_⟩
  · rw [recomputeRange_of_fresh hstate hvalue]
    rfl
  · unfold recomputeRange
    dsimp only
    split
    · exact absurd ‹_› hstate
    · rfl

/-- A metre of a trip that does not await its reset. -/
def longerTrip (m : Nat) (r : TripRecord) : TripRecord :=
  if r.awaiting then r else { r with distance := min (r.distance + m) 9999999 }

theorem longerTrip_zero {r : TripRecord} (h : TripOk r) : longerTrip 0 r = r := by
  unfold longerTrip
  rw [Nat.add_zero, Nat.min_eq_left h.1, ite_self]

theorem addMetre_longerTrip (m : Nat) (r : TripRecord) : (longerTrip m r).addMetre = longerTrip (m + 1) r := by
  unfold longerTrip TripRecord.addMetre satInc maxDistance
  cases hr : r.awaiting
  · simp only [Bool.false_eq_true, if_false, TripRecord.mk.injEq, and_true]
    omega
  · simp [hr]

/-- The last 16 of a list. -/
def lastSixteen (l : List Nat) : List Nat := l.drop (l.length - 16)

theorem length_lastSixteen (l : List Nat) : (lastSixteen l).length ≤ 16 := by
  rw [lastSixteen, List.length_drop]
  omega

theorem lastSixteen_of_le {l : List Nat} (h : l.length ≤ 16) : lastSixteen l = l := by
  rw [lastSixteen, Nat.sub_eq_zero_of_le h, List.drop_zero]

/-- A segment joins the last 16. -/
theorem lastSixteen_concat (l : List Nat) (a : Nat) :
    (if 16 < (lastSixteen l ++ [a]).length then (lastSixteen l ++ [a]).tail else lastSixteen l ++ [a]) =
      lastSixteen (l ++ [a]) := by
  by_cases h : l.length < 16
  · rw [lastSixteen_of_le h.le, lastSixteen_of_le (by simpa using h), if_neg (by simpa using h)]
  · have hlen : (lastSixteen l).length = 16 := by
      rw [lastSixteen, List.length_drop]
      omega
    rw [if_pos (by simp [hlen]), ← List.drop_one, lastSixteen, lastSixteen, ← List.drop_append_of_le_length (by omega),
      List.drop_drop, List.length_append, List.length_singleton]
    congr 1
    omega

/-- A metre that leaves the segment open. -/
theorem trc_tripMetre_open (h : s.trc.openMetres + 1 < 2000) :
    (tripMetre s).trc =
      { s.trc.mapTrips TripRecord.addMetre with
        binMetres := s.trc.binMetres + 1, openMetres := s.trc.openMetres + 1 } := by
  have hseg : ({ s.trc.mapTrips TripRecord.addMetre with binMetres := s.trc.binMetres + 1 } : TripComputer).addSegmentMetre =
      ({ s.trc.mapTrips TripRecord.addMetre with
        binMetres := s.trc.binMetres + 1, openMetres := s.trc.openMetres + 1 }, false) := if_neg (not_le.mpr h)
  unfold tripMetre
  dsimp only
  rw [show (s.trc.mapTrips TripRecord.addMetre).binMetres = s.trc.binMetres from rfl, hseg]
  rfl

/-- A metre that closes the segment: its fuel joins the window, and the range is worked out (R96, R98). -/
theorem trc_tripMetre_closed (h : 2000 ≤ s.trc.openMetres + 1) :
    (tripMetre s).trc =
        { s.trc.mapTrips TripRecord.addMetre with
          binMetres := s.trc.binMetres + 1, openMetres := 0, openFuel := 0
          window :=
            if 16 < (s.trc.window ++ [s.trc.openFuel]).length then (s.trc.window ++ [s.trc.openFuel]).tail
            else s.trc.window ++ [s.trc.openFuel]
          range := (tripMetre s).trc.range } ∧
      RangeWorkedOut s.trc.range (tripMetre s) := by
  have hseg : ({ s.trc.mapTrips TripRecord.addMetre with binMetres := s.trc.binMetres + 1 } : TripComputer).addSegmentMetre =
      ({ s.trc.mapTrips TripRecord.addMetre with
          binMetres := s.trc.binMetres + 1, openMetres := 0, openFuel := 0
          window :=
            if 16 < (s.trc.window ++ [s.trc.openFuel]).length then (s.trc.window ++ [s.trc.openFuel]).tail
            else s.trc.window ++ [s.trc.openFuel] }, true) := if_pos h
  have htrip : tripMetre s = recomputeRange (s.setTrc { s.trc.mapTrips TripRecord.addMetre with
          binMetres := s.trc.binMetres + 1, openMetres := 0, openFuel := 0
          window :=
            if 16 < (s.trc.window ++ [s.trc.openFuel]).length then (s.trc.window ++ [s.trc.openFuel]).tail
            else s.trc.window ++ [s.trc.openFuel] }) := by
    unfold tripMetre
    dsimp only
    rw [show (s.trc.mapTrips TripRecord.addMetre).binMetres = s.trc.binMetres from rfl, hseg]
    rfl
  rw [htrip]
  exact ⟨by rw [trc_recomputeRange]; rfl, rangeWorkedOut_recomputeRange _⟩

/-! ## Any number of metres -/

/-- The distance figures after some metres. -/
structure AfterMetres (s t : State) (m : Nat) : Prop where
  touches : Touches [.input, .trc, .odo, .stc, .msc] s t
  pending : t.odo.pending = s.odo.pending + m
  committed : t.odo.committed = s.odo.committed
  tripA : t.trc.tripA = longerTrip m s.trc.tripA
  tripB : t.trc.tripB = longerTrip m s.trc.tripB
  journey : t.trc.journey = longerTrip m s.trc.journey
  bin : t.trc.binMetres = s.trc.binMetres + m
  openMetres : t.trc.openMetres = (s.trc.openMetres + m) % 2000
  short : (s.trc.openMetres + m) / 2000 = 0 →
    t.trc.window = s.trc.window ∧ t.trc.openFuel = s.trc.openFuel ∧ t.trc.range = s.trc.range
  closed : 1 ≤ (s.trc.openMetres + m) / 2000 →
    t.trc.window =
        lastSixteen (s.trc.window ++ s.trc.openFuel :: List.replicate ((s.trc.openMetres + m) / 2000 - 1) 0) ∧
      t.trc.openFuel = 0 ∧ RangeWorkedOut s.trc.range t

theorem AfterMetres.zero (hopen : s.trc.openMetres < 2000) (ha : TripOk s.trc.tripA) (hb : TripOk s.trc.tripB)
    (hj : TripOk s.trc.journey) : AfterMetres s s 0 where
  touches := Touches.refl _ s
  pending := rfl
  committed := rfl
  tripA := (longerTrip_zero ha).symm
  tripB := (longerTrip_zero hb).symm
  journey := (longerTrip_zero hj).symm
  bin := rfl
  openMetres := (Nat.mod_eq_of_lt hopen).symm
  short _ := ⟨rfl, rfl, rfl⟩
  closed h := by
    rw [Nat.add_zero, Nat.div_eq_of_lt hopen] at h
    exact absurd h (by decide)

/-- What neither the odometer nor the trip computer is told changes no figure. -/
theorem AfterMetres.same {t' : State} (h : AfterMetres s t m) (ht : Touches [.input, .msc] t t') : AfterMetres s t' m := by
  have htrc : t'.trc = t.trc := ht .trc (by decide)
  have hodo : t'.odo = t.odo := ht .odo (by decide)
  have hsignals : t'.signals = t.signals := ht .signals (by decide)
  have hsettings : t'.settings = t.settings := ht .settings (by decide)
  exact
    { touches := h.touches.trans (ht.mono (by simp))
      pending := by rw [hodo, h.pending]
      committed := by rw [hodo, h.committed]
      tripA := by rw [htrc, h.tripA]
      tripB := by rw [htrc, h.tripB]
      journey := by rw [htrc, h.journey]
      bin := by rw [htrc, h.bin]
      openMetres := by rw [htrc, h.openMetres]
      short := by rw [htrc]; exact h.short
      closed := by
        unfold RangeWorkedOut State.signal
        rw [htrc, hsignals, hsettings]
        exact h.closed }

/-- One metre more. -/
theorem AfterMetres.metre (h : AfterMetres s t m) (hpending : s.odo.pending + m < 4294967295)
    (hwindow : s.trc.window.length ≤ 16) : AfterMetres s (metreEvent t) (m + 1) := by
  have hodo : (metreEvent t).odo = (odometerMetre t).odo := (tripMetre_frame _).2.2.2.2.2.1
  have hodo' := odo_odometerMetre (s := t) (by rw [h.pending]; exact hpending)
  have htrc : (odometerMetre t).trc = t.trc := by simp
  have htouches : Touches [.input, .trc, .odo, .stc, .msc] s (metreEvent t) := by
    refine h.touches.trans fun b hb => ?_
    cases b
    case input | trc | odo | stc | msc => simp at hb
    all_goals simp [Agree, metreEvent]
  have hfresh : (t.signal .fuelLevel) = s.signal .fuelLevel := by
    have hsignals : t.signals = s.signals := h.touches .signals (by decide)
    rw [State.signal, hsignals]
    rfl
  by_cases hclose : (s.trc.openMetres + m) % 2000 = 1999
  · obtain ⟨heq, hrange⟩ := trc_tripMetre_closed (s := odometerMetre t) (by rw [htrc, h.openMetres]; omega)
    rw [htrc] at heq hrange
    have hwin : (if 16 < (t.trc.window ++ [t.trc.openFuel]).length then (t.trc.window ++ [t.trc.openFuel]).tail
          else t.trc.window ++ [t.trc.openFuel]) =
        lastSixteen (s.trc.window ++ s.trc.openFuel :: List.replicate ((s.trc.openMetres + (m + 1)) / 2000 - 1) 0) := by
      rcases Nat.eq_zero_or_pos ((s.trc.openMetres + m) / 2000) with hk | hk
      · obtain ⟨hw, hf, -⟩ := h.short hk
        have hone : (s.trc.openMetres + (m + 1)) / 2000 - 1 = 0 := by omega
        rw [hw, hf, hone, ← lastSixteen_of_le hwindow, lastSixteen_concat, lastSixteen_of_le hwindow]
        rfl
      · obtain ⟨hw, hf, -⟩ := h.closed hk
        have hnext : (s.trc.openMetres + (m + 1)) / 2000 - 1 = (s.trc.openMetres + m) / 2000 - 1 + 1 := by omega
        rw [hw, hf, hnext, lastSixteen_concat, List.replicate_succ', List.append_assoc, List.cons_append]
    have hheld : RangeWorkedOut s.trc.range (tripMetre (odometerMetre t)) := by
      refine ⟨hrange.1, fun hst => (hrange.2 hst).trans ?_⟩
      have hst' : (t.signal .fuelLevel).state ≠ .fresh := by simpa [State.signal] using hst
      rcases Nat.eq_zero_or_pos ((s.trc.openMetres + m) / 2000) with hk | hk
      · exact (h.short hk).2.2
      · exact (h.closed hk).2.2.2 hst'
    exact
      { touches := htouches
        pending := by rw [hodo, hodo', h.pending]; rfl
        committed := by rw [hodo, hodo', h.committed]
        tripA := by rw [metreEvent, heq, ← addMetre_longerTrip, ← h.tripA]; rfl
        tripB := by rw [metreEvent, heq, ← addMetre_longerTrip, ← h.tripB]; rfl
        journey := by rw [metreEvent, heq, ← addMetre_longerTrip, ← h.journey]; rfl
        bin := by rw [metreEvent, heq, h.bin]; rfl
        openMetres := by
          rw [metreEvent, heq]
          show 0 = _
          omega
        short := fun hk => by omega
        closed := fun _ => by
          refine ⟨?_, by rw [metreEvent, heq], hheld⟩
          rw [metreEvent, heq, ← hwin] }
  · have heq := trc_tripMetre_open (s := odometerMetre t) (by rw [htrc, h.openMetres]; omega)
    rw [htrc] at heq
    have hdiv : (s.trc.openMetres + (m + 1)) / 2000 = (s.trc.openMetres + m) / 2000 := by omega
    exact
      { touches := htouches
        pending := by rw [hodo, hodo', h.pending]; rfl
        committed := by rw [hodo, hodo', h.committed]
        tripA := by rw [metreEvent, heq, ← addMetre_longerTrip, ← h.tripA]; rfl
        tripB := by rw [metreEvent, heq, ← addMetre_longerTrip, ← h.tripB]; rfl
        journey := by rw [metreEvent, heq, ← addMetre_longerTrip, ← h.journey]; rfl
        bin := by rw [metreEvent, heq, h.bin]; rfl
        openMetres := by
          rw [metreEvent, heq]
          show t.trc.openMetres + 1 = _
          rw [h.openMetres]
          omega
        short := by
          rw [hdiv, metreEvent, heq]
          exact h.short
        closed := by
          rw [hdiv]
          intro hk
          obtain ⟨hw, hf, hr⟩ := h.closed hk
          unfold RangeWorkedOut
          rw [metreEvent, heq, show (tripMetre (odometerMetre t)).signal .fuelLevel = t.signal .fuelLevel by simp [State.signal],
            show (tripMetre (odometerMetre t)).settings = t.settings by simp]
          exact ⟨hw, hf, hr⟩ }

/-! ## Any number of pulses (R47) -/

theorem runAll_append (cs ds : List Instr) {u : State} (h : runAll cs s = .next u) :
    runAll (cs ++ ds) s = runAll ds u := by
  induction cs generalizing s with
  | nil =>
    obtain rfl := Host.Outcome.next.inj h
    rfl
  | cons c cs ih =>
    unfold runAll at h
    rw [List.cons_append, runAll]
    cases hc : exec c s with
    | next t =>
      rw [hc] at h
      exact ih h
    | fault f => rw [hc] at h; cases h
    | refused r => rw [hc] at h; cases h

/-- The residue and the metres of one pulse more (R47). -/
theorem pulse_div_mod {p n : Nat} (hp : 1000 ≤ p) :
    (p ≤ n % p + 1000 → (n + 1000) / p = n / p + 1 ∧ (n + 1000) % p = n % p + 1000 - p) ∧
      (n % p + 1000 < p → (n + 1000) / p = n / p ∧ (n + 1000) % p = n % p + 1000) := by
  have hpos : 0 < p := by omega
  have hlt : n % p < p := Nat.mod_lt n hpos
  have hn : n % p + p * (n / p) = n := Nat.mod_add_div n p
  refine ⟨fun h => (Nat.div_mod_unique hpos).mpr ⟨?_, by omega⟩, fun h => (Nat.div_mod_unique hpos).mpr ⟨?_, h⟩⟩
  · rw [Nat.mul_add, Nat.mul_one]
    omega
  · omega

theorem runAll_speedPulse (us : List Nat) (hawake : s.awake = true) (hppk : 1000 ≤ s.settings.ppk)
    (hresidue : s.input.residue < s.settings.ppk) (hzero : AfterMetres s s 0) (hwindow : s.trc.window.length ≤ 16)
    (hpending : s.odo.pending + (s.input.residue + 1000 * us.length) / s.settings.ppk ≤ 4294967295) :
    ∃ t, runAll (us.map Instr.speedPulse) s = .next t ∧
      t.input.residue = (s.input.residue + 1000 * us.length) % s.settings.ppk ∧
      AfterMetres s t ((s.input.residue + 1000 * us.length) / s.settings.ppk) := by
  induction us using List.reverseRecOn with
  | nil => exact ⟨s, rfl, (Nat.mod_eq_of_lt hresidue).symm, by rwa [List.length_nil, Nat.mul_zero, Nat.add_zero, Nat.div_eq_of_lt hresidue]⟩
  | append_singleton us u ih =>
    have hlen : s.input.residue + 1000 * (us ++ [u]).length = s.input.residue + 1000 * us.length + 1000 := by
      rw [List.length_append, List.length_singleton]
      omega
    rw [hlen] at hpending ⊢
    obtain ⟨hnext, hsame⟩ := pulse_div_mod (n := s.input.residue + 1000 * us.length) hppk
    have hle := Nat.div_le_div_right (c := s.settings.ppk)
      (Nat.le_add_right (s.input.residue + 1000 * us.length) 1000)
    obtain ⟨t, hrun, hres, h⟩ := ih (by omega)
    have hpower : t.power = s.power := h.touches .power (by decide)
    have hsettings : t.settings = s.settings := h.touches .settings (by decide)
    have hawake' : t.awake = true := by rwa [State.awake, hpower]
    have hexec := exec_speedPulse u hawake'
    rw [List.map_append, List.map_singleton, runAll_append _ _ hrun]
    have hone (x : State) (hx : exec (.speedPulse u) t = .next x) : runAll [Instr.speedPulse u] t = .next x := by
      rw [runAll, hx]
      rfl
    have hset (x : State) (i : Input) : Touches [.input, .msc] x (refresh (x.setInput i)) := by
      intro b hb
      cases b
      case input | msc => simp at hb
      all_goals simp [Agree]
    refine ⟨_, hone _ hexec, ?_⟩
    by_cases hmetre : s.settings.ppk ≤ (s.input.residue + 1000 * us.length) % s.settings.ppk + 1000
    · obtain ⟨i, hpulse, hi⟩ := takePulse_metre (s := t) (by rwa [hsettings, hres])
      obtain ⟨hdiv, hmod⟩ := hnext hmetre
      rw [hpulse]
      constructor
      · rw [hmod, ← hres, ← hsettings, ← hi]
        simp [metreEvent]
      · rw [hdiv]
        have hi' : Touches [.input, .msc] t (t.setInput i) := fun b hb => by cases b <;> simp_all [Agree]
        exact ((h.same hi').metre (by omega) hwindow).same (hset _ _)
    · obtain ⟨hdiv, hmod⟩ := hsame (not_le.mp hmetre)
      rw [takePulse_short (by rw [hsettings, hres]; exact not_le.mp hmetre), hdiv, hmod, ← hres]
      exact ⟨by simp, h.same (hset t _)⟩

/-- Settles O28: the residue counts the pulses modulo PPK, and each time it passes PPK there is a metre more. -/
theorem pulsesCountDistance : Obligations.PulsesCountDistance := by
  unfold Obligations.PulsesCountDistance
  intro s us hawake hppk hresidue hopen hwindow metres longer hpending ha hb hj
  obtain ⟨t, hrun, hres, h⟩ := runAll_speedPulse us hawake hppk hresidue (AfterMetres.zero hopen ha hb hj) hwindow hpending
  exact ⟨t, hrun, h.touches, hres, h.pending, h.committed, h.tripA, h.tripB, h.journey, h.bin, h.openMetres, h.short,
    h.closed⟩

end Sys2Proof.Machine
end

section
/-! CLAIM. The buttons of the Message Centre (R86, R168 to R172): an event is taken with its notice, acts by what is on show, and
is otherwise discarded. -/

namespace Sys2Proof.Machine

open Sys2Proof

variable {s : State} {rest : List ButtonEvent} {e : ButtonEvent} {c : Instr} {m : MessageCentre}

/-! ## An event is taken (R62, R171, R172) -/

/-- The state with the oldest event taken, its notice with it, and a Message Centre. -/
def taken (rest : List ButtonEvent) (m : MessageCentre) (s : State) : State :=
  (s.setInput { s.noticed.input with events := rest }).setMsc m

theorem noticed_setEvents (rest : List ButtonEvent) (s : State) :
    (s.setInput { s.input with events := rest }).noticed = taken rest s.noticed.msc s := rfl

theorem downSet_eq_downAfter (e : ButtonEvent) (d : List Button) : e.downSet d = downAfter e d := by
  have hfilter (b : Button) : d.filter (· != b) = d.filter (fun x => x ≠ b) :=
    List.filter_congr fun x _ => by by_cases h : x = b <;> simp [h]
  cases e with
  | press b => simp [ButtonEvent.downSet, downAfter, downWith]
  | release b => exact hfilter b
  | releaseAfterHold b => exact hfilter b
  | hold b => rfl
  | long => rfl

/-- The Message Centre with the down-set behind an event. -/
def downed (e : ButtonEvent) (s : State) : MessageCentre :=
  { s.noticed.msc with downSet := downAfter e s.noticed.msc.downSet }

theorem takeEvent_awake (h : s.awake = true) : takeEvent e rest s = taken rest (downed e s) s := by
  unfold takeEvent
  dsimp only
  rw [overrunNotice_eq, noticed_setEvents, downSet_eq_downAfter]
  exact if_pos h

theorem takeEvent_starting (h : s.power.state = .starting) : takeEvent e rest s = taken rest s.noticed.msc s := by
  unfold takeEvent
  dsimp only
  rw [overrunNotice_eq, noticed_setEvents]
  exact if_neg (by simp [taken, State.awake, h])

theorem markEvent_taken (h : s.awake = true) :
    markEvent e (taken rest m s) = taken rest (if e.clearsMark then { m with mark := false } else m) s := by
  unfold markEvent
  have hawake : (taken rest m s).awake = true := h
  by_cases hc : e.clearsMark = true
  · rw [if_pos ⟨hawake, hc⟩, if_pos hc]
    rfl
  · rw [if_neg (fun hx => hc hx.2), if_neg hc]

theorem touches_taken (rest : List ButtonEvent) (m : MessageCentre) (s : State) :
    Touches [.input, .msc] s (taken rest m s) := by
  intro b hb
  cases b
  case input | msc => simp at hb
  all_goals rfl

/-- An event that comes to a new Message Centre alone is taken. -/
theorem eventTaken_of_taken (hpowered : s.powered = true) (hexec : exec c s = .next (refresh (taken rest m s))) :
    EventTaken c s rest m :=
  ⟨_, hexec, (touches_taken rest m s).refresh (by simp), by simp [taken], refresh_redrawn (s := taken rest m s) hpowered⟩

theorem onButton_of_front {act : State → State} (he : s.input.events = e :: rest) (hpowered : s.powered = true) :
    onButton e act s = refresh (markEvent e (act (takeEvent e rest s))) := by
  unfold onButton
  rw [he]
  exact if_pos ⟨rfl, hpowered⟩

theorem powered_of_awake (h : s.awake = true) : s.powered = true := by
  simp [State.powered, h]

/-- A command's event, whose action comes to a new Message Centre alone. -/
theorem eventTaken_of_act {act : State → State} (hexec : exec c s = .next (onButton e act s))
    (he : s.input.events = e :: rest) (hawake : s.awake = true)
    (hact : act (taken rest (downed e s) s) = taken rest m s) :
    EventTaken c s rest (if e.clearsMark then { m with mark := false } else m) := by
  have hpowered := powered_of_awake hawake
  refine eventTaken_of_taken hpowered ?_
  rw [hexec, onButton_of_front he hpowered, takeEvent_awake hawake, hact, markEvent_taken hawake]

/-- What is on show follows the Message Centre's texts and modes. -/
theorem shown_taken (hpeer : m.peerText = s.noticed.msc.peerText) (hreview : m.review = s.noticed.msc.review)
    (hclock : m.clockSet = s.noticed.msc.clockSet) : (taken rest m s).shown = s.noticed.shown := by
  unfold State.shown
  rw [show (taken rest m s).msc = m from rfl, hpeer, hreview, hclock]
  rfl

theorem shown_downed : (taken rest (downed e s) s).shown = s.noticed.shown := shown_taken rfl rfl rfl

theorem awake_of_run (h : s.power.state = .run) : s.awake = true := by simp [State.awake, h]

theorem inRun_run (k : State → State) (h : s.power.state = .run) : inRun k s = k s := if_pos h

/-- A command's event in RUN, whose action comes to a new Message Centre alone. -/
theorem eventTaken_inRun {k : State → State} (hexec : exec c s = .next (onButton e (inRun k) s))
    (he : s.input.events = e :: rest) (hrun : s.power.state = .run)
    (hact : k (taken rest (downed e s) s) = taken rest m s) :
    EventTaken c s rest (if e.clearsMark then { m with mark := false } else m) :=
  eventTaken_of_act hexec he (awake_of_run hrun) ((if_pos hrun).trans hact)

/-! ## The item display (R171) -/

/-- Without the item display, or without the mark, a release or hold of SET does nothing of its own. -/
theorem setReleaseAction_of_not (h : s.shown ≠ .item ∨ s.msc.mark = false) : setReleaseAction s = s := by
  unfold setReleaseAction
  cases hs : s.shown with
  | item => exact if_neg (by simpa [hs] using h)
  | warning | peer | review | clockSet => rfl

theorem setHoldAction_of_not (h : s.shown ≠ .item ∨ s.msc.mark = false) : setHoldAction s = s := by
  unfold setHoldAction
  cases hs : s.shown with
  | item => exact if_neg (by simpa [hs] using h)
  | warning | peer | review | clockSet => rfl

/-- Settles O36: each button acts by what is on show. -/
theorem itemDisplayButtons : Obligations.ItemDisplayButtons := by
  unfold Obligations.ItemDisplayButtons
  intro s rest hrun u down next unmarked released
  refine ⟨fun he => ⟨fun hs => ?_, fun hs => ?_⟩, fun he => ⟨fun hs => ?_, fun hs => ?_⟩, fun he hs => ?_,
    fun he => ⟨fun hs hm => ?_, fun hs => ?_⟩, fun he => ⟨fun hs hm => ?_, fun hs => ?_⟩⟩
  · refine eventTaken_inRun rfl he hrun (m := { down .mode with item := next u.msc.item }) ?_
    rw [modeAction, shown_downed, hs]
    rfl
  · refine eventTaken_inRun rfl he hrun (m := down .mode) ?_
    rw [modeAction, shown_downed]
    rcases hs with ⟨w, hs⟩ | ⟨x, hs⟩ <;> (rw [hs]; rfl)
  · refine eventTaken_inRun rfl he hrun (m := { down .set with mark := true }) ?_
    rw [setAction, shown_downed, hs]
    rfl
  · refine eventTaken_inRun rfl he hrun (m := down .set) ?_
    rw [setAction, shown_downed]
    rcases hs with ⟨w, hs⟩ | ⟨x, hs⟩ <;> (rw [hs]; rfl)
  · refine eventTaken_inRun rfl he hrun (m := down .reset) ?_
    rw [resetAction, shown_downed]
    rcases hs with hs | ⟨w, hs⟩ | ⟨x, hs⟩ <;> (rw [hs]; rfl)
  · refine eventTaken_inRun rfl he hrun (m := { released with mark := u.msc.mark, trip := u.msc.trip.next }) ?_
    rw [setReleaseAction, shown_downed, hs]
    exact if_pos hm
  · refine eventTaken_inRun rfl he hrun (m := { released with mark := u.msc.mark }) ?_
    exact setReleaseAction_of_not (by rw [shown_downed]; exact hs)
  · refine eventTaken_inRun rfl he hrun (m := { unmarked with mark := u.msc.mark, clockSet := some (s.clock.hour, s.clock.minute) }) ?_
    rw [setHoldAction, shown_downed, hs]
    exact if_pos hm
  · refine eventTaken_inRun rfl he hrun (m := { unmarked with mark := u.msc.mark }) ?_
    exact setHoldAction_of_not (by rw [shown_downed]; exact hs)

/-! ## RESET HOLD (R85, R86) -/

theorem isTrip_iff {i : Item} : i.isTrip = true ↔ i ∉ [Item.range, .instant, .clock] := by
  cases i <;> simp [Item.isTrip]

/-- The reset of a trip: its record begins afresh, and one of JOURNEY hands the drive its distance (R85, R152). -/
theorem resetTrip_eq (k : Trip) (s : State) :
    resetTrip k s =
      (s.setTrc (s.trc.setTrip k (TripRecord.fresh (fit32 s.odo.total) s.clock.stamp))).setSru
        (if k = .journey then { s.sru with drive := s.sru.drive.map (fun d => d.carry s.trc.journey.distance) }
         else s.sru) := by
  unfold resetTrip
  dsimp only
  split_ifs <;> rfl

/-- Settles O38: with a trip item on show and CHECK up the selected trip is reset. -/
theorem resetHoldResetsTrip : Obligations.ResetHoldResetsTrip := by
  unfold Obligations.ResetHoldResetsTrip
  intro s rest hrun he u
  have hpowered := powered_of_awake (awake_of_run hrun)
  have hshown : (taken rest (downed (.hold .reset) s) s).shown = u.shown := shown_downed
  have hcond (hs : u.shown = .item) : (u.msc.item.isTrip = true ∧ (!u.msc.downSet.contains .check) = true) ↔ TripResetOnShow u := by
    rw [isTrip_iff]
    simp [TripResetOnShow, hs]
  refine ⟨fun h => ?_, fun h => ?_⟩
  · have hact : resetHoldAction (taken rest (downed (.hold .reset) s) s) =
        resetTrip u.msc.trip (taken rest u.msc s) := by
      rw [resetHoldAction, hshown, h.1]
      exact if_pos ((hcond h.1).mpr h)
    have hexec : exec .resetHold s = .next (refresh (resetTrip u.msc.trip (taken rest u.msc s))) := by
      have hfront : exec .resetHold s = .next (onButton (.hold .reset) (inRun resetHoldAction) s) := rfl
      have hmark (x : State) : markEvent (.hold .reset) x = x := if_neg (by simp [ButtonEvent.clearsMark])
      rw [hfront, onButton_of_front he hpowered, takeEvent_awake (awake_of_run hrun),
        inRun_run _ (s := taken rest (downed (.hold .reset) s) s) hrun, hact, hmark]
    rw [resetTrip_eq] at hexec
    have htrip : u.msc.trip = s.msc.trip := by
      simp only [u, State.noticed]
      split_ifs <;> rfl
    rw [htrip] at hexec
    refine ⟨_, hexec, fun b hb => ?_, by simp [taken, u], refresh_redrawn (s := _) hpowered, fit32 s.odo.total,
      held32_fit32 _, fun hk => ?_, fun hk => ?_, fun hk => ?_⟩
    · cases b
      case input | trc | sru | msc => simp at hb
      all_goals simp [Agree, taken]
    all_goals
      rw [hk]
      simp [taken, TripComputer.setTrip, TripRecord.fresh, Drive.carry, maxDistance]
  · refine eventTaken_inRun rfl he hrun (m := u.msc) ?_
    unfold resetHoldAction
    rw [hshown]
    cases hs : u.shown with
    | item => exact if_neg fun hc => h ((hcond hs).mp hc)
    | warning | peer | review | clockSet => rfl

/-! ## Events without an action (R171, R172) -/

theorem clearsMark_iff : e.clearsMark = true ↔ e = .release .set ∨ e = .hold .set ∨ e = .releaseAfterHold .set := by
  cases e with
  | press b | hold b | release b | releaseAfterHold b => cases b <;> simp [ButtonEvent.clearsMark]
  | long => simp [ButtonEvent.clearsMark]

/-- An event that has no action does not act. -/
theorem acts_of_noAction {x : State} (hstate : x.power.state = s.noticed.power.state) (hshown : x.shown = s.noticed.shown)
    (hmark : x.msc.mark = s.noticed.msc.mark) (hitem : x.msc.item = s.noticed.msc.item)
    (hdown : ∀ b, e = .hold b → x.msc.downSet = s.noticed.msc.downSet) (h : NoAction e s.noticed) : e.acts x = false := by
  unfold ButtonEvent.acts
  rw [hstate, hshown]
  rcases h with h | ⟨h, hpress, hlong⟩ | ⟨h, hno⟩
  · simp [h]
  · rw [h]
    cases e with
    | press b => cases b <;> simp_all
    | hold b | release b | releaseAfterHold b => rfl
    | long => exact absurd rfl hlong
  · rw [h, if_pos rfl]
    rcases hno with rfl | ⟨b, ⟨rfl, hb⟩ | rfl⟩ | ⟨hin, ⟨w, hs⟩ | ⟨w, hs⟩⟩ | ⟨rfl, hs⟩ | ⟨hin, hn⟩ | ⟨rfl, hn⟩ | ⟨rfl, hn⟩
    · cases s.noticed.shown <;> rfl
    · cases b
      case set => exact absurd rfl hb
      all_goals cases s.noticed.shown <;> rfl
    · cases b <;> cases s.noticed.shown <;> rfl
    · rw [hs]
      rcases List.mem_cons.mp hin with rfl | hin
      · rfl
      · rcases List.mem_pair.mp hin with rfl | rfl <;> rfl
    · rw [hs]
      rcases List.mem_cons.mp hin with rfl | hin
      · rfl
      · rcases List.mem_pair.mp hin with rfl | rfl <;> rfl
    · rw [hs]
    · rcases List.mem_pair.mp hin with rfl | rfl <;> cases hs : s.noticed.shown <;> simp_all
    · cases hs : s.noticed.shown with
      | item =>
        dsimp only
        rw [hitem, hdown .reset rfl, ← Bool.not_eq_true, Bool.and_eq_true, isTrip_iff]
        exact fun hc => hn ⟨hs, hc.1, by simpa using hc.2⟩
      | warning | peer | review | clockSet => rfl
    · cases hs : s.noticed.shown with
      | clockSet => rfl
      | item | warning | peer | review =>
        rw [hs] at hn
        have hr : Button.reset ∈ s.noticed.msc.downSet := by simpa using hn
        simp [hdown .check rfl, hr]

/-- In RUN an action that depends on what is on show does nothing where its event does not act. -/
theorem inRun_of_not_acts {k : State → State} (h : ∀ x : State, x.power.state = .run → e.acts x = false → k x = x)
    (x : State) (hx : e.acts x = false) : inRun k x = x := by
  unfold inRun
  split_ifs with hrun
  · exact h x hrun hx
  · rfl

theorem modeAction_of_not_acts (x : State) (hrun : x.power.state = .run) (h : (ButtonEvent.press .mode).acts x = false) :
    modeAction x = x := by
  unfold modeAction
  cases hs : x.shown with
  | warning | peer => rfl
  | review | clockSet | item =>
    unfold ButtonEvent.acts at h
    rw [if_pos hrun, hs] at h
    cases h

theorem setAction_of_not_acts (x : State) (hrun : x.power.state = .run) (h : (ButtonEvent.press .set).acts x = false) :
    setAction x = x := by
  unfold setAction
  cases hs : x.shown with
  | warning | peer => rfl
  | review | clockSet | item =>
    unfold ButtonEvent.acts at h
    rw [if_pos hrun, hs] at h
    cases h

theorem resetAction_of_not_acts (x : State) (hrun : x.power.state = .run) (h : (ButtonEvent.press .reset).acts x = false) :
    resetAction x = x := by
  unfold resetAction
  cases hs : x.shown with
  | warning | peer | item => rfl
  | review | clockSet =>
    unfold ButtonEvent.acts at h
    rw [if_pos hrun, hs] at h
    cases h

theorem setReleaseAction_of_not_acts (x : State) (hrun : x.power.state = .run)
    (h : (ButtonEvent.release .set).acts x = false) : setReleaseAction x = x := by
  refine setReleaseAction_of_not ?_
  by_cases hs : x.shown = .item
  · unfold ButtonEvent.acts at h
    rw [if_pos hrun, hs] at h
    exact .inr h
  · exact .inl hs

theorem setHoldAction_of_not_acts (x : State) (hrun : x.power.state = .run) (h : (ButtonEvent.hold .set).acts x = false) :
    setHoldAction x = x := by
  refine setHoldAction_of_not ?_
  by_cases hs : x.shown = .item
  · unfold ButtonEvent.acts at h
    rw [if_pos hrun, hs] at h
    exact .inr h
  · exact .inl hs

theorem resetHoldAction_of_not_acts (x : State) (hrun : x.power.state = .run)
    (h : (ButtonEvent.hold .reset).acts x = false) : resetHoldAction x = x := by
  unfold resetHoldAction
  cases hs : x.shown with
  | item =>
    refine if_neg fun hc => ?_
    unfold ButtonEvent.acts at h
    rw [if_pos hrun, hs, ← Bool.not_eq_true, Bool.and_eq_true] at h
    exact h hc
  | warning | peer | review | clockSet => rfl

theorem checkHoldAction_of_not_acts (x : State) (hrun : x.power.state = .run)
    (h : (ButtonEvent.hold .check).acts x = false) : checkHoldAction x = x := by
  unfold checkHoldAction
  cases hs : x.shown with
  | clockSet => rfl
  | item | warning | peer | review =>
    unfold ButtonEvent.acts at h
    rw [if_pos hrun, hs] at h
    exact if_pos (by simpa using h)

/-- CHECK PRESS and LONG act in RUN and COURTESY (R127, R185). -/
theorem not_awake_of_not_acts (he : e = .press .check ∨ e = .long) (x : State) (h : e.acts x = false) : x.awake = false := by
  rw [← Bool.not_eq_true]
  intro ha
  have hstate : x.power.state = .run ∨ x.power.state = .courtesy := by simpa [State.awake] using ha
  unfold ButtonEvent.acts at h
  rcases hstate with hst | hst <;> rcases he with rfl | rfl <;> rw [hst] at h <;> cases h

/-- A command does nothing at an event of its name that does not act. -/
theorem exists_act_of_ownCommand (hc : ownCommand e = some c) (s : State) :
    ∃ act : State → State, exec c s = .next (onButton e act s) ∧ ∀ x, e.acts x = false → act x = x := by
  have hawake (k : State → State) (he : e = .press .check ∨ e = .long) (x : State) (h : e.acts x = false) :
      (if x.awake then k x else x) = x := if_neg (by simp [not_awake_of_not_acts he x h])
  cases e with
  | press b =>
    cases b <;> obtain rfl := Option.some.inj hc
    · exact ⟨_, rfl, inRun_of_not_acts modeAction_of_not_acts⟩
    · exact ⟨_, rfl, inRun_of_not_acts setAction_of_not_acts⟩
    · exact ⟨_, rfl, inRun_of_not_acts resetAction_of_not_acts⟩
    · exact ⟨_, rfl, hawake _ (.inl rfl)⟩
  | hold b =>
    cases b
    case mode => cases hc
    all_goals obtain rfl := Option.some.inj hc
    · exact ⟨_, rfl, inRun_of_not_acts setHoldAction_of_not_acts⟩
    · exact ⟨_, rfl, inRun_of_not_acts resetHoldAction_of_not_acts⟩
    · exact ⟨_, rfl, inRun_of_not_acts checkHoldAction_of_not_acts⟩
  | release b =>
    cases b
    case set =>
      obtain rfl := Option.some.inj hc
      exact ⟨_, rfl, inRun_of_not_acts setReleaseAction_of_not_acts⟩
    all_goals cases hc
  | releaseAfterHold b => cases hc
  | long =>
    obtain rfl := Option.some.inj hc
    exact ⟨_, rfl, hawake _ (.inr rfl)⟩

/-- The state in which an event that does not act is discarded (R171, R172). -/
theorem exec_discards (hc : c = .ignoredButtonEvent ∨ ownCommand e = some c) (he : s.input.events = e :: rest)
    (hpowered : s.powered = true) (hacts : e.acts (takeEvent e rest s) = false) :
    exec c s = .next (refresh (markEvent e (takeEvent e rest s))) := by
  rcases hc with rfl | hc
  · have hexec : exec .ignoredButtonEvent s = execIgnoredButtonEvent s := rfl
    rw [hexec, execIgnoredButtonEvent, he]
    exact if_pos ⟨hpowered, by rw [hacts]; rfl⟩
  · obtain ⟨act, hexec, hact⟩ := exists_act_of_ownCommand hc s
    rw [hexec, onButton_of_front he hpowered, hact _ hacts]

/-- With no warning unacknowledged there is none to acknowledge (R127). -/
theorem acknowledgeHead_of_none (h : ∀ n ∈ s.wnu.list, (s.wnu.record n).unacknowledged = false) :
    acknowledgeHead s = s := by
  have hnone : s.wnu.headUnacknowledged = none := List.find?_eq_none.mpr fun n hn => by simp [h n hn]
  rw [acknowledgeHead, hnone]

/-- Settles O42: an event without an action is taken with its notice, and nothing else is done. -/
theorem eventsWithoutActionAreDiscarded : Obligations.EventsWithoutActionAreDiscarded := by
  unfold Obligations.EventsWithoutActionAreDiscarded
  intro s e rest he u clears
  refine ⟨fun hno c hc => ?_, fun hpress hawake hnone => ?_, fun h => ?_, fun h => ?_⟩
  · by_cases hst : s.power.state = .starting
    · have hpowered : s.powered = true := by simp [State.powered, hst]
      have htake := takeEvent_starting (e := e) (rest := rest) hst
      have hacts : e.acts (takeEvent e rest s) = false := by
        rw [htake]
        exact acts_of_noAction rfl (shown_taken rfl rfl rfl) rfl rfl (fun _ _ => rfl) hno
      rw [if_pos hst]
      refine eventTaken_of_taken hpowered ?_
      rw [exec_discards hc he hpowered hacts, htake]
      exact congrArg (fun x => (.next (refresh x) : Answer)) (if_neg (by simp [taken, State.awake, hst]))
    · have hawake : s.awake = true := by
        rcases hno with h | ⟨h, -⟩ | ⟨h, -⟩
        · exact absurd h hst
        · have hs : s.power.state = .courtesy := h
          simp [State.awake, hs]
        · exact awake_of_run h
      have hpowered := powered_of_awake hawake
      have htake := takeEvent_awake (e := e) (rest := rest) hawake
      have hacts : e.acts (takeEvent e rest s) = false := by
        rw [htake]
        refine acts_of_noAction rfl shown_downed rfl rfl (fun b hb => ?_) hno
        rw [hb]
        rfl
      rw [if_neg hst]
      refine eventTaken_of_taken hpowered ?_
      rw [exec_discards hc he hpowered hacts, htake, markEvent_taken hawake]
      by_cases hclears : e.clearsMark = true
      · rw [if_pos hclears, if_pos (clearsMark_iff.mp hclears)]
        rfl
      · rw [if_neg hclears, if_neg (fun h => hclears (clearsMark_iff.mpr h))]
        rfl
  · subst hpress
    refine eventTaken_of_act rfl he hawake (m := { u.msc with downSet := downWith .check u.msc.downSet }) ?_
    exact (if_pos hawake).trans (acknowledgeHead_of_none hnone)
  · simp [u, State.noticed, h]
  · simp [u, State.noticed, h]

end Sys2Proof.Machine
end

section
/-! CLAIM. The workshop requests (chapter 12): the checks and their refusals. -/

namespace Sys2Proof.Machine

open Sys2Proof

variable {s x : State} {f : Frame} {rest : List Frame} {id : Byte} {c : Instr}

/-! ## Responses (R45) -/

/-- A response waits, where the queue has room for it. -/
theorem queued_respond (hroom : HasRoom s f) (hqueue : x.link.txQueue = s.link.txQueue)
    (hsettings : x.settings = s.settings) (data : List Byte) :
    Queued (respond f.id f.source data x) (responseTo s f data) := by
  have hframe : x.ownFrame 3 .response (some f.source) f.id data = responseTo s f data := by
    simp [State.ownFrame, responseTo, hsettings]
  rw [respond, hframe]
  refine queued_offer_of_slots ((slots_le_succ _ _).trans ?_) fun e he hkey => ?_
  · have := hroom.1
    rw [hqueue]
    omega
  · rw [hqueue] at he
    exact absurd (Frame.sameKey_iff.mp hkey).1 (hroom.2 e he)

/-- What a response touches. -/
theorem respond_touches (i : Byte) (requester : Nat) (data : List Byte) (s : State) :
    Touches [.link, .seq] s (respond i requester data s) := by
  intro b hb
  cases b
  case link | seq => simp at hb
  all_goals rfl

theorem ring_respond (i : Byte) (requester : Nat) (data : List Byte) (s : State) :
    (respond i requester data s).link.ring = s.link.ring := rfl

/-- The state with the oldest frame out of the ring. -/
def popped (rest : List Frame) (s : State) : State := s.setLink { s.link with ring := rest }

theorem popped_touches (rest : List Frame) (s : State) : Touches [.link] s (popped rest s) := touches_setLink s _

/-! ## Refusals (R186) -/

/-- A request is refused by the first check that fails. -/
theorem refused_of_service {v : Service} {len : Nat} {inRange : Bool} {state : Option Byte}
    (hexec : exec c s = done (dispatch id v.take s)) (hlen : v.length = len)
    (hrange : f.data.length = len → v.inRange f.data (popped rest s) = inRange)
    (hstate : v.condition (popped rest s) = state) (h : HandsOn s id f rest)
    (hfails : f.source ≠ 15 ∨ s.power.state = .starting ∨ s.rqs.inService.isSome = true ∨
      f.data.length ≠ len ∨ inRange = false ∨ state.isSome = true) :
    let code : Byte :=
      if f.source ≠ 15 then 0x45
      else if s.power.state = .starting then 0x44
      else if s.rqs.inService.isSome then 0x43
      else if f.data.length ≠ len then 0x41
      else if inRange = false then 0x42
      else state.getD 0
    ∃ t, Answers c s t ∧ Touches [.link, .msc, .rqs, .seq] s t ∧
      t.rqs = { s.rqs with lastError := code } ∧ t.link.ring = rest ∧
      (HasRoom s f → Queued t (responseTo s f [code])) := by
  intro code
  have hcode : v.refusal f (popped rest s) = some code := by
    have hpower : (popped rest s).power = s.power := rfl
    have hrqs : (popped rest s).rqs = s.rqs := rfl
    unfold Service.refusal
    simp only [code, hpower, hrqs, hlen, hstate]
    by_cases h4 : f.data.length = len
    · rw [hrange h4]
      split_ifs with h1 h2 h3 <;> simp_all
      cases state <;> simp_all
    · split_ifs with h1 h2 h3 <;> simp_all
  have htake : v.take f (popped rest s) = respond f.id f.source [code] (recordCode code (popped rest s)) := by
    rw [Service.take, hcode]
    rfl
  have hexec' : exec c s = done (respond f.id f.source [code] (recordCode code (popped rest s))) := by
    rw [hexec, dispatch_of_handsOn h]
    exact congrArg done htake
  refine ⟨_, hexec', fun b hb => ?_, by simp [recordCode, respond, popped], by simp [ring_respond, recordCode, popped],
    fun hroom => ?_⟩
  · cases b
    case link | msc | rqs | seq => simp at hb
    all_goals simp [Agree, respond, recordCode, popped]
  · unfold Queued
    rw [(refresh_frame _).2.1]
    exact queued_respond (x := recordCode code (popped rest s)) hroom rfl rfl [code]

theorem isSome_logData (w : WarningUnit) (n : Nat) :
    (logData w n).isSome =
      decide (n < 0x10 ∧ n < w.log.length ∨ 0x10 ≤ n ∧ n < 0x20 ∧ n - 0x10 < w.log.length ∨ 0x20 ≤ n ∧ n ≤ 0x24) := by
  rw [Bool.eq_iff_iff, decide_eq_true_eq]
  unfold logData
  split_ifs with h1 h2 h3 h4
  · simp [h1]
    omega
  · simp [h2]
    omega
  · simp [h3]
  · simp
    omega
  · simp
    omega

theorem isSome_serviceItem_ofNat (n : Nat) : (ServiceItem.ofNat? n).isSome = decide (n ≤ 3) := by
  rw [Bool.eq_iff_iff, decide_eq_true_eq, ServiceItem.ofNat?, isSome_getElem?]
  exact Nat.lt_succ_iff

theorem isSome_serviceData (s : State) (n : Nat) :
    (serviceData s n).isSome = decide (n ≤ 3 ∨ 0x10 ≤ n ∧ n ≤ 0x13) := by
  rw [Bool.eq_iff_iff, decide_eq_true_eq]
  unfold serviceData
  split_ifs with h <;> rw [Option.isSome_map, isSome_serviceItem_ofNat, decide_eq_true_eq] <;> omega

/-- A date and time in five bytes (R161). -/
theorem word16_of_length {d : List Byte} (h : d.length = 5) :
    word16 d 3 = 256 * (byteAt d 3).toNat + (byteAt d 4).toNat := by
  match d, h with
  | [a, b, c, e, g], _ => simp [word16, slice, beNat, byteAt]

theorem condition_setTrim (s : State) : setTrim.condition s = if s.clock.pendingTrim = none then none else some 0x43 := by
  cases h : s.clock.pendingTrim <;> simp [setTrim, h]

theorem condition_chimeTest (s : State) :
    chimeTest.condition s =
      if s.power.state = .run ∧ s.power.endPhase = .none ∨ s.power.state = .courtesy ∧ s.power.endPhase = .none then none
      else some 0x44 := by
  have hiff : s.stationsTaken = true ↔
      s.power.state = .run ∧ s.power.endPhase = .none ∨ s.power.state = .courtesy ∧ s.power.endPhase = .none := by
    rw [stationsTaken_iff]
    simp [State.awake, or_and_right]
  simp only [chimeTest, hiff]

/-- Settles O57: each request meets the same checks, with its own length, range and condition. -/
theorem requestsAreRefused : Obligations.RequestsAreRefused := by
  unfold Obligations.RequestsAreRefused
  intro s f rest id c len k inRange state b logs hin h hfails
  simp only [List.mem_cons, Prod.mk.injEq, List.not_mem_nil, or_false] at hin
  rcases hin with ⟨rfl, rfl, rfl, hr, hs⟩ | ⟨rfl, rfl, rfl, hr, hs⟩ | ⟨rfl, rfl, rfl, hr, hs⟩ | ⟨rfl, rfl, rfl, hr, hs⟩ |
    ⟨rfl, rfl, rfl, hr, hs⟩ | ⟨rfl, rfl, rfl, hr, hs⟩ | ⟨rfl, rfl, rfl, hr, hs⟩ | ⟨rfl, rfl, rfl, hr, hs⟩ |
    ⟨rfl, rfl, rfl, hr, hs⟩ | ⟨rfl, rfl, rfl, hr, hs⟩ | ⟨rfl, rfl, rfl, hr, hs⟩ | ⟨rfl, rfl, rfl, hr, hs⟩ |
    ⟨rfl, rfl, rfl, hr, hs⟩
  · exact refused_of_service (v := readSense) rfl rfl (fun _ => hr.symm) hs.symm h hfails
  · exact refused_of_service (v := clearSense) rfl rfl (fun _ => hr.symm) hs.symm h hfails
  · exact refused_of_service (v := readLog) rfl rfl (fun _ => (isSome_logData _ _).trans hr.symm) hs.symm h hfails
  · exact refused_of_service (v := clearLog) rfl rfl (fun _ => hr.symm) hs.symm h hfails
  · exact refused_of_service (v := readSignal) rfl rfl (fun _ => hr.symm) hs.symm h hfails
  · exact refused_of_service (v := readService) rfl rfl (fun _ => (isSome_serviceData _ _).trans hr.symm) hs.symm h hfails
  · exact refused_of_service (v := resetService) rfl rfl (fun _ => hr.symm) hs.symm h hfails
  · refine refused_of_service (v := setClock) rfl rfl (fun hlen => ?_) hs.symm h hfails
    rw [hr, Bool.eq_iff_iff]
    simp [setClock, word16_of_length hlen, maxDay, b, and_assoc]
  · refine refused_of_service (v := setTrim) rfl rfl (fun _ => ?_) ((condition_setTrim _).trans hs.symm) h hfails
    rw [hr, Bool.eq_iff_iff]
    refine Iff.trans ?_ decide_eq_true_iff.symm
    refine Iff.trans ?_ (and_congr decide_eq_true_iff decide_eq_true_iff)
    rw [setTrim, Bool.and_eq_true]
    rfl
  · refine refused_of_service (v := adjustHour) rfl rfl (fun _ => ?_) hs.symm h hfails
    rw [hr, Bool.eq_iff_iff]
    simp [adjustHour, b, ← BitVec.toNat_inj]
  · exact refused_of_service (v := writeConfig) rfl rfl (fun _ => hr.symm) hs.symm h hfails
  · exact refused_of_service (v := gaugeTest k) rfl rfl (fun _ => hr.symm) hs.symm h hfails
  · refine refused_of_service (v := chimeTest) rfl rfl (fun _ => ?_) ((condition_chimeTest _).trans hs.symm) h hfails
    rw [hr, Bool.eq_iff_iff]
    simp [chimeTest, b]

end Sys2Proof.Machine
end

section
/-! SUPPORT. What frames offered after one another leave of the transmit queue, the service records handed to the store,
and the clock set. -/

namespace Sys2Proof.Machine

open Sys2Proof

variable {s t u : State} {f : Frame} {rest : List Frame} {c : Instr}

/-! ## Frames offered after one another (R14) -/

/-- Between two states at most `n` frames have joined the transmit queue, each of one of the ids, where it had room for
them: the entries of other ids stand as they did. -/
def OffersIds (ids : List Byte) (n : Nat) (s t : State) : Prop :=
  s.link.txQueue.length + n ≤ 8 →
    t.link.txQueue.length ≤ s.link.txQueue.length + n ∧
      ∀ e : TxEntry, e.frame.id ∉ ids → (e ∈ t.link.txQueue ↔ e ∈ s.link.txQueue)

theorem OffersIds.of_txQueue (h : t.link.txQueue = s.link.txQueue) : OffersIds [] 0 s t := by
  intro _
  rw [h]
  exact ⟨le_rfl, fun _ _ => Iff.rfl⟩

theorem OffersIds.trans {ids ids' : List Byte} {n n' : Nat} (h : OffersIds ids n s t) (h' : OffersIds ids' n' t u) :
    OffersIds (ids ++ ids') (n + n') s u := by
  intro hroom
  obtain ⟨hlen, hother⟩ := h (by omega)
  obtain ⟨hlen', hother'⟩ := h' (by omega)
  refine ⟨by omega, fun e he => ?_⟩
  rw [List.mem_append, not_or] at he
  exact (hother' e he.2).trans (hother e he.1)

theorem OffersIds.mono {ids ids' : List Byte} {n n' : Nat} (h : OffersIds ids n s t) (hids : ∀ i ∈ ids, i ∈ ids')
    (hn : n ≤ n') : OffersIds ids' n' s t := by
  intro hroom
  obtain ⟨hlen, hother⟩ := h (by omega)
  exact ⟨by omega, fun e he => hother e fun hi => he (hids _ hi)⟩

theorem OffersKey.offersIds (h : OffersKey f s t) : OffersIds [f.id] 1 s t := by
  intro hroom
  have hslots := slots_le_succ f s.link.txQueue
  obtain ⟨heq, hother, -⟩ := h (hslots.trans hroom)
  refine ⟨(length_le_slots f _).trans (heq.trans_le hslots), fun e he => hother e ?_⟩
  exact Bool.eq_false_iff.mpr fun hkey => he (List.mem_singleton.mpr (Frame.sameKey_iff.mp hkey).1)

theorem offersIds_offer (f : Frame) (s : State) : OffersIds [f.id] 1 s (offer f s) := (offersKey_offer f s).offersIds

theorem offersIds_evalWarnings (ws : List Warning) (s : State) : OffersIds [0x62] 1 s (evalWarnings ws s) :=
  (warnSteps_offersKey.evalWarnings ws s).offersIds

/-- A frame of another id still waits. -/
theorem OffersIds.queued {ids : List Byte} {n : Nat} (h : OffersIds ids n s t) (hroom : s.link.txQueue.length + n ≤ 8)
    (hid : f.id ∉ ids) (hq : Queued s f) : Queued t f := by
  obtain ⟨e, he, rfl⟩ := hq
  exact ⟨e, ((h hroom).2 e hid).mpr he, rfl⟩

/-- No entry of another id has come. -/
theorem OffersIds.absent {ids : List Byte} {n : Nat} {i : Byte} (h : OffersIds ids n s t)
    (hroom : s.link.txQueue.length + n ≤ 8) (hid : i ∉ ids) (hnone : ∀ e ∈ s.link.txQueue, e.frame.id ≠ i) :
    ∀ e ∈ t.link.txQueue, e.frame.id ≠ i :=
  fun e he hi => hnone e (((h hroom).2 e (hi ▸ hid)).mp he) hi

theorem offersIds_respond (i : Byte) (requester : Nat) (data : List Byte) (s : State) :
    OffersIds [i] 1 s (respond i requester data s) := offersIds_offer _ s

/-- A response waits behind the frames that the request has offered before it. -/
theorem OffersIds.queued_respond {ids : List Byte} {n : Nat} (h : OffersIds ids n s t) (hn : n ≤ 2) (hroom : HasRoom s f)
    (hid : f.id ∉ ids) (hsettings : t.settings = s.settings) (data : List Byte) :
    Queued (respond f.id f.source data t) (responseTo s f data) := by
  have hframe : t.ownFrame 3 .response (some f.source) f.id data = responseTo s f data := by
    simp [State.ownFrame, responseTo, hsettings]
  have hlen := hroom.1
  rw [respond, hframe]
  refine queued_offer ?_ (h.absent (by omega) hid hroom.2)
  have := (h (by omega)).1
  omega

/-! ## Requests that are served (R186) -/

/-- A request that passes its checks is served. -/
theorem exec_served {v : Service} {id : Byte} (hexec : exec c s = done (dispatch id v.take s)) (h : HandsOn s id f rest)
    (hserved : Served s f) (hlen : f.data.length = v.length) (hrange : v.inRange f.data (popped rest s) = true)
    (hstate : v.condition (popped rest s) = none) : exec c s = done (v.serve f (popped rest s)) := by
  obtain ⟨hsource, hpower, hrqs⟩ := hserved
  have hrefusal : v.refusal f (popped rest s) = none := by
    unfold Service.refusal
    rw [if_neg (not_not.mpr hsource), if_neg (show ¬(popped rest s).power.state = .starting from hpower),
      if_neg (by simp [popped, hrqs]), if_neg (not_not.mpr hlen), hrange]
    exact hstate
  rw [hexec, dispatch_of_handsOn h]
  refine congrArg done ?_
  change v.take f (popped rest s) = _
  rw [Service.take, hrefusal]

/-! ## The store's port (R111) -/

theorem stcBegin_of_busy (h : (s.stc.portOpen && s.stc.active.isNone) = false) : stcBegin s = s := by
  exact if_neg (Bool.eq_false_iff.mp h)

/-- With the port free the next waiting job begins (R111). -/
theorem storeBegins_stcBegin (hopen : s.stc.portOpen = true) (hfree : s.stc.active = none) :
    StoreBegins s.stc s.rqs.staging (stcBegin s).stc := by
  unfold stcBegin StoreBegins
  dsimp only
  rw [hopen, hfree]
  rcases hodo : s.stc.waitOdometer with _ | j
  · rcases hservice : s.stc.waitService with _ | ⟨e, es⟩
    · cases hconfiguration : s.stc.waitConfiguration <;> simp [StoreController.start]
    · simp [StoreController.start]
  · simp [StoreController.start]

/-- A waiting service entry still waits, or is in the job that begins. -/
theorem mem_service_stcBegin {e : ServiceEntry} (h : e ∈ s.stc.waitService) :
    e ∈ (stcBegin s).stc.waitService ∨
      ∃ es n x, e ∈ es ∧ (stcBegin s).stc.active = some { job := .service es, unit := n, repeated := x } := by
  cases hport : s.stc.portOpen && s.stc.active.isNone with
  | false => exact .inl (by rwa [stcBegin_of_busy hport])
  | true =>
    rw [Bool.and_eq_true, Option.isNone_iff_eq_none] at hport
    obtain ⟨hodometer, hservice, -, -⟩ := storeBegins_stcBegin hport.1 hport.2
    rcases hodo : s.stc.waitOdometer with _ | j
    · rw [hservice hodo (List.ne_nil_of_mem h)]
      exact .inr ⟨s.stc.waitService, 0, false, h, rfl⟩
    · rw [hodometer j hodo]
      exact .inl h

/-! ## The service records handed over (R154) -/

/-- A dirty record is with the store once it has been handed over. -/
theorem withStore_handService (reset : Option ServiceItem) {i : ServiceItem} (h : (s.item i).dirty = true) :
    WithStore (handService reset s) i := by
  have hentry : ∃ e ∈ serviceJob reset s, e.item = i ∧ e.record = (s.item i).record := by
    refine ⟨_, List.mem_filterMap.mpr ⟨i, by cases i <;> decide, if_pos h⟩, rfl, rfl⟩
  obtain ⟨e, he, hitem, hrecord⟩ := hentry
  refine ⟨e, hitem, ?_, mem_service_stcBegin he⟩
  rw [hrecord]
  simp [State.item]

theorem touches_stcBegin (s : State) : Touches [.odo, .stc] s (stcBegin s) := by
  intro b hb
  cases b
  case odo | stc => simp at hb
  all_goals simp [Agree]

theorem touches_handService (reset : Option ServiceItem) (s : State) : Touches [.odo, .stc] s (handService reset s) := by
  intro b hb
  cases b
  case odo | stc => simp at hb
  all_goals simp [Agree]

/-! ## Absent due days (R151) -/

theorem needsFill_iff (s : State) (i : ServiceItem) :
    needsFill s i = true ↔
      (s.item i).awaiting = false ∧ 0 < s.settings.dayIntervals[i.ix] ∧ (s.item i).record.dueDay = none := by
  simp only [needsFill, Bool.and_eq_true, Bool.not_eq_true', decide_eq_true_eq, Option.isNone_iff_eq_none, and_assoc]
  rfl

/-- An item with its absent due day filled. -/
def filled (s : State) (i : ServiceItem) : ServiceState :=
  { s.item i with
    record := { (s.item i).record with dueDay := some (s.clock.day + intervalDays s.settings i) }, dirty := true }

theorem fillItem_eq (s : State) (i : ServiceItem) :
    fillItem s i = if needsFill s i then s.setItem i (filled s i) else s := rfl

theorem item_fillItem_other {i j : ServiceItem} (h : j ≠ i) (s : State) : (fillItem s i).item j = s.item j := by
  rw [fillItem_eq]
  split_ifs
  · exact State.item_setItem_other s _ h
  · rfl

theorem item_fillItem_same (s : State) (i : ServiceItem) :
    (fillItem s i).item i = if needsFill s i then filled s i else s.item i := by
  rw [fillItem_eq]
  split_ifs <;> simp

/-- Each item is filled once. -/
theorem item_foldl_fillItem {l : List ServiceItem} (hl : l.Nodup) (s : State) (i : ServiceItem) :
    (l.foldl fillItem s).item i = if i ∈ l ∧ needsFill s i = true then filled s i else s.item i := by
  induction l generalizing s with
  | nil => simp
  | cons j js ih =>
    obtain ⟨hj, hjs⟩ := List.nodup_cons.mp hl
    rw [List.foldl_cons, ih hjs]
    by_cases hij : i = j
    · subst hij
      simp [hj, item_fillItem_same]
    · have hitem := item_fillItem_other hij s
      have hneeds : needsFill (fillItem s j) i = needsFill s i := by simp [needsFill, hitem]
      have hfilled : filled (fillItem s j) i = filled s i := by simp [filled, hitem]
      simp [hij, hitem, hneeds, hfilled]

theorem foldl_fillItem_frame (l : List ServiceItem) (s : State) :
    Touches [.sru] s (l.foldl fillItem s) ∧
      (l.foldl fillItem s).sru = { s.sru with items := (l.foldl fillItem s).sru.items } := by
  induction l generalizing s with
  | nil => exact ⟨Touches.refl _ s, rfl⟩
  | cons i is ih =>
    obtain ⟨htouch, hsru⟩ := ih (fillItem s i)
    have hfirst : Touches [.sru] s (fillItem s i) := by
      intro b hb
      cases b
      case sru => simp at hb
      all_goals simp [Agree]
    have hitems : (fillItem s i).sru = { s.sru with items := (fillItem s i).sru.items } := by
      rw [fillItem_eq]
      split_ifs <;> rfl
    refine ⟨hfirst.trans htouch, ?_⟩
    rw [List.foldl_cons, hsru, hitems]

/-- With the clock valid every absent due day is filled, and the items are with the store (R151, R154). -/
theorem fillDueDays_spec (hvalid : s.clock.valid = true) :
    Touches [.odo, .stc, .sru] s (fillDueDays s) ∧ (fillDueDays s).sru = { s.sru with items := (fillDueDays s).sru.items } ∧
      ∀ i, (fillDueDays s).item i = (if needsFill s i then filled s i else s.item i) ∧
        (needsFill s i = true → WithStore (fillDueDays s) i) := by
  obtain ⟨htouch, hsru⟩ := foldl_fillItem_frame ServiceItem.all s
  have hitem (i : ServiceItem) :
      (ServiceItem.all.foldl fillItem s).item i = if needsFill s i then filled s i else s.item i := by
    rw [item_foldl_fillItem (by decide)]
    have hmem : i ∈ ServiceItem.all := by cases i <;> decide
    simp [hmem]
  unfold fillDueDays
  by_cases hany : ServiceItem.all.any (needsFill s) = true
  · rw [if_pos ⟨hvalid, hany⟩]
    refine ⟨(htouch.mono (by simp)).trans ((touches_handService none _).mono (by simp)), by simpa using hsru, fun i => ⟨?_, ?_⟩⟩
    · rw [← hitem]
      simp [State.item]
    · intro hneeds
      refine withStore_handService none ?_
      rw [hitem, if_pos hneeds]
      rfl
  · rw [if_neg fun h => hany h.2]
    refine ⟨Touches.refl _ s, rfl, fun i => ?_⟩
    have hnone : needsFill s i = false := by
      refine Bool.eq_false_iff.mpr fun h => hany (List.any_eq_true.mpr ⟨i, ?_, h⟩)
      cases i <;> decide
    simp [hnone]

/-! ## What leaves the warnings alone -/

/-- What is carried out beside the warnings, their sources and the settings leaves them as they were shown. -/
theorem WarnShown.of_touches (h : Touches [.link, .trc, .odo, .stc, .sru, .msc, .rqs, .store, .seq, .draw, .pending] s t)
    (hfault : t.stc.fault = s.stc.fault) (hroster : t.link.roster = s.link.roster) : WarnShown s t := by
  have hpower : t.power = s.power := h .power (by simp)
  have hinput : t.input = s.input := h .input (by simp)
  have hgdu : t.gdu = s.gdu := h .gdu (by simp)
  have hclock : t.clock = s.clock := h .clock (by simp)
  have hwnu : t.wnu = s.wnu := h .wnu (by simp)
  have hsettings : t.settings = s.settings := h .settings (by simp)
  exact
    { elsewhere := fun n => Elsewhere.of_wnu hwnu n
      list := by rw [hwnu]
      settings := hsettings
      sources :=
        { state := by rw [hpower]
          spoiled := by rw [hpower]
          memory := by rw [hpower]
          signals := h .signals (by simp)
          filters := by rw [hinput]
          gauges := by rw [hgdu]
          fault := hfault
          valid := by rw [hclock]
          reserve := by rw [hsettings]
          roster := hroster
          runningLong := by rw [hwnu]
          linkWindow := by rw [hwnu]
          beltWindow := by rw [hwnu]
          odoRestored := by rw [hwnu]
          configDefaults := by rw [hwnu] } }

theorem stcBegin_fault (s : State) : (stcBegin s).stc.fault = s.stc.fault := by
  unfold stcBegin
  dsimp only
  (repeat' split) <;> rfl

theorem fillDueDays_fault (s : State) : (fillDueDays s).stc.fault = s.stc.fault := by
  unfold fillDueDays
  split_ifs
  · rw [handService, stcBegin_fault]
    have htouch : (ServiceItem.all.foldl fillItem s).stc = s.stc :=
      (foldl_fillItem_frame ServiceItem.all s).1 .stc (by simp)
    rw [State.setStc_stc, htouch]
  · rfl

end Sys2Proof.Machine
end

section
/-! CLAIM. The clock set and adjusted: SET CLOCK, SET TRIM and ADJUST HOUR (R159, R161, R163), and the buttons of
clock-set mode (R162, R169). -/

namespace Sys2Proof.Machine

open Sys2Proof

variable {s t u : State} {f : Frame} {rest : List Frame} {c : Instr}

/-! ## The clock set (R160 to R162) -/

/-- The clock set to a time, and valid. -/
def setTo (hour minute second day : Nat) (c : Clock) : Clock :=
  { c with hour := hour, minute := minute, second := second, day := day, prescaler := 0, valid := true }

/-- What a setting of a clock that was not valid reports to the warnings and the service items. -/
def reported (hour minute second day : Nat) (s : State) : State :=
  if s.clock.valid then s.setClock (setTo hour minute second day s.clock)
  else fillDueDays (evalWarnings [.clockUnset] (s.setClock (setTo hour minute second day s.clock)))

variable {hour minute second day : Nat}

theorem setTime_eq (s : State) : setTime hour minute second day s = offerTime (reported hour minute second day s) := rfl

theorem touches_evalWarnings (ws : List Warning) (s : State) : Touches [.link, .wnu, .seq, .draw] s (evalWarnings ws s) := by
  intro b hb
  cases b
  case link | wnu | seq | draw => simp at hb
  all_goals simp [Agree]

theorem touches_reported (s : State) :
    Touches [.link, .odo, .stc, .wnu, .sru, .clock, .seq, .draw] s (reported hour minute second day s) := by
  have hset : Touches [.clock] s (s.setClock (setTo hour minute second day s.clock)) := touches_setClock s _
  unfold reported
  split_ifs
  · exact hset.mono (by simp)
  · have heval := touches_evalWarnings [.clockUnset] (s.setClock (setTo hour minute second day s.clock))
    have hfill := (fillDueDays_spec (s := evalWarnings [.clockUnset] (s.setClock (setTo hour minute second day s.clock)))
      (by simp [setTo])).1
    exact ((hset.mono (by simp)).trans (heval.mono (by simp))).trans (hfill.mono (by simp))

theorem reported_clock (s : State) : (reported hour minute second day s).clock = setTo hour minute second day s.clock := by
  unfold reported
  split_ifs <;> simp

theorem offersIds_reported (s : State) : OffersIds [0x62] 1 s (reported hour minute second day s) := by
  unfold reported
  split_ifs
  · exact (OffersIds.of_txQueue rfl).mono (by simp) (by simp)
  · refine (offersIds_evalWarnings [.clockUnset] (s.setClock (setTo hour minute second day s.clock))).trans
      (OffersIds.of_txQueue ?_) 
    simp

theorem touches_offerTime (s : State) : Touches [.link, .seq] s (offerTime s) := by
  intro b hb
  cases b
  case link | seq => simp at hb
  all_goals simp [Agree]

theorem offersIds_offerTime (s : State) : OffersIds [0x61] 1 s (offerTime s) := offersIds_offer _ s

theorem touches_setTime (s : State) :
    Touches [.link, .odo, .stc, .wnu, .sru, .clock, .seq, .draw] s (setTime hour minute second day s) := 
  (touches_reported s).trans ((touches_offerTime _).mono (by simp))

theorem offersIds_setTime (s : State) : OffersIds [0x62, 0x61] 2 s (setTime hour minute second day s) :=
  (offersIds_reported s).trans (offersIds_offerTime _)

theorem roster_offerTime (s : State) : (offerTime s).link.roster = s.link.roster := by
  have honly : OnlyOffers s (offerTime s) := onlyOffers_offer _ s
  rw [honly.1]

theorem roster_respond (i : Byte) (requester : Nat) (data : List Byte) (s : State) :
    (respond i requester data s).link.roster = s.link.roster := by
  have honly : OnlyOffers s (respond i requester data s) := onlyOffers_offer _ s
  rw [honly.1]

theorem timeFrame_congr (hclock : t.clock = s.clock) (hsettings : t.settings = s.settings) : TimeFrame t = TimeFrame s := by
  rw [TimeFrame, TimeFrame, hclock, hsettings]

/-- A setting of the clock is reported, also behind what it is part of (R42, R151, R160 to R162). -/
theorem clockReported_setTime {s0 t' : State} (hbefore : Touches [.link, .input, .msc] s0 s)
    (hqueue : s.link.txQueue = s0.link.txQueue)
    (hafter : Touches [.link, .msc, .seq] (setTime hour minute second day s) t')
    (hroster : t'.link.roster = (setTime hour minute second day s).link.roster)
    (hlater : ∀ g : Frame, g.id = 0x61 ∨ g.id = 0x62 → Queued (setTime hour minute second day s) g → Queued t' g) :
    ClockReported s0 t' := by
  have hsru0 : s.sru = s0.sru := hbefore .sru (by simp)
  have hsettings0 : s.settings = s0.settings := hbefore .settings (by simp)
  have hpower0 : s.power = s0.power := hbefore .power (by simp)
  have hclock0 : s.clock = s0.clock := hbefore .clock (by simp)
  have hframe := touches_offerTime (reported hour minute second day s)
  have hall : Touches [.link, .msc, .seq] (reported hour minute second day s) t' :=
    (hframe.mono (by simp)).trans hafter
  refine ⟨fun hroom => ?time, fun hvalid => ?valid, fun hvalid => ?unset⟩
  case time =>
    have hlen : s.link.txQueue.length + 1 ≤ 8 := by
      rw [hqueue]
      have := hroom.1
      omega
    have hoffer := offersIds_reported (hour := hour) (minute := minute) (second := second) (day := day) s
    have hq := queued_offerTime (s := reported hour minute second day s) ((hoffer hlen).1.trans_lt (by have := hroom.1; rw [hqueue]; omega))
      (hoffer.absent hlen (by decide) (hqueue ▸ hroom.2))
    rw [timeFrame_congr (hafter .clock (by simp)) (hafter .settings (by simp))]
    exact hlater _ (.inl rfl) hq
  case valid =>
    have hmade : reported hour minute second day s = s.setClock (setTo hour minute second day s.clock) :=
      if_pos (hclock0 ▸ hvalid)
    rw [hmade] at hall
    exact ⟨(hall .sru (by simp)).trans (hbefore .sru (by simp)), (hall .wnu (by simp)).trans (hbefore .wnu (by simp)),
      (hall .stc (by simp)).trans (hbefore .stc (by simp)), (hall .odo (by simp)).trans (hbefore .odo (by simp))⟩
  case unset =>
    set s1 := s.setClock (setTo hour minute second day s.clock) with hs1
    have hmade : reported hour minute second day s = fillDueDays (evalWarnings [.clockUnset] s1) :=
      if_neg (by simp [hclock0, hvalid])
    have hvalid1 : (evalWarnings [.clockUnset] s1).clock.valid = true := by simp [hs1, setTo]
    obtain ⟨hfill, hsru, hitems⟩ := fillDueDays_spec hvalid1
    rw [hmade] at hall
    have hsru1 : (evalWarnings [.clockUnset] s1).sru = s0.sru := by simpa [hs1] using hsru0
    have hsettings1 : (evalWarnings [.clockUnset] s1).settings = s0.settings := by simpa [hs1] using hsettings0
    have hsru' : t'.sru = (fillDueDays (evalWarnings [.clockUnset] s1)).sru := hall .sru (by simp)
    have hstc' : t'.stc = (fillDueDays (evalWarnings [.clockUnset] s1)).stc := hall .stc (by simp)
    have hclock' : t'.clock = (evalWarnings [.clockUnset] s1).clock := (hall .clock (by simp)).trans (hfill .clock (by simp))
    refine ⟨fun hpowered => ?_, ?_, fun i => ?_⟩
    · have hpowered1 : s1.powered = true := by
        simpa [State.powered, State.awake, hs1, hpower0] using hpowered
      refine warningsMoved_of_shown (s := s1) hpowered1 (by simp) (by simp)
        (WarnBefore.of_wnu (hbefore .wnu (by simp)) hqueue ?_) (WarnShown.of_touches ((hfill.mono (by simp)).trans
          (hall.mono (by simp))) ?_ ?_) fun hroom g hg hq => ?_
      · exact congrArg PowerUnit.patternSpoiled hpower0
      · rw [hstc', fillDueDays_fault]
      · rw [hroster, setTime_eq, roster_offerTime, hmade]
        simp
      · refine hlater g (.inr hg) ?_
        have hq' : Queued (reported hour minute second day s) g := by
          rw [hmade]
          unfold Queued at hq ⊢
          simpa using hq
        have hlen : s.link.txQueue.length ≤ 6 := by rw [hqueue]; exact hroom.1
        refine (offersIds_offerTime (reported hour minute second day s)).queued ?_ (by simp [hg]) hq'
        have := (offersIds_reported (hour := hour) (minute := minute) (second := second) (day := day) s (by omega)).1
        omega
    · rw [hsru', hsru, hsru1]
    · have hitem' : t'.item i = (fillDueDays (evalWarnings [.clockUnset] s1)).item i := by rw [State.item, State.item, hsru']
      have hold : (evalWarnings [.clockUnset] s1).item i = s0.item i := by rw [State.item, State.item, hsru1]
      have hneeds := needsFill_iff (evalWarnings [.clockUnset] s1) i
      rw [hold, hsettings1] at hneeds
      obtain ⟨hmade, hstored⟩ := hitems i
      refine ⟨fun hfills => ?_, fun hfills => ?_⟩
      · have hfill1 := hneeds.mpr hfills
        rw [if_pos hfill1] at hmade
        refine ⟨?_, ?_⟩
        · rw [hitem', hmade, filled, hold, hclock', intervalDays, hsettings1]
        · obtain ⟨e, he, hrecord, hwhere⟩ := hstored hfill1
          exact ⟨e, he, hitem' ▸ hrecord, hstc' ▸ hwhere⟩
      · rw [if_neg (hneeds.not.mpr hfills)] at hmade
        rw [hitem', hmade, hold]

/-! ## Requests answered (R45, R187) -/

/-- A request that is served offers what it offers, and its response waits behind that. -/
theorem answered {bs : List Block} {ids : List Byte} {n : Nat} {data : List Byte}
    (hexec : exec c s = done (respond f.id f.source data u)) (htouch : Touches bs s u)
    (hbs : (∀ b ∈ [Block.link, .seq, .msc], b ∈ bs) ∧ .settings ∉ bs) (hoffers : OffersIds ids n s u) (hn : n ≤ 2) (hroom : HasRoom s f)
    (hid : f.id ∉ ids) :
    Answers c s (refresh (respond f.id f.source data u)) ∧ Touches bs s (refresh (respond f.id f.source data u)) ∧
      Queued (refresh (respond f.id f.source data u)) (responseTo s f data) := by
  refine ⟨hexec, ?_, ?_⟩
  · refine (htouch.trans ((respond_touches _ _ _ _).mono fun b hb => hbs.1 b ?_)).refresh (hbs.1 _ (by simp))
    simp only [List.mem_cons, List.not_mem_nil, or_false] at hb ⊢
    rcases hb with rfl | rfl <;> simp
  · unfold Queued
    rw [(refresh_frame _).2.1]
    exact hoffers.queued_respond hn hroom hid (htouch .settings hbs.2) data

theorem clock_answered (i : Byte) (requester : Nat) (data : List Byte) (s : State) :
    (refresh (respond i requester data s)).clock = s.clock := by simp [respond]

/-- CLUSTER_TIME of a clock that an hour has changed waits, also behind the response. -/
theorem queued_adjustHour {data : List Byte} {k : Clock} (hroom : HasRoom s f) (hid : f.id ≠ 0x61) (htime : RoomFor s 0x61) :
    let t := refresh (respond f.id f.source data (offerTime ((popped rest s).setClock k)))
    Queued t (TimeFrame t) := by
  intro t
  set v := (popped rest s).setClock k
  have hlen : v.link.txQueue.length ≤ 5 := hroom.1
  have hq : Queued (offerTime v) (TimeFrame (offerTime v)) := queued_offerTime (by omega) htime.2
  have hlen' := (offersIds_offerTime v (by omega)).1
  rw [queued_refresh, timeFrame_congr (t := respond f.id f.source data (offerTime v)) (s := offerTime v) rfl rfl]
  exact (offersIds_respond f.id f.source data (offerTime v)).queued (by omega) (by simpa [TimeFrame] using hid.symm) hq

theorem advanceHour_eq {k : Clock} (h : k.hour ≤ 23) :
    k.advanceHour =
      { k with
        hour := (k.hour + 1) % 24
        day := if k.hour = 23 then min 36524 (k.day + 1) else k.day } := by
  unfold Clock.advanceHour
  split_ifs with h1 h2 h2
  · omega
  · rw [Nat.mod_eq_of_lt (by omega)]
  · simp [h2, maxDay]
  · omega

/-- Settles O59: each request is served by its own action, and a response of one byte waits behind what it offers. -/
theorem clockRequests : Obligations.ClockRequests := by
  unfold Obligations.ClockRequests
  intro s f rest hserved hroom
  refine ⟨fun h m x d1 d0 hon hdata hh hm hx hd => ?setClock, fun b hon hdata hlo hhi => ?setTrim, fun hon => ?adjustHour⟩
  case setClock =>
    have hexec := exec_served (c := .setClock) (v := setClock) rfl hon hserved (by rw [hdata]; rfl)
      (by simp [setClock, hdata, byteAt, word16, slice, beNat, maxDay]; omega) rfl
    have hserve : setClock.serve f (popped rest s) = respond f.id f.source [0x00]
        (setTime h.toNat m.toNat x.toNat (256 * d1.toNat + d0.toNat) (popped rest s)) := by
      simp [setClock, answer, hdata, byteAt, word16, slice, beNat]
    rw [hserve] at hexec
    have hid : f.id = 0x77 := hon.2.2
    have hpopped := popped_touches rest s
    have htime := touches_setTime (hour := h.toNat) (minute := m.toNat) (second := x.toNat)
      (day := 256 * d1.toNat + d0.toNat) (popped rest s)
    have hoffers := offersIds_setTime (hour := h.toNat) (minute := m.toNat) (second := x.toNat)
      (day := 256 * d1.toNat + d0.toNat) (popped rest s)
    obtain ⟨hanswers, htouch, hqueued⟩ :=
      answered (bs := [.link, .odo, .stc, .wnu, .sru, .clock, .msc, .seq, .draw]) (ids := [0x62, 0x61]) (n := 2) hexec
        ((hpopped.mono (by simp)).trans (htime.mono (by simp))) (by decide) hoffers le_rfl hroom (by simp [hid])
    refine ⟨_, hanswers, htouch, ?_, ?_, hqueued⟩
    · rw [clock_answered, setTime_eq]
      exact (touches_offerTime _ .clock (by simp)).trans (reported_clock _)
    · refine clockReported_setTime (s := popped rest s) (hpopped.mono (by simp)) rfl
        (((respond_touches _ _ _ _).mono (by simp)).refresh (by simp)) ?_ fun g hg hq => ?_
      · rw [(refresh_frame _).2.1]
        exact roster_respond _ _ _ _
      · have hlen : (popped rest s).link.txQueue.length ≤ 5 := hroom.1
        have hlen' := (hoffers (by omega)).1
        unfold Queued
        rw [(refresh_frame _).2.1]
        exact (offersIds_respond _ _ _ _).queued (by omega) (by rcases hg with hg | hg <;> simp [hg, hid]) hq
  case setTrim =>
    have hpopped := popped_touches rest s
    refine ⟨fun hnone => ?_, fun hsome => ?_⟩
    · have hexec := exec_served (c := .setTrim) (v := setTrim) rfl hon hserved (by rw [hdata]; rfl)
        (by simp [setTrim, hdata, byteAt, signedByte, hlo, hhi]) (by simp [condition_setTrim, popped, hnone])
      have hserve : setTrim.serve f (popped rest s) = respond f.id f.source [0x00]
          ((popped rest s).setClock { s.clock with pendingTrim := some b.toInt }) := by
        rw [show setTrim.serve f (popped rest s) = answer [] f ((popped rest s).setClock
          { (popped rest s).clock with pendingTrim := some (signedByte (byteAt f.data 0)) }) from rfl, hdata]
        rfl
      rw [hserve] at hexec
      obtain ⟨hanswers, htouch, hqueued⟩ :=
        answered (bs := [.link, .clock, .msc, .seq]) (ids := []) (n := 0) hexec
          ((hpopped.mono (by simp)).trans ((touches_setClock _ _).mono (by simp))) (by decide) (OffersIds.of_txQueue rfl)
          (by simp) hroom (by simp)
      exact ⟨_, hanswers, htouch, clock_answered _ _ _ _, hqueued⟩
    · obtain ⟨hsource, hpower, hrqs⟩ := hserved
      have hpending : ¬s.clock.pendingTrim = none := Option.isSome_iff_ne_none.mp hsome
      obtain ⟨t, hanswers, htouch, hcode, -, hqueued⟩ :=
        refused_of_service (c := .setTrim) (v := setTrim) (len := 1) (inRange := true) (state := some 0x43) rfl rfl
          (fun _ => by simp [setTrim, hdata, byteAt, signedByte, hlo, hhi])
          (by simp [condition_setTrim, popped, hpending]) hon (by simp)
      simp [hsource, hpower, hrqs, hdata] at hcode hqueued
      exact ⟨t, hanswers, htouch, by simp [hcode, hrqs], hqueued hroom⟩
  case adjustHour =>
    have hid : f.id = 0x79 := hon.2.2
    have hpopped := popped_touches rest s
    have hadjusted (k : Clock)
        (hexec : exec .adjustHour s = done (respond f.id f.source [0x00] (offerTime ((popped rest s).setClock k)))) :
        ∃ t, Answers .adjustHour s t ∧ Touches [.link, .clock, .msc, .seq] s t ∧ t.clock = k ∧
          (RoomFor s 0x61 → Queued t (TimeFrame t)) ∧ Queued t (responseTo s f [0x00]) := by
      obtain ⟨hanswers, htouch, hqueued⟩ :=
        answered (bs := [.link, .clock, .msc, .seq]) (ids := [0x61]) (n := 1) hexec
          (((hpopped.mono (by simp)).trans ((touches_setClock _ k).mono (by simp))).trans
            ((touches_offerTime _).mono (by simp))) (by decide)
            ((OffersIds.of_txQueue (t := (popped rest s).setClock k) rfl).trans (offersIds_offerTime _)) (by simp) hroom
            (by simp [hid])
      refine ⟨_, hanswers, htouch, ?_, queued_adjustHour hroom (by simp [hid]), hqueued⟩
      rw [clock_answered]
      exact touches_offerTime _ .clock (by simp)
    have hserved' (b : Byte) (hdata : f.data = [b]) (hb : b = 0x01 ∨ b = 0xFF) :
        exec .adjustHour s = done (adjustHour.serve f (popped rest s)) :=
      exec_served (c := .adjustHour) (v := adjustHour) rfl hon hserved (by rw [hdata]; rfl)
        (by rcases hb with rfl | rfl <;> simp [adjustHour, hdata, byteAt]) rfl
    refine ⟨fun hdata hhour => ?_, fun hdata hhour => ?_, fun hdata hhour => ?_⟩
    · refine (advanceHour_eq hhour) ▸ hadjusted s.clock.advanceHour ?_
      rw [hserved' _ hdata (.inl rfl)]
      simp [adjustHour, adjustedClock, hdata, byteAt, popped, answer]
    · refine hadjusted { s.clock with hour := s.clock.hour - 1 } ?_
      rw [hserved' _ hdata (.inr rfl)]
      simp [adjustHour, adjustedClock, hdata, byteAt, popped, answer, Clock.retardHour, hhour.ne']
    · have hexec : exec .adjustHour s = done (respond f.id f.source [0x0E] (popped rest s)) := by
        rw [hserved' _ hdata (.inr rfl)]
        simp [adjustHour, adjustedClock, hdata, byteAt, popped, Clock.retardHour, hhour]
      obtain ⟨hanswers, htouch, hqueued⟩ :=
        answered (bs := [.link, .msc, .seq]) (ids := []) (n := 0) hexec (hpopped.mono (by simp)) (by decide)
          (OffersIds.of_txQueue rfl) (by simp) hroom (by simp)
      exact ⟨_, hanswers, htouch, hqueued⟩

/-! ## The buttons of clock-set mode and of a review (R162, R169) -/

/-- Settles O37: with clock-set mode or a review on show each button makes one change of the Message Centre, and SET sets
the clock besides. -/
theorem clockSetAndReviewButtons : Obligations.ClockSetAndReviewButtons := by
  unfold Obligations.ClockSetAndReviewButtons
  intro s rest hrun u down
  have hpowered := powered_of_awake (awake_of_run hrun)
  refine ⟨fun h m hs => ⟨fun he => ?mode, fun he => ?reset, fun he => ?set⟩, fun l c b hs hc he => ?review⟩
  case mode =>
    refine eventTaken_inRun rfl he hrun (m := { down .mode with clockSet := some ((h + 1) % 24, m) }) ?_
    rw [modeAction, shown_downed, hs]
    rfl
  case reset =>
    refine eventTaken_inRun rfl he hrun (m := { down .reset with clockSet := some (h, (m + 1) % 60) }) ?_
    rw [resetAction, shown_downed, hs]
    rfl
  case set =>
    have hact : setAction (taken rest (downed (.press .set) s) s) =
        setTime h m 0 s.clock.day (taken rest { down .set with clockSet := none } s) := by
      rw [setAction, shown_downed, hs]
      rfl
    have hexec : exec .setPress s =
        .next (refresh (setTime h m 0 s.clock.day (taken rest { down .set with clockSet := none } s))) := by
      have hfront : exec .setPress s = .next (onButton (.press .set) (inRun setAction) s) := rfl
      have hmark (x : State) : markEvent (.press .set) x = x := if_neg (by simp [ButtonEvent.clearsMark])
      rw [hfront, onButton_of_front he hpowered, takeEvent_awake (awake_of_run hrun),
        inRun_run _ (s := taken rest (downed (.press .set) s) s) hrun, hact, hmark]
    have htaken := touches_taken rest { down .set with clockSet := none } s
    have htime := touches_setTime (hour := h) (minute := m) (second := 0) (day := s.clock.day)
      (taken rest { down .set with clockSet := none } s)
    refine ⟨_, hexec, ((htaken.mono (by simp)).trans (htime.mono (by simp))).refresh (by simp), ?_, ?_, ?_, ?_⟩
    · simp [taken, u]
    · have hpowered' : (setTime h m 0 s.clock.day (taken rest { down .set with clockSet := none } s)).powered = true := by
        have hpower := htime .power (by simp)
        rw [State.powered, State.awake, show _ = _ from hpower]
        exact hpowered
      have hmsc := htime .msc (by simp)
      have := refresh_redrawn hpowered'
      rwa [show _ = _ from hmsc] at this
    · rw [(refresh_frame _).2.2.2.2.2.2.2.2.2.2.1, setTime_eq]
      exact (touches_offerTime _ .clock (by simp)).trans (reported_clock _)
    · refine clockReported_setTime (htaken.mono (by simp)) rfl ((touches_refresh _).mono (by simp)) (by simp) ?_
      intro g hg
      simp [Queued]
  case review =>
    simp only [List.mem_cons, Prod.mk.injEq, List.not_mem_nil, or_false] at hc
    rcases hc with ⟨rfl, rfl⟩ | ⟨rfl, rfl⟩ | ⟨rfl, rfl⟩
    · refine eventTaken_inRun rfl he hrun (m := { down .mode with review := none, reviewTimer := none }) ?_
      rw [modeAction, shown_downed, hs]
      rfl
    · refine eventTaken_inRun rfl he hrun (m := { down .set with review := none, reviewTimer := none }) ?_
      rw [setAction, shown_downed, hs]
      rfl
    · refine eventTaken_inRun rfl he hrun (m := { down .reset with review := none, reviewTimer := none }) ?_
      rw [resetAction, shown_downed, hs]
      rfl

end Sys2Proof.Machine
end

section
/-! SUPPORT. The remaining km and days of a service item, its status, and the bytes of the reading requests. -/

namespace Sys2Proof.Machine

open Sys2Proof

variable {s t : State} {i : ServiceItem}

/-! ## The status of an item (R148) -/

theorem handedKm_eq (s : State) : s.odo.handedKm = if s.odo.resolved then some (KmOf s.odo.total) else none := rfl

theorem remainingKm_eq (s : State) (i : ServiceItem) : remainingKm s i = KmLeft s i := by
  have hinterval : intervalKm s.settings i = 100 * s.settings.distIntervals[i.ix] := rfl
  unfold remainingKm KmLeft statusRecord resetRecord
  rw [handedKm_eq]
  cases hresolved : s.odo.resolved with
  | false => rfl
  | true =>
    by_cases hzero : 100 * s.settings.distIntervals[i.ix] = 0
    · exact (if_pos hzero).trans (if_pos (.inr hzero)).symm
    · refine (if_neg hzero).trans (Eq.trans ?_ (if_neg (by simpa using hzero)).symm)
      cases hawaiting : (s.item i).awaiting with
      | false => rfl
      | true => simp [hinterval]

theorem remainingDays_eq (s : State) (i : ServiceItem) : remainingDays s i = DaysLeft s i := by
  have hinterval : intervalDays s.settings i = s.settings.dayIntervals[i.ix] := rfl
  unfold remainingDays DaysLeft statusRecord resetRecord
  rw [hinterval]
  generalize s.settings.dayIntervals[i.ix] = days
  cases hvalid : s.clock.valid <;> cases hawaiting : (s.item i).awaiting <;>
    rcases hday : (s.item i).record.dueDay with _ | d <;> rcases days with _ | days <;> simp [hday]

theorem measureStatus_code (limit : Int) (v : Option Int) : (measureStatus limit limit v).code = MeasureCode limit v := by
  cases v with
  | none => rfl
  | some v =>
    unfold measureStatus MeasureCode
    dsimp only
    split_ifs <;> rfl

theorem ServiceStatus.worse_code (a b : ServiceStatus) : (a.worse b).code = max a.code b.code := by
  unfold ServiceStatus.worse
  split_ifs <;> omega

theorem itemStatus_code (s : State) (i : ServiceItem) : (itemStatus s i).code = StatusCode s i := by
  rw [itemStatus, ServiceStatus.worse_code, measureStatus_code, measureStatus_code, remainingKm_eq, remainingDays_eq]
  rfl

/-! ## Bytes (R194) -/

theorem ofNat8_congr {a b : Nat} (h : a % 256 = b % 256) : BitVec.ofNat 8 a = BitVec.ofNat 8 b := by
  apply BitVec.eq_of_toNat_eq
  simpa using h

theorem signedBytes_two (v : Int) :
    signedBytes 2 v = [BitVec.ofNat 8 ((v / 256) % 256).toNat, BitVec.ofNat 8 (v % 256).toNat] := by
  have hhigh : BitVec.ofNat 8 ((v % 65536).toNat / 256) = BitVec.ofNat 8 ((v / 256) % 256).toNat :=
    ofNat8_congr (by omega)
  have hlow : BitVec.ofNat 8 (v % 65536).toNat = BitVec.ofNat 8 (v % 256).toNat := ofNat8_congr (by omega)
  simp [signedBytes, beBytes, hhigh, hlow]

theorem signedBytes_three (v : Int) :
    signedBytes 3 v =
      [BitVec.ofNat 8 ((v / 65536) % 256).toNat, BitVec.ofNat 8 ((v / 256) % 256).toNat, BitVec.ofNat 8 (v % 256).toNat] := by
  have htop : BitVec.ofNat 8 ((v % 16777216).toNat / 65536) = BitVec.ofNat 8 ((v / 65536) % 256).toNat :=
    ofNat8_congr (by omega)
  have hhigh : BitVec.ofNat 8 ((v % 16777216).toNat / 256) = BitVec.ofNat 8 ((v / 256) % 256).toNat :=
    ofNat8_congr (by omega)
  have hlow : BitVec.ofNat 8 (v % 16777216).toNat = BitVec.ofNat 8 (v % 256).toNat := ofNat8_congr (by omega)
  simp [signedBytes, beBytes, htop, hhigh, hlow]

theorem signedBytes_one (v : Int) : signedBytes 1 v = [BitVec.ofNat 8 (v % 256).toNat] := by
  simp [signedBytes, beBytes]

theorem beBytes_two (v : Nat) : beBytes 2 v = signedBytes 2 v := by
  rw [signedBytes_two]
  have hhigh : BitVec.ofNat 8 (v / 256) = BitVec.ofNat 8 (((v : Int) / 256) % 256).toNat := ofNat8_congr (by omega)
  have hlow : BitVec.ofNat 8 v = BitVec.ofNat 8 ((v : Int) % 256).toNat := ofNat8_congr (by omega)
  simp [beBytes, hhigh, hlow]

theorem beBytes_three (v : Nat) : beBytes 3 v = signedBytes 3 v := by
  rw [signedBytes_three]
  have htop : BitVec.ofNat 8 (v / 65536) = BitVec.ofNat 8 (((v : Int) / 65536) % 256).toNat := ofNat8_congr (by omega)
  have hhigh : BitVec.ofNat 8 (v / 256) = BitVec.ofNat 8 (((v : Int) / 256) % 256).toNat := ofNat8_congr (by omega)
  have hlow : BitVec.ofNat 8 v = BitVec.ofNat 8 ((v : Int) % 256).toNat := ofNat8_congr (by omega)
  simp [beBytes, htop, hhigh, hlow]

theorem byteAt_singleton (b : Byte) : byteAt [b] 0 = b := rfl

theorem packFlags_two (a b : Bool) : packFlags [a, b] = (if a then 2 ^ 0 else 0) + (if b then 2 ^ 1 else 0) := by
  cases a <;> cases b <;> rfl

theorem packFlags_three (a b c : Bool) :
    packFlags [a, b, c] = (if a then 2 ^ 0 else 0) + (if b then 2 ^ 1 else 0) + (if c then 2 ^ 2 else 0) := by
  cases a <;> cases b <;> cases c <;> rfl

theorem packFlags_cons (a : Bool) (l : List Bool) : packFlags (a :: l) = (if a then 1 else 0) + 2 * packFlags l := rfl

theorem toList_six {α : Type} (v : Vector α 6) : v.toList = [v[0], v[1], v[2], v[3], v[4], v[5]] := by
  apply List.ext_getElem
  · simp
  · intro k h _
    rw [Vector.getElem_toList]
    have hk : k < 6 := by simpa using h
    interval_cases k <;> rfl

theorem toList_five {α : Type} (v : Vector α 5) : v.toList = [v[0], v[1], v[2], v[3], v[4]] := by
  apply List.ext_getElem
  · simp
  · intro k h _
    rw [Vector.getElem_toList]
    have hk : k < 5 := by simpa using h
    interval_cases k <;> rfl

theorem sensePage_clock (s : State) :
    sensePage s 3 =
      signedBytes 1 s.clock.trim ++ (s.clock.pendingTrim.map (signedBytes 1)).getD [0x80]
        ++ [BitVec.ofNat 8 (packFlags ((s.input.filters.map (fun f => f.level == .active)).toList))] := by
  cases h : s.clock.pendingTrim <;> (simp only [sensePage, h]; rfl)

theorem packFlags_five (a b c d e : Bool) :
    packFlags [a, b, c, d, e] =
      (if a then 2 ^ 0 else 0) + (if b then 2 ^ 1 else 0) + (if c then 2 ^ 2 else 0) + (if d then 2 ^ 3 else 0)
        + (if e then 2 ^ 4 else 0) := by
  rw [packFlags_cons, packFlags_cons, packFlags_three]
  cases a <;> cases b <;> simp <;> split_ifs <;> rfl

theorem signal_ofNat (g : Signal) : Signal.ofNat? g.ix.val = some g := by cases g <;> rfl

theorem serviceItem_ofNat (i : ServiceItem) : ServiceItem.ofNat? i.ix.val = some i := by cases i <;> rfl

theorem serviceData_status (s : State) (i : ServiceItem) :
    serviceData s i.ix.val =
      some ([countByte (itemStatus s i).code, BitVec.ofNat 8 (packFlags [(s.item i).dirty, (s.item i).awaiting])]
        ++ remainingKmBytes (remainingKm s i) ++ remainingDaysBytes (remainingDays s i)) := by
  have h : i.ix.val < 0x10 := by omega
  rw [serviceData, if_pos h, serviceItem_ofNat]
  rfl

theorem serviceData_record (s : State) (i : ServiceItem) :
    serviceData s (0x10 + i.ix.val) = some (recordBody (s.item i).record) := by
  rw [serviceData, if_neg (by omega), Nat.add_sub_cancel_left, serviceItem_ofNat]
  rfl

/-- Six of the counts of the warnings (R134). -/
theorem slice_counts (counts : Vector Nat 24) (k : Fin 4) :
    slice (counts.toList.map countByte) (6 * k.val) 6 =
      (List.range 6).map (fun j => BitVec.ofNat 8 (counts.toList.getD (6 * k.val + j) 0)) := by
  apply List.ext_getElem
  · simp [slice]
    omega
  · intro j h _
    have hj : j < 6 := by
      simp [slice] at h
      omega
    have hlen : 6 * k.val + j < 24 := by omega
    simp [slice, countByte, List.getD_eq_getElem?_getD, hlen]

end Sys2Proof.Machine
end

section
/-! CLAIM. The reading and the clearing requests (R188, R189, R194). -/

namespace Sys2Proof.Machine

open Sys2Proof

variable {s : State} {f : Frame} {rest : List Frame} {c : Instr} {id : Byte}

/-- A request that is answered with its data changes nothing else (R187). -/
theorem answers_data {v : Service} {params data : List Byte} (hexec : exec c s = done (dispatch id v.take s))
    (hserved : Served s f) (hroom : HasRoom s f) (hlen : params.length = v.length)
    (hrange : v.inRange params (popped rest s) = true) (hstate : v.condition (popped rest s) = none)
    (hserve : f.data = params → v.serve f (popped rest s) = answer data f (popped rest s)) (h : HandsOn s id f rest)
    (hdata : f.data = params) :
    ∃ t, Answers c s t ∧ Touches [.link, .msc, .seq] s t ∧ t.link.ring = rest ∧ Queued t (responseTo s f (0x00 :: data)) := by
  have hexec' := exec_served hexec h hserved (hdata ▸ hlen) (hdata ▸ hrange) hstate
  rw [hserve hdata] at hexec'
  obtain ⟨hanswers, htouch, hqueued⟩ :=
    answered (bs := [.link, .msc, .seq]) (ids := []) (n := 0) hexec' ((popped_touches rest s).mono (by simp)) (by decide)
      (OffersIds.of_txQueue rfl) (by simp) hroom (by simp)
  refine ⟨_, hanswers, htouch, ?_, hqueued⟩
  rw [(refresh_frame _).2.1, ring_respond]
  rfl

theorem readSense_answers {p : Byte} {data : List Byte} (hserved : Served s f) (hroom : HasRoom s f) (hp : p.toNat ≤ 3)
    (hdata : sensePage s p.toNat = data) (h : HandsOn s 0x70 f rest) (hparam : f.data = [p]) :
    ∃ t, Answers .readSense s t ∧ Touches [.link, .msc, .seq] s t ∧ t.link.ring = rest ∧
      Queued t (responseTo s f (0x00 :: data)) := by
  refine answers_data (v := readSense) (params := [p]) rfl hserved hroom rfl (decide_eq_true hp)
    rfl (fun hf => ?_) h hparam
  rw [← hdata]
  simp only [readSense, hf, byteAt_singleton]
  rfl

theorem readLog_answers {p : Byte} {data : List Byte} (hserved : Served s f) (hroom : HasRoom s f)
    (hdata : logData s.wnu p.toNat = some data) (h : HandsOn s 0x72 f rest) (hparam : f.data = [p]) :
    ∃ t, Answers .readLog s t ∧ Touches [.link, .msc, .seq] s t ∧ t.link.ring = rest ∧
      Queued t (responseTo s f (0x00 :: data)) := by
  have hdata' : logData (popped rest s).wnu p.toNat = some data := hdata
  refine answers_data (v := readLog) (params := [p]) rfl hserved hroom rfl (by simp [readLog, byteAt_singleton, hdata'])
    rfl (fun hf => ?_) h hparam
  simp [readLog, hf, byteAt_singleton, hdata']

theorem readSignal_answers {p : Byte} {data : List Byte} {g : Signal} (hserved : Served s f) (hroom : HasRoom s f)
    (hp : p.toNat = g.ix.val) (hdata : signalData (s.signal g) = data) (h : HandsOn s 0x74 f rest) (hparam : f.data = [p]) :
    ∃ t, Answers .readSignal s t ∧ Touches [.link, .msc, .seq] s t ∧ t.link.ring = rest ∧
      Queued t (responseTo s f (0x00 :: data)) := by
  refine answers_data (v := readSignal) (params := [p]) rfl hserved hroom rfl
    (by simp [readSignal, byteAt_singleton, hp]; omega) rfl (fun hf => ?_) h hparam
  rw [← hdata]
  simp only [readSignal, hf, byteAt_singleton, hp, signal_ofNat]
  rfl

theorem readService_answers {p : Byte} {data : List Byte} (hserved : Served s f) (hroom : HasRoom s f)
    (hdata : serviceData s p.toNat = some data) (h : HandsOn s 0x75 f rest) (hparam : f.data = [p]) :
    ∃ t, Answers .readService s t ∧ Touches [.link, .msc, .seq] s t ∧ t.link.ring = rest ∧
      Queued t (responseTo s f (0x00 :: data)) := by
  have hdata' : serviceData (popped rest s) p.toNat = some data := hdata
  refine answers_data (v := readService) (params := [p]) rfl hserved hroom rfl
    (by simp [readService, byteAt_singleton, hdata']) rfl (fun hf => ?_) h hparam
  simp [readService, hf, byteAt_singleton, hdata']

/-- A response that the queue has room for displaces nothing (R14, R15). -/
theorem counters_respond {i : Byte} {requester : Nat} {data : List Byte} (hlen : s.link.txQueue.length < 8)
    (hnone : ∀ e ∈ s.link.txQueue, e.frame.id ≠ i) : (respond i requester data s).link.counters = s.link.counters := by
  rw [respond, offer_link, txOffer_of_room (fun e he => ?_) hlen]
  · rfl
  · exact Bool.eq_false_iff.mpr fun hkey => hnone e he (Frame.sameKey_iff.mp hkey).1

theorem touches_clearSenseRecord (rest : List Frame) (s : State) :
    Touches [.link, .msc, .rqs, .seq] s (clearSenseRecord (popped rest s)) := by
  intro b hb
  cases b
  case link | msc | rqs | seq => simp at hb
  all_goals rfl

theorem touches_clearLogRecord (rest : List Frame) (s : State) :
    Touches [.link, .wnu, .msc, .seq] s (clearLogRecord (popped rest s)) := by
  intro b hb
  cases b
  case link | wnu | msc | seq => simp at hb
  all_goals rfl

/-- Settles O58: each request is served with the bytes of what it reads, or clears what it names. -/
theorem readAndClearRequests : Obligations.ReadAndClearRequests := by
  unfold Obligations.ReadAndClearRequests
  intro s f rest hserved hroom n bit gauge on two three answers
  have hflag (b : Bool) : flagByte b = if b then 0x01 else 0x00 := rfl
  have hgauge (g : GaugeId) : ((s.gauge g).state).code = gauge g := by
    simp only [gauge]
    cases (s.gauge g).state <;> rfl
  have hon (l : SwitchLine) : ((s.filter l).level == .active) = on l := by
    simp only [on]
    cases (s.filter l).level <;> rfl
  refine ⟨readSense_answers hserved hroom (by decide) ?_, fun code hcode => readSense_answers hserved hroom (by decide) ?_,
    readSense_answers hserved hroom (by decide) ?_, readSense_answers hserved hroom (by decide) ?_,
    fun i e hi he => ⟨readLog_answers hserved hroom ?_, readLog_answers hserved hroom ?_⟩, readLog_answers hserved hroom ?_,
    fun i => readLog_answers hserved hroom ?_, fun g => readSignal_answers (g := g) hserved hroom ?_ ?_,
    fun i => ⟨fun days hnone hsome => readService_answers hserved hroom ?_, readService_answers hserved hroom ?_⟩,
    fun h hdata => ?_, fun h hdata => ?_⟩
  · change sensePage s 0 = _
    rw [sensePage, hflag, hflag]
    cases s.power.kind <;> cases s.power.configResult <;> cases s.rqs.writeStatus <;> rfl
  · change sensePage s 1 = _
    rw [sensePage]
    rcases hcode with ⟨hpower, rfl⟩ | ⟨hpower, rfl⟩ <;> rw [hpower] <;> rfl
  · change sensePage s 2 = _
    rw [sensePage, packFlags_three, toList_six]
    simp only [Vector.getElem_map, ← hgauge]
    rfl
  · change sensePage s 3 = _
    rw [sensePage_clock, toList_five, signedBytes_one, packFlags_five]
    simp only [Vector.getElem_map, ← hon]
    rcases s.clock.pendingTrim with _ | x
    · rfl
    · rw [Option.map_some, signedBytes_one]
      rfl
  · have hp : (n i).toNat = i := by simp [n]; omega
    rw [hp, logData, if_pos (by omega), he, Option.map_some]
    rcases e.stamp with _ | x
    · rfl
    · simp only [stampBytes, beBytes_two, beBytes_three, signedBytes_two, signedBytes_three]
      rfl
  · have hp : (n (0x10 + i)).toNat = 0x10 + i := by simp [n]; omega
    rw [hp, logData, if_neg (by omega), if_pos (by omega), Nat.add_sub_cancel_left, he, Option.map_some]
    rcases e.km with _ | km
    · rfl
    · simp only [beBytes_three, signedBytes_three]
      rfl
  · rfl
  · have hp : (n (0x21 + i.val)).toNat = 0x21 + i.val := by simp [n]; omega
    rw [hp, logData, if_neg (by omega), if_neg (by omega), if_neg (by omega), if_pos (by omega), Nat.add_sub_cancel_left,
      slice_counts]
  · simp [n]
    omega
  · rw [signalData]
    cases (s.signal g).state <;> rcases (s.signal g).value with _ | v <;> simp only [signedBytes_two] <;> rfl
  · have hp : (n i.ix.val).toNat = i.ix.val := by simp [n]; omega
    rw [hp, serviceData_status, itemStatus_code, packFlags_two, remainingKm_eq, remainingDays_eq]
    have hkm : remainingKmBytes (KmLeft s i) =
        (match KmLeft s i with
          | none => [0x80, 0x00, 0x00]
          | some v => three (max (-8388607) v)) := by
      cases KmLeft s i with
      | none => rfl
      | some v => exact signedBytes_three _
    have hdays : remainingDaysBytes (DaysLeft s i) = days := by
      cases hleft : DaysLeft s i with
      | none => exact (hnone hleft).symm
      | some v =>
        obtain ⟨hlo, hhi, hbytes⟩ := hsome v hleft
        rw [hbytes, remainingDaysBytes, if_pos ⟨hlo, hhi⟩]
        exact signedBytes_two v
    rw [hkm, hdays]
    rfl
  · have hp : (n (0x10 + i.ix.val)).toNat = 0x10 + i.ix.val := by simp [n]; omega
    rw [hp, serviceData_record, recordBody]
    rcases (s.item i).record.dueDay with _ | d <;>
      simp only [beBytes_two, beBytes_three, signedBytes_two, signedBytes_three] <;> rfl
  · have hexec := exec_served (c := .clearSense) (v := clearSense) rfl h hserved (by rw [hdata]; rfl) rfl rfl
    obtain ⟨hanswers, htouch, hqueued⟩ :=
      answered (u := clearSenseRecord (popped rest s)) (bs := [.link, .msc, .rqs, .seq]) (ids := []) (n := 0) hexec
        (touches_clearSenseRecord rest s) (by decide) (OffersIds.of_txQueue rfl) (by simp) hroom (by simp)
    refine ⟨_, hanswers, htouch, ?_, ?_, ?_, hqueued⟩
    · rw [(refresh_frame _).2.1, ring_respond]
      rfl
    · simp [respond, clearSenseRecord, popped]
    · rw [(refresh_frame _).2.1, counters_respond (s := clearSenseRecord (popped rest s))
        (Nat.lt_of_le_of_lt hroom.1 (by decide)) hroom.2]
      rfl
  · have hexec := exec_served (c := .clearLog) (v := clearLog) rfl h hserved (by rw [hdata]; rfl) rfl rfl
    obtain ⟨hanswers, htouch, hqueued⟩ :=
      answered (u := clearLogRecord (popped rest s)) (bs := [.link, .wnu, .msc, .seq]) (ids := []) (n := 0) hexec
        (touches_clearLogRecord rest s) (by decide) (OffersIds.of_txQueue rfl) (by simp) hroom (by simp)
    refine ⟨_, hanswers, htouch, ?_, ?_, hqueued⟩
    · rw [(refresh_frame _).2.1, ring_respond]
      rfl
    · simp [respond, clearLogRecord, popped]

end Sys2Proof.Machine
end

section
/-! SUPPORT. Gauges that take a new record one after another. -/

namespace Sys2Proof.Machine

open Sys2Proof

variable {s t : State}

theorem State.setGauge_gauge (s : State) (g : GaugeId) : s.setGauge g (s.gauge g) = s := by
  unfold State.setGauge State.gauge
  simp [State.setGdu]

theorem State.setGauge_parkInForce (s : State) (g : GaugeId) (r : Gauge) :
    (s.setGauge g r).gdu.parkInForce = s.gdu.parkInForce := rfl

theorem touches_setGauge (s : State) (g : GaugeId) (r : Gauge) : Touches [.gdu] s (s.setGauge g r) := by
  intro b hb
  cases b
  case gdu => simp at hb
  all_goals rfl

/-- Gauges that each take a record of their own, which reads no other gauge. -/
theorem foldl_setGauge {F : State → GaugeId → Gauge} (hF : ∀ s g h r, h ≠ g → F (s.setGauge g r) h = F s h)
    {l : List GaugeId} (hl : l.Nodup) (s : State) :
    Touches [.gdu] s (l.foldl (fun x g => x.setGauge g (F x g)) s) ∧
      (l.foldl (fun x g => x.setGauge g (F x g)) s).gdu.parkInForce = s.gdu.parkInForce ∧
      ∀ h, (l.foldl (fun x g => x.setGauge g (F x g)) s).gauge h = if h ∈ l then F s h else s.gauge h := by
  induction l generalizing s with
  | nil => exact ⟨Touches.refl _ s, rfl, fun h => by simp⟩
  | cons g gs ih =>
    obtain ⟨hg, hgs⟩ := List.nodup_cons.mp hl
    obtain ⟨htouch, hpark, hgauge⟩ := ih hgs (s.setGauge g (F s g))
    refine ⟨(touches_setGauge s g (F s g)).trans htouch, hpark, fun h => ?_⟩
    rw [List.foldl_cons, hgauge]
    by_cases hh : h = g
    · subst hh
      simp [hg]
    · simp [hh, hF _ _ _ _ hh, State.gauge_setGauge_other _ _ hh]

theorem mem_gaugeIds (g : GaugeId) : g ∈ GaugeId.all := by cases g <;> decide

/-- All six gauges take a record of their own. -/
theorem foldl_setGauge_all {F : State → GaugeId → Gauge} (hF : ∀ s g h r, h ≠ g → F (s.setGauge g r) h = F s h) (s : State) :
    Touches [.gdu] s (GaugeId.all.foldl (fun x g => x.setGauge g (F x g)) s) ∧
      (GaugeId.all.foldl (fun x g => x.setGauge g (F x g)) s).gdu.parkInForce = s.gdu.parkInForce ∧
      ∀ h, (GaugeId.all.foldl (fun x g => x.setGauge g (F x g)) s).gauge h = F s h := by
  obtain ⟨htouch, hpark, hgauge⟩ := foldl_setGauge hF (l := GaugeId.all) (by decide) s
  exact ⟨htouch, hpark, fun h => by rw [hgauge, if_pos (mem_gaugeIds h)]⟩

/-! ## Homing from the entry (R70 to R72) -/

/-- A gauge as it enters HOMING and samples its contact. -/
def homed (sweepMark testMark : Bool) (contacts : BitVec 6) (s : State) (g : GaugeId) : Gauge :=
  ((s.gauge g).enterHoming (s.span g) sweepMark testMark).attemptBegins (s.span g) s.settings.deadband s.gdu.parkInForce
    s.ignitionOn (contacts.getLsbD g.ix.val)

theorem homeGauge_eq (sweepMark testMark : Bool) (contacts : BitVec 6) (s : State) (g : GaugeId) :
    homeGauge sweepMark testMark contacts s g = s.setGauge g (homed sweepMark testMark contacts s g) := rfl

theorem homed_setGauge (sweepMark testMark : Bool) (contacts : BitVec 6) (s : State) {g h : GaugeId} (r : Gauge) (hne : h ≠ g) :
    homed sweepMark testMark contacts (s.setGauge g r) h = homed sweepMark testMark contacts s h := by
  unfold homed
  rw [State.gauge_setGauge_other _ _ hne]
  rfl

/-- With the contact open the first attempt goes on (R71). -/
theorem homed_open {sweepMark testMark : Bool} {contacts : BitVec 6} {s : State} {g : GaugeId}
    (h : contacts.getLsbD g.ix.val = false) :
    homed sweepMark testMark contacts s g = (s.gauge g).enterHoming (s.span g) sweepMark testMark := by
  unfold homed Gauge.attemptBegins
  rw [h]
  rfl

/-- With the contact closed the homing ends at once (R71, R72). -/
theorem homed_closed {sweepMark testMark : Bool} {contacts : BitVec 6} {s : State} {g : GaugeId}
    (h : contacts.getLsbD g.ix.val = true) :
    homed sweepMark testMark contacts s g =
      ((s.gauge g).enterHoming (s.span g) sweepMark testMark).close (s.span g) s.settings.deadband s.gdu.parkInForce
        s.ignitionOn := by
  unfold homed Gauge.attemptBegins
  rw [h]
  rfl

/-- A closed contact ends the homing at 0: PARKED while a park is in force, a sweep by the marks and the ignition, and
TRACKING otherwise (R72). -/
theorem Gauge.close_spec (r : Gauge) {span : Nat} (hspan : 0 < span) (deadband : Nat) (parkInForce ignition : Bool) :
    let x := r.close span deadband parkInForce ignition
    let sweeps : Prop := (r.sweepMark = true ∧ ignition = true) ∨ r.testMark = true
    x.position = 0 ∧ x.lift = none ∧ x.testMark = false ∧
      (parkInForce = true → x.state = .parked ∧ x.motion = .atRest) ∧
      (parkInForce = false → sweeps →
        x.state = .sweep ∧ x.phase = .toSpan ∧ x.motion = .movingUp ∧ x.target = r.target) ∧
      (parkInForce = false → ¬sweeps →
        x.state = .tracking ∧ x.target = r.target ∧
          x.motion = if r.target ≤ deadband then .atRest else .movingUp) := by
  intro x sweeps
  cases parkInForce with
  | true => simp [x, Gauge.close, Gauge.park, Gauge.stop]
  | false =>
    by_cases hs : sweeps
    · have hx : x = { r with position := 0, lift := none, testMark := false, state := .sweep, phase := .toSpan, motion := .movingUp, ramp := 0 } := by
        have : x = Gauge.beginSweep { r.stop with position := 0, lift := none, testMark := false } span := if_pos hs
        rw [this]
        simp [Gauge.beginSweep, Gauge.atGoal, Gauge.goal, Gauge.depart, Gauge.stop, hspan, hspan.ne]
      simp [hx, hs]
    · have hx : x = Gauge.examine { r.stop with position := 0, lift := none, testMark := false, state := .tracking } deadband := if_neg hs
      rw [hx]
      unfold Gauge.examine
      by_cases hd : r.target ≤ deadband
      · rw [if_pos (by simpa [Gauge.gap, Gauge.stop] using hd)]
        simp [Gauge.stop, hs, hd]
      · rw [if_neg (by simpa [Gauge.gap, Gauge.stop] using hd)]
        have : 0 < r.target := by omega
        simp [Gauge.stop, Gauge.depart, hs, hd, this]

theorem Gauge.close_position (r : Gauge) (span deadband : Nat) (parkInForce ignition : Bool) :
    (r.close span deadband parkInForce ignition).position = 0 ∧
      (r.close span deadband parkInForce ignition).state ∈ [GaugeState.parked, .sweep, .tracking] := by
  unfold Gauge.close Gauge.beginSweep Gauge.atGoal Gauge.examine
  dsimp only
  split_ifs <;> simp [Gauge.park, Gauge.stop, Gauge.depart]

/-! ## The gauge test (R80) -/

/-- A gauge as a GAUGE TEST leaves it. -/
def tested (contacts : BitVec 6) (s : State) (g : GaugeId) : Gauge :=
  let r := s.gauge g
  match r.state with
  | .tracking =>
    let h := { r with state := .sweep, phase := .toSpan }
    if r.motion = .atRest then h.atGoal (s.span g) s.settings.deadband else h
  | .homing => { r with testMark := true }
  | .faulted => homed s.settings.sweepEnable true contacts s g
  | _ => r

theorem testGauge_eq (contacts : BitVec 6) (s : State) (g : GaugeId) :
    testGauge contacts s g = s.setGauge g (tested contacts s g) := by
  unfold testGauge tested
  cases h : (s.gauge g).state <;> simp only [h, State.setGauge_gauge, homeGauge_eq]

theorem tested_setGauge (contacts : BitVec 6) (s : State) (g h : GaugeId) (r : Gauge) (hne : h ≠ g) :
    tested contacts (s.setGauge g r) h = tested contacts s h := by
  unfold tested
  rw [State.gauge_setGauge_other _ _ hne, homed_setGauge _ _ _ _ _ hne]
  rfl

theorem testGauges_eq (contacts : BitVec 6) (s : State) :
    testGauges contacts s =
      evalWarnings [.gaugeFault] (GaugeId.all.foldl (fun x g => x.setGauge g (tested contacts x g)) s) := by
  unfold testGauges
  rw [show testGauge contacts = fun x g => x.setGauge g (tested contacts x g) from
    funext fun x => funext fun g => testGauge_eq contacts x g]

theorem tested_of_homing {contacts : BitVec 6} {g : GaugeId} (h : (s.gauge g).state = .homing) :
    tested contacts s g = { s.gauge g with testMark := true } := by simp only [tested, h]

theorem tested_of_faulted {contacts : BitVec 6} {g : GaugeId} (h : (s.gauge g).state = .faulted) :
    tested contacts s g = homed s.settings.sweepEnable true contacts s g := by simp only [tested, h]

theorem tested_of_other {contacts : BitVec 6} {g : GaugeId} (h : (s.gauge g).state ∉ [GaugeState.tracking, .homing, .faulted]) :
    tested contacts s g = s.gauge g := by
  cases hs : (s.gauge g).state with
  | tracking | homing | faulted => simp [hs] at h
  | unhomed | sweep | parking | parked => simp only [tested, hs]

theorem tested_of_tracking {contacts : BitVec 6} {g : GaugeId} (h : (s.gauge g).state = .tracking) :
    (tested contacts s g).state = .sweep ∧
      ((tested contacts s g).phase = .toSpan ∨ (s.gauge g).position = s.span g) := by
  simp only [tested, h]
  split_ifs with hrest
  · by_cases hspan : (s.gauge g).position = s.span g
    · simp [Gauge.atGoal, Gauge.goal, hspan, Gauge.stop]
    · simp [Gauge.atGoal, Gauge.goal, hspan, Gauge.depart]
  · exact ⟨rfl, .inl rfl⟩

end Sys2Proof.Machine
end

section
/-! CLAIM. The workshop requests that act: WRITE CONFIG, RESET SERVICE and the two tests (R80, R150, R191, R192). -/

namespace Sys2Proof.Machine

open Sys2Proof

variable {s t : State} {f : Frame} {rest : List Frame}

/-! ## The configuration handed over (R111, R191) -/

theorem touches_testGauges (contacts : BitVec 6) (s : State) :
    Touches [.link, .gdu, .wnu, .seq, .draw] s (testGauges contacts s) := by
  have hgauges := (foldl_setGauge_all (F := tested contacts) (tested_setGauge contacts) s).1
  rw [testGauges_eq]
  exact (hgauges.mono (by simp)).trans ((touches_evalWarnings _ _).mono (by simp))

theorem offersIds_testGauges (contacts : BitVec 6) (s : State) : OffersIds [0x62] 1 s (testGauges contacts s) := by
  have hlink := (foldl_setGauge_all (F := tested contacts) (tested_setGauge contacts) s).1 .link (by simp)
  rw [testGauges_eq]
  exact (OffersIds.of_txQueue (congrArg Link.txQueue hlink)).trans (offersIds_evalWarnings _ _)

theorem gauge_testGauges (contacts : BitVec 6) (s : State) :
    (testGauges contacts s).gdu.parkInForce = s.gdu.parkInForce ∧ ∀ g, (testGauges contacts s).gauge g = tested contacts s g := by
  obtain ⟨-, hpark, hgauge⟩ := foldl_setGauge_all (F := tested contacts) (tested_setGauge contacts) s
  have hgdu := touches_evalWarnings [.gaugeFault] (GaugeId.all.foldl (fun x g => x.setGauge g (tested contacts x g)) s)
    .gdu (by simp)
  rw [testGauges_eq]
  refine ⟨(congrArg GaugeDrive.parkInForce hgdu).trans hpark, fun g => ?_⟩
  rw [← hgauge g]
  exact congrArg (fun d => d.gauges[g.ix]) hgdu

theorem touches_writeStaging (o : Nat) (bytes : List Byte) (s : State) :
    Touches [.odo, .stc, .rqs] s (writeStaging o bytes s) := by
  intro b hb
  unfold writeStaging
  cases b
  case odo | stc | rqs => simp at hb
  all_goals
    dsimp only
    split_ifs <;> simp [Agree, handConfiguration]

theorem writeStaging_rqs (o : Nat) (bytes : List Byte) (s : State) :
    (writeStaging o bytes s).rqs =
      { s.rqs with
        staging := stage s.rqs.staging o bytes
        writeStatus := if o = 58 then .queued else s.rqs.writeStatus } := by
  unfold writeStaging
  dsimp only
  split_ifs <;> simp [handConfiguration]

theorem writeStaging_of_ne {o : Nat} (h : o ≠ 58) (bytes : List Byte) (s : State) :
    (writeStaging o bytes s).stc = s.stc ∧ (writeStaging o bytes s).odo = s.odo := by
  unfold writeStaging
  dsimp only
  rw [if_neg h]
  exact ⟨rfl, rfl⟩

/-- The state with the staging image written, before its job is handed over. -/
def staged (o : Nat) (bytes : List Byte) (s : State) : State :=
  (s.setRqs { s.rqs with staging := stage s.rqs.staging o bytes, writeStatus := .queued }).setStc
    { s.stc with waitConfiguration := true }

theorem writeStaging_last (bytes : List Byte) (s : State) : writeStaging 58 bytes s = stcBegin (staged 58 bytes s) := rfl

theorem writeStaging_busy {bytes : List Byte} (h : s.stc.active.isSome = true) :
    (writeStaging 58 bytes s).stc = { s.stc with waitConfiguration := true } ∧ (writeStaging 58 bytes s).odo = s.odo := by
  have hbusy : ((staged 58 bytes s).stc.portOpen && (staged 58 bytes s).stc.active.isNone) = false := by
    obtain ⟨a, ha⟩ := Option.isSome_iff_exists.mp h
    simp [staged, ha]
  rw [writeStaging_last, stcBegin_of_busy hbusy]
  exact ⟨rfl, rfl⟩

theorem writeStaging_free {bytes : List Byte} (hopen : s.stc.portOpen = true) (hactive : s.stc.active = none)
    (hodometer : s.stc.waitOdometer = none) (hservice : s.stc.waitService = []) :
    (writeStaging 58 bytes s).stc =
      { s.stc with
        waitConfiguration := false
        active := some { job := .configuration (stage s.rqs.staging 58 bytes), unit := 0, repeated := false } } := by
  rw [writeStaging_last]
  exact (storeBegins_stcBegin (s := staged 58 bytes s) hopen hactive).2.2.1 hodometer hservice rfl

/-! ## A service item reset (R150) -/

theorem touches_serviceReset (i : ServiceItem) (km : Nat) (s : State) :
    Touches [.odo, .stc, .sru] s (serviceReset i km s) := by
  intro b hb
  cases b
  case odo | stc | sru => simp at hb
  all_goals simp [Agree]

theorem serviceReset_spec (i : ServiceItem) (km : Nat) (s : State) :
    (serviceReset i km s).item i = { record := ResetRecord s i km, awaiting := false, dirty := true } ∧
      WithStore (serviceReset i km s) i ∧ (∀ j, j ≠ i → (serviceReset i km s).item j = s.item j) ∧
      ((serviceReset i km s).sru.oilReset = true ↔
        s.sru.oilReset = true ∨ (i = .engineOil ∧ s.sru.drive.isSome = true)) := by
  set marked := markOilReset i (resetItem i km s)
  have hitems : marked.sru.items = (resetItem i km s).sru.items := by
    simp only [marked, markOilReset]
    split_ifs <;> rfl
  have hmarked (j : ServiceItem) : marked.item j = (resetItem i km s).item j := by rw [State.item, State.item, hitems]
  have hmade : marked.item i = { record := ResetRecord s i km, awaiting := false, dirty := true } := by
    rw [hmarked, resetItem, State.item_setItem_same]
    rfl
  have hsru : (serviceReset i km s).sru = marked.sru := (handService_frame (some i) marked).2.2.2.2.2.2.2.1
  have hitem (j : ServiceItem) : (serviceReset i km s).item j = marked.item j := by rw [State.item, State.item, hsru]
  refine ⟨(hitem i).trans hmade, withStore_handService (some i) (by rw [hmade]), fun j hj => ?_, ?_⟩
  · rw [hitem, hmarked, resetItem, State.item_setItem_other _ _ hj]
  · rw [hsru]
    simp only [marked, markOilReset]
    split_ifs with h
    · simpa [resetItem, State.setItem] using Or.inr h
    · have : ¬(i = .engineOil ∧ s.sru.drive.isSome = true) := h
      simp only [this, or_false]
      rfl

theorem beginReset_none {i : ServiceItem} (h : s.odo.handedKm = none) :
    beginReset i s = s.setSru { s.sru with heldReset := some i } := by simp only [beginReset, h]

theorem beginReset_some {i : ServiceItem} {km : Nat} (h : s.odo.handedKm = some km) :
    beginReset i s = serviceReset i km s := by simp only [beginReset, h]

theorem touches_beginReset (i : ServiceItem) (s : State) : Touches [.odo, .stc, .sru] s (beginReset i s) := by
  rcases hkm : s.odo.handedKm with _ | km
  · rw [beginReset_none hkm]
    intro b hb
    cases b
    case odo | stc | sru => simp at hb
    all_goals rfl
  · rw [beginReset_some hkm]
    exact touches_serviceReset _ _ _

theorem pattern_ofNat_range {n : Nat} {p : Pattern} (h : Pattern.ofNat? n = some p) : 1 ≤ n ∧ n ≤ 7 := by
  unfold Pattern.ofNat? at h
  split at h <;> simp at h ⊢

theorem touches_testChime (p : Pattern) (s : State) : Touches [.wnu, .seq] s (testChime p s) := by
  intro b hb
  cases b
  case wnu | seq => simp at hb
  all_goals rfl

/-- The tested pattern sounds on an IDLE tone (R138, R192). -/
theorem testChime_wnu (p : Pattern) (s : State) :
    (testChime p s).wnu = { s.wnu with tone := (testChime p s).wnu.tone, chimes := (testChime p s).wnu.chimes } ∧
      (s.wnu.tone = .idle → s.wnu.chimes = [] →
        (testChime p s).wnu.tone = .sounding { source := .station 15, pattern := p, cls := 1, entered := s.moment }) := by
  refine ⟨giveChime_records s.wnu _, fun htone hchimes => ?_⟩
  have hok : s.wnu.ChimeOk := by
    unfold WarningUnit.ChimeOk
    rw [htone, hchimes]
    exact ⟨by simp [ChimesOk], rfl⟩
  obtain ⟨-, q, -, hidle, -⟩ := chimeTaken_giveChime hok { source := .station 15, pattern := p, cls := 1, entered := s.moment }
  exact (hidle htone).1

/-- Settles O60: each request acts through one operation, whose rules say what becomes of the store, the item, the gauges
and the tone. -/
theorem workshopActions : Obligations.WorkshopActions := by
  unfold Obligations.WorkshopActions
  intro s f rest hserved hroom
  have hpopped := popped_touches rest s
  refine ⟨fun o b0 b1 b2 b3 h hdata ho hstaging => ?config, fun b i h hdata hi => ?reset, fun k h hdata hrun => ?gauges,
    fun b p h hdata hp hawake hphase => ?chime⟩
  case config =>
    have hid : f.id = 0x7A := h.2.2
    have hexec := exec_served (c := .writeConfig) (v := writeConfig) rfl h hserved (by rw [hdata]; rfl)
      (by simp [writeConfig, hdata, byteAt, ho]) rfl
    have hserve : writeConfig.serve f (popped rest s) =
        respond f.id f.source [0x00, byteSum (writeStaging o.toNat [b0, b1, b2, b3] (popped rest s)).rqs.staging]
          (writeStaging o.toNat [b0, b1, b2, b3] (popped rest s)) := by
      simp [writeConfig, hdata, byteAt, answer]
    rw [hserve] at hexec
    set u := writeStaging o.toNat [b0, b1, b2, b3] (popped rest s) with hu
    have hwrite : Touches [.odo, .stc, .rqs] (popped rest s) u := touches_writeStaging _ _ _
    have hlink : u.link = (popped rest s).link := hwrite .link (by simp)
    have hrqs := writeStaging_rqs o.toNat [b0, b1, b2, b3] (popped rest s)
    rw [← hu] at hrqs
    obtain ⟨hanswers, htouch, hqueued⟩ :=
      answered (u := u) (bs := [.link, .odo, .stc, .msc, .rqs, .seq]) (ids := []) (n := 0) hexec
        ((hpopped.mono (by simp)).trans (hwrite.mono (by simp))) (by decide)
        (OffersIds.of_txQueue (by rw [hlink]; rfl)) (by simp) hroom (by simp)
    have hrqs' : (refresh (respond f.id f.source [0x00, byteSum u.rqs.staging] u)).rqs = u.rqs := by simp [respond]
    have hstc' : (refresh (respond f.id f.source [0x00, byteSum u.rqs.staging] u)).stc = u.stc := by simp [respond]
    have hodo' : (refresh (respond f.id f.source [0x00, byteSum u.rqs.staging] u)).odo = u.odo := by simp [respond]
    refine ⟨_, hanswers, htouch, ?_, ?_, fun hne => ?_, fun hlast hwait hactive => ?_, fun hlast hopen hactive hodo hservice => ?_,
      by rw [hrqs']; exact hqueued⟩
    · rw [hrqs', hrqs]
      rfl
    · rw [hrqs', hrqs]
      rfl
    · rw [hstc', hodo']
      exact writeStaging_of_ne hne _ _
    · rw [hstc', hodo', hu, hlast]
      exact writeStaging_busy (s := popped rest s) hactive
    · rw [hstc', hrqs', hrqs, hu, hlast]
      exact writeStaging_free (s := popped rest s) hopen hactive hodo hservice
  case reset =>
    have hi' : b.toNat ≤ 3 := by
      have := isSome_serviceItem_ofNat b.toNat
      simpa [hi] using this
    have hexec := exec_served (c := .resetService) (v := resetService) rfl h hserved (by rw [hdata]; rfl)
      (by simp [resetService, hdata, byteAt, hi']) rfl
    set v := (popped rest s).setRqs { s.rqs with inService := some { id := 0x76, requester := 15 } } with hv
    have hserve : resetService.serve f (popped rest s) = beginReset i v := by
      have hid : f.id = 0x76 := h.2.2
      simp only [resetService, hdata, byteAt_singleton, hi, hid, hserved.1]
      rfl
    rw [hserve] at hexec
    have hvtouch : Touches [.link, .rqs] s v := fun b hb => by
      cases b
      case link | rqs => simp at hb
      all_goals rfl
    have hbegin := touches_beginReset i v
    refine ⟨_, hexec, ((hvtouch.mono (by simp)).trans (hbegin.mono (by simp))).refresh (by simp), ?_, fun hres => ?_,
      fun hres => ?_⟩
    · rw [(refresh_frame _).2.2.2.2.2.2.2.2.2.2.2.1]
      exact hbegin .rqs (by simp)
    · have hnone : v.odo.handedKm = none := (handedKm_eq s).trans (if_neg (by simp [hres]))
      rw [beginReset_none hnone, (refresh_frame _).2.2.2.2.2.2.2.2.2.1]
      rfl
    · have hsome : v.odo.handedKm = some (KmOf s.odo.total) := (handedKm_eq s).trans (if_pos hres)
      have hmade := beginReset_some (i := i) hsome
      have hsru : (refresh (beginReset i v)).sru = (serviceReset i (KmOf s.odo.total) v).sru := by simp [hmade]
      have hstc : (refresh (beginReset i v)).stc = (serviceReset i (KmOf s.odo.total) v).stc := by simp [hmade]
      obtain ⟨hitem, ⟨e, he, hrecord, hwhere⟩, hothers, hoil⟩ := serviceReset_spec i (KmOf s.odo.total) v
      have hitem' (j : ServiceItem) : (refresh (beginReset i v)).item j = (serviceReset i (KmOf s.odo.total) v).item j := by
        rw [State.item, State.item, hsru]
      refine ⟨(hitem' i).trans hitem, ⟨e, he, (hitem' i).symm ▸ hrecord, hstc ▸ hwhere⟩, fun j hj => (hitem' j).trans (hothers j hj), ?_⟩
      rw [hsru]
      exact hoil
  case gauges =>
    have hid : f.id = 0x7B := h.2.2
    have hexec := exec_served (c := .gaugeTest k) (v := gaugeTest k) rfl h hserved (by rw [hdata]; rfl) rfl
      (if_pos (show (popped rest s).power.state = .run from hrun))
    have htest := touches_testGauges k (popped rest s)
    obtain ⟨hpark, hgauge⟩ := gauge_testGauges k (popped rest s)
    obtain ⟨hanswers, htouch, hqueued⟩ :=
      answered (u := testGauges k (popped rest s)) (bs := [.link, .gdu, .wnu, .msc, .seq, .draw]) (ids := [0x62]) (n := 1) hexec
        ((hpopped.mono (by simp)).trans (htest.mono (by simp))) (by decide)
        (offersIds_testGauges k (popped rest s)) (by simp) hroom (by simp [hid])
    have hgdu : (refresh (respond f.id f.source [0x00] (testGauges k (popped rest s)))).gdu =
        (testGauges k (popped rest s)).gdu := by simp [respond]
    have hgauge' (g : GaugeId) :
        (refresh (respond f.id f.source [0x00] (testGauges k (popped rest s)))).gauge g = tested k (popped rest s) g := by
      rw [← hgauge g, State.gauge, State.gauge, hgdu]
    refine ⟨_, hanswers, htouch, by rw [hgdu, hpark]; rfl, fun g hg => ?_, fun g hg => ?_, fun g hg hk => ?_, fun g hg hk => ?_,
      fun g hg => ?_, ?_, hqueued⟩
    · rw [hgauge']
      obtain ⟨hstate, hphase | hspan⟩ := tested_of_tracking (contacts := k) (s := popped rest s) hg
      · exact .inl ⟨hstate, hphase⟩
      · exact .inr ⟨hstate, hspan⟩
    · rw [hgauge', tested_of_homing (s := popped rest s) hg]
      rfl
    · rw [hgauge', tested_of_faulted (s := popped rest s) hg, homed_open hk]
      rfl
    · rw [hgauge', tested_of_faulted (s := popped rest s) hg, homed_closed hk]
      obtain ⟨hposition, hstate⟩ := Gauge.close_position ((((popped rest s).gauge g)).enterHoming ((popped rest s).span g)
        (popped rest s).settings.sweepEnable true) ((popped rest s).span g) (popped rest s).settings.deadband
        (popped rest s).gdu.parkInForce (popped rest s).ignitionOn
      refine ⟨hposition, fun hf => ?_⟩
      rw [hf] at hstate
      simp at hstate
    · rw [hgauge', tested_of_other (s := popped rest s) hg]
      rfl
    · have hbefore := (foldl_setGauge_all (F := tested k) (tested_setGauge k) (popped rest s)).1
      have hlink : _ = (popped rest s).link := hbefore .link (by simp)
      have hoffers := offersIds_testGauges k (popped rest s)
      rw [testGauges_eq] at hoffers ⊢
      refine warningsMoved_of_shown ?_ (by simp) (by simp)
        (WarnBefore.of_wnu (hbefore .wnu (by simp)) (by rw [hlink]; rfl)
          (congrArg PowerUnit.patternSpoiled (hbefore .power (by simp))))
        (WarnShown.of_touches (((respond_touches _ _ _ _).mono (by simp)).refresh (by simp)) (by simp [respond])
          (by rw [(refresh_frame _).2.1, roster_respond])) fun hroom' g hg hq => ?_
      · have hpower := hbefore .power (by simp)
        exact powered_of_awake (awake_of_run ((congrArg PowerUnit.state hpower).trans hrun))
      · have hlen : (popped rest s).link.txQueue.length ≤ 5 := hroom.1
        have hlen' := (hoffers (by omega)).1
        unfold Queued
        rw [(refresh_frame _).2.1]
        exact (offersIds_respond _ _ _ _).queued (by omega) (by simp [hg, hid]) hq
  case chime =>
    have hid : f.id = 0x7C := h.2.2
    have hcode := pattern_ofNat_range hp
    have hexec := exec_served (c := .chimeTest) (v := chimeTest) rfl h hserved (by rw [hdata]; rfl)
      (by simp [chimeTest, hdata, byteAt, hcode]) (if_pos (stationsTaken_iff.mpr ⟨hawake, hphase⟩))
    have hserve : chimeTest.serve f (popped rest s) = respond f.id f.source [0x00] (testChime p (popped rest s)) := by
      simp only [chimeTest, hdata, byteAt_singleton, hp]
      rfl
    rw [hserve] at hexec
    obtain ⟨hanswers, htouch, hqueued⟩ :=
      answered (u := testChime p (popped rest s)) (bs := [.link, .wnu, .msc, .seq]) (ids := []) (n := 0) hexec
        ((hpopped.mono (by simp)).trans ((touches_testChime _ _).mono (by simp))) (by decide) (OffersIds.of_txQueue rfl)
        (by simp) hroom (by simp)
    obtain ⟨hkept, hsounds⟩ := testChime_wnu p (popped rest s)
    have hwnu : (refresh (respond f.id f.source [0x00] (testChime p (popped rest s)))).wnu =
        (testChime p (popped rest s)).wnu := by simp [respond]
    refine ⟨_, hanswers, htouch, ?_, fun htone hchimes => ⟨(popped rest s).moment, ?_⟩, hqueued⟩
    · rw [hwnu]
      exact hkept
    · rw [hwnu]
      exact hsounds htone hchimes

end Sys2Proof.Machine
end

section
/-! CLAIM. The Gauge Drive: homing (R70 to R72) and the motion of a gauge (R73 to R78, R81). -/

namespace Sys2Proof.Machine

open Sys2Proof

variable {s t : State} {g : GaugeId}

/-! ## A park that is not complete (R81) -/

theorem finishPark_of_not (h : s.power.endPhase = .parking → s.gdu.allParked = false) : finishPark s = s :=
  if_neg fun hc => by simp [h hc.2.1] at hc

theorem allParked_of_gauge {h : GaugeId} (hparked : (s.gauge h).state ≠ .parked) (hfaulted : (s.gauge h).state ≠ .faulted) :
    s.gdu.allParked = false := by
  refine Bool.eq_false_iff.mpr fun hall => ?_
  have hmem : s.gauge h ∈ s.gdu.gauges.toList := by
    rw [Vector.mem_toList_iff]
    exact Vector.getElem_mem _
  have := List.all_eq_true.mp hall _ hmem
  simp [hparked, hfaulted] at this

/-- A park is not complete while another gauge is on its way. -/
theorem finishPark_of_other {x : State} (hpower : x.power = s.power) (hgauges : ∀ h, h ≠ g → x.gauge h = s.gauge h)
    (hother : s.power.endPhase = .parking →
      ∃ h, h ≠ g ∧ (s.gauge h).state ≠ .parked ∧ (s.gauge h).state ≠ .faulted) : finishPark x = x := by
  refine finishPark_of_not fun hphase => ?_
  obtain ⟨h, hne, hparked, hfaulted⟩ := hother (hpower ▸ hphase)
  exact allParked_of_gauge (h := h) (by rwa [hgauges h hne]) (by rwa [hgauges h hne])

/-- A command that replaces one gauge's record does nothing else while another gauge is on its way. -/
theorem answers_setGauge {c : Instr} {r : Gauge} (hexec : exec c s = done (finishPark (s.setGauge g r)))
    (hother : s.power.endPhase = .parking →
      ∃ h, h ≠ g ∧ (s.gauge h).state ≠ .parked ∧ (s.gauge h).state ≠ .faulted) :
    Answers c s (refresh (s.setGauge g r)) ∧ Touches [.gdu, .msc] s (refresh (s.setGauge g r)) ∧
      (refresh (s.setGauge g r)).gdu = (s.setGauge g r).gdu := by
  rw [finishPark_of_other (s := s) (x := s.setGauge g r) rfl (fun h hne => State.gauge_setGauge_other s r hne) hother] at hexec
  exact ⟨hexec, ((touches_setGauge s g r).mono (by simp)).refresh (by simp), by simp⟩

/-- A gauge closes its contact (R72). -/
theorem closes_of_exec {c : Instr} {x : Gauge} (hspan : 0 < s.span g) (hexec : exec c s = done (finishPark (closeGauge g x s)))
    (hother : s.power.endPhase = .parking →
      ∃ h, h ≠ g ∧ (s.gauge h).state ≠ .parked ∧ (s.gauge h).state ≠ .faulted)
    (hmarks : x.sweepMark = (s.gauge g).sweepMark ∧ x.testMark = (s.gauge g).testMark ∧ x.target = (s.gauge g).target) :
    let on := (s.input.filters[SwitchLine.ignition.ix]).level = .active
    let sweeps : Prop := ((s.gauge g).sweepMark = true ∧ on) ∨ (s.gauge g).testMark = true
    ∃ t, Answers c s t ∧ Touches [.gdu, .msc] s t ∧ (∀ h, h ≠ g → t.gauge h = s.gauge h) ∧ (t.gauge g).position = 0 ∧
      (t.gauge g).lift = none ∧ (t.gauge g).testMark = false ∧
      (s.gdu.parkInForce = true →
        (t.gauge g).state = .parked ∧ (t.gauge g).motion = .atRest ∧ t.coilOutput g = false) ∧
      (s.gdu.parkInForce = false → sweeps →
        (t.gauge g).state = .sweep ∧ (t.gauge g).phase = .toSpan ∧ (t.gauge g).motion = .movingUp ∧
          (t.gauge g).target = (s.gauge g).target) ∧
      (s.gdu.parkInForce = false → ¬sweeps →
        (t.gauge g).state = .tracking ∧ (t.gauge g).target = (s.gauge g).target ∧
          (t.gauge g).motion = if (s.gauge g).target ≤ s.settings.deadband then .atRest else .movingUp) := by
  intro on sweeps
  obtain ⟨hanswers, htouch, hgdu⟩ := answers_setGauge hexec hother
  obtain ⟨hsweep, htest, htarget⟩ := hmarks
  have hspec := Gauge.close_spec x hspan s.settings.deadband s.gdu.parkInForce s.ignitionOn
  have hgauge (h : GaugeId) : ∀ t : State, t.gdu = (closeGauge g x s).gdu → t.gauge h = (closeGauge g x s).gauge h :=
    fun t ht => by rw [State.gauge, State.gauge, ht]
  have hself : (closeGauge g x s).gauge g = x.close (s.span g) s.settings.deadband s.gdu.parkInForce s.ignitionOn :=
    State.gauge_setGauge_same s g _
  have hon : s.ignitionOn = true ↔ on := by simp [State.ignitionOn, State.lineLevel, on]
  rw [hsweep, htest, htarget, hon] at hspec
  obtain ⟨hposition, hlift, hmark, hpark, hsweeps, htracks⟩ := hspec
  refine ⟨_, hanswers, htouch, fun h hne => ?_, ?_, ?_, ?_, fun hp => ?_, fun hp hs => ?_, fun hp hs => ?_⟩
  · rw [hgauge h _ hgdu]
    exact State.gauge_setGauge_other s _ hne
  all_goals rw [hgauge g _ hgdu, hself]
  · exact hposition
  · exact hlift
  · exact hmark
  · obtain ⟨hstate, hmotion⟩ := hpark hp
    refine ⟨hstate, hmotion, ?_⟩
    rw [State.coilOutput, hgauge g _ hgdu, hself, hstate]
    exact Bool.and_false _
  · exact hsweeps hp hs
  · exact htracks hp hs

/-! ## Homing (R70 to R72) -/

/-- A homing step, by the contact (R71, R72). -/
theorem exec_homingStep (hstate : (s.gauge g).state = .homing) (hlift : (s.gauge g).lift = none) (closed : Bool) :
    let moved : Gauge := { s.gauge g with position := (s.gauge g).position - 1, steps := (s.gauge g).steps + 1 }
    exec (.homingStep g closed) s =
      if closed then done (finishPark (closeGauge g moved s))
      else if s.span g + 32 ≤ (s.gauge g).steps + 1 then done (finishPark (failAttempt g moved s))
      else .next (s.setGauge g moved) := if_pos ⟨hstate, hlift⟩

/-- A lift step (R71). -/
theorem exec_homingLiftStep {k : Nat} (hstate : (s.gauge g).state = .homing) (hlift : (s.gauge g).lift = some k) (closed : Bool) :
    let moved : Gauge := { s.gauge g with position := min (s.span g) ((s.gauge g).position + 1) }
    let next : Gauge := { moved with attempt := (s.gauge g).attempt + 1, steps := 0, lift := none }
    exec (.homingLiftStep g closed) s =
      if 64 ≤ k + 1 then (if closed then done (finishPark (closeGauge g next s)) else .next (s.setGauge g next))
      else .next (s.setGauge g { moved with lift := some (k + 1) }) := by
  have hexec : exec (.homingLiftStep g closed) s = execHomingLiftStep g closed s := rfl
  rw [hexec]
  simp only [execHomingLiftStep, hstate, hlift]

/-- The third failure: FAULTED where it stands, with its code (R72). -/
theorem faulted_of_exec {c : Instr} {x : Gauge} (hexec : exec c s = done (finishPark (failAttempt g x s))) (hattempt : x.attempt = 3)
    (hlift : x.lift = none)
    (hother : s.power.endPhase = .parking →
      ∃ h, h ≠ g ∧ (s.gauge h).state ≠ .parked ∧ (s.gauge h).state ≠ .faulted) :
    ∃ t, Answers c s t ∧ Touches [.link, .gdu, .wnu, .msc, .rqs, .seq, .draw] s t ∧
      t.gauge g = { x with state := .faulted, motion := .atRest, ramp := 0 } ∧ t.coilOutput g = false ∧
      (∀ h, h ≠ g → t.gauge h = s.gauge h) ∧
      t.rqs = { s.rqs with lastError := BitVec.ofNat 8 (0x21 + g.ix.val) } ∧
      (s.powered = true → WarningsMoved [.gaugeFault] [] s t) := by
  set made : Gauge := { x with state := .faulted, motion := .atRest, ramp := 0 } with hmade
  set u := recordCode (homingCode g) (s.setGauge g made) with hu
  have hfail : failAttempt g x s = evalWarnings [.gaugeFault] u := by
    rw [failAttempt, if_neg (by omega), hu, hmade]
    simp only [Gauge.stop, ← hlift]
  have hgdu : (evalWarnings [.gaugeFault] u).gdu = (s.setGauge g made).gdu := by simp [hu]
  have hgauge (h : GaugeId) : (evalWarnings [.gaugeFault] u).gauge h = (s.setGauge g made).gauge h := by
    rw [State.gauge, State.gauge, hgdu]
  have hpark : finishPark (evalWarnings [.gaugeFault] u) = evalWarnings [.gaugeFault] u :=
    finishPark_of_other (s := s) (g := g) (by simp [hu])
      (fun h hne => (hgauge h).trans (State.gauge_setGauge_other s made hne)) hother
  rw [hfail, hpark] at hexec
  have htouch : Touches [.gdu, .rqs] s u := fun b hb => by
    cases b
    case gdu | rqs => simp at hb
    all_goals rfl
  have hgauge' (h : GaugeId) : (refresh (evalWarnings [.gaugeFault] u)).gauge h = (s.setGauge g made).gauge h := by
    rw [State.gauge, (refresh_frame _).2.2.2.2.1]
    exact hgauge h
  refine ⟨_, hexec, ((htouch.mono (by simp)).trans ((touches_evalWarnings _ u).mono (by simp))).refresh (by simp), ?_, ?_,
    fun h hne => ?_, ?_, fun hpowered => ?_⟩
  · rw [hgauge', State.gauge_setGauge_same]
  · rw [State.coilOutput, hgauge', State.gauge_setGauge_same]
    exact Bool.and_false _
  · rw [hgauge', State.gauge_setGauge_other _ _ hne]
  · simp [hu, homingCode]
  · exact warningsMoved_evalWarnings (s := u) hpowered (by simp) (by simp) (WarnBefore.of_wnu rfl rfl rfl) (warnAfter_refresh _)

/-- Settles O43: a homing step and a lift step by the contact and by the count of steps. -/
theorem homingFindsZero : Obligations.HomingFindsZero := by
  unfold Obligations.HomingFindsZero
  intro s g hstate hother hspan r moved on closes
  refine ⟨fun hlift hsteps => ?_, fun hlift hsteps hattempt => ?_, fun hlift hsteps hattempt => ?_, fun hlift => ?_,
    fun k closed hlift hk => ?_, fun hlift => ⟨?_, ?_⟩⟩
  · exact (exec_homingStep hstate hlift false).trans (if_neg (Nat.not_le.mpr hsteps))
  · have hexec : exec (.homingStep g false) s = done (finishPark (failAttempt g moved s)) :=
      (exec_homingStep hstate hlift false).trans (if_pos hsteps)
    rw [failAttempt, if_pos (show moved.attempt < 3 from Nat.lt_succ_of_le hattempt)] at hexec
    exact ⟨_, answers_setGauge hexec hother⟩
  · exact faulted_of_exec ((exec_homingStep hstate hlift false).trans (if_pos hsteps)) hattempt hlift hother
  · exact closes_of_exec hspan (exec_homingStep hstate hlift true) hother ⟨rfl, rfl, rfl⟩
  · exact (exec_homingLiftStep hstate hlift closed).trans (if_neg (by omega))
  · exact exec_homingLiftStep hstate hlift false
  · exact closes_of_exec hspan (exec_homingLiftStep hstate hlift true) hother ⟨rfl, rfl, rfl⟩

/-! ## The motion of a gauge (R73 to R78, R81) -/

section
variable {r : Gauge} {span deadband : Nat} {closed : Bool}

theorem Gauge.moving_iff : r.moving = true ↔ r.motion = .movingUp ∨ r.motion = .movingDown := by
  simp [Gauge.moving]

theorem Gauge.stepEnd_tracking (hmoving : r.motion = .movingUp ∨ r.motion = .movingDown) (hstate : r.state = .tracking) :
    r.stepEnd span deadband closed = r.trackingStep span closed := by
  simp only [Gauge.stepEnd, if_pos (Gauge.moving_iff.mpr hmoving), hstate]

theorem Gauge.stepEnd_sweep (hmoving : r.motion = .movingUp ∨ r.motion = .movingDown) (hstate : r.state = .sweep) :
    r.stepEnd span deadband closed = r.sweepStep span deadband closed := by
  simp only [Gauge.stepEnd, if_pos (Gauge.moving_iff.mpr hmoving), hstate]

theorem Gauge.stepEnd_parking (hmoving : r.motion = .movingUp ∨ r.motion = .movingDown) (hstate : r.state = .parking) :
    r.stepEnd span deadband closed = r.parkingStep span := by
  simp only [Gauge.stepEnd, if_pos (Gauge.moving_iff.mpr hmoving), hstate]

theorem Gauge.sweepStep_toSpan (hstate : r.state = .sweep) (hphase : r.phase = .toSpan) :
    r.sweepStep span deadband closed =
      if (r.stepped span).position = span then { (r.stepped span).stop with phase := .atSpan }
      else (r.stepped span).follow span := by
  have hgoal : (r.stepped span).goal span = span := by simp [Gauge.goal, Gauge.stepped, hstate, hphase]
  have hphase' : (r.stepped span).phase = .toSpan := hphase
  unfold Gauge.sweepStep
  simp only [hphase', hgoal]
  simp

theorem Gauge.sweepStep_toZero (hstate : r.state = .sweep) (hphase : r.phase = .toZero) :
    r.sweepStep span deadband closed =
      if (r.stepped span).position = 0 then
        (if closed then ({ (r.stepped span).stop with state := .tracking } : Gauge).examine deadband
          else (r.stepped span).rehome span)
      else (r.stepped span).follow 0 := by
  have hgoal : (r.stepped span).goal span = 0 := by simp [Gauge.goal, Gauge.stepped, hstate, hphase]
  have hphase' : (r.stepped span).phase = .toZero := hphase
  unfold Gauge.sweepStep
  simp only [hphase', hgoal]
  simp

theorem Gauge.follow_onward {goal : Nat}
    (h : (r.motion = .movingUp ∧ r.position < goal) ∨ (r.motion = .movingDown ∧ goal < r.position)) : r.follow goal = r := by
  have hne : r.position ≠ goal := by omega
  rw [Gauge.follow, if_neg hne, if_pos h]

theorem Gauge.follow_past {goal : Nat}
    (h : (r.motion = .movingUp ∧ goal < r.position) ∨ (r.motion = .movingDown ∧ r.position < goal)) :
    r.follow goal = { r with motion := .reversalRest, rest := 0 } := by
  have hne : r.position ≠ goal := by omega
  have hback : ¬((r.motion = .movingUp ∧ r.position < goal) ∨ (r.motion = .movingDown ∧ goal < r.position)) := by
    rintro (⟨hup, hlt⟩ | ⟨hdown, hlt⟩)
    · rcases h with ⟨-, h⟩ | ⟨h, -⟩
      · omega
      · rw [hup] at h
        cases h
    · rcases h with ⟨h, -⟩ | ⟨-, h⟩
      · rw [hdown] at h
        cases h
      · omega
  rw [Gauge.follow, if_neg hne, if_neg hback]

/-- A reversal rest short of its fourth period goes on (R76). -/
theorem Gauge.reversalBoundary_short (hmotion : r.motion = .reversalRest) (hrest : r.rest ≤ 2) :
    r.reversalBoundary span deadband = { r with rest := r.rest + 1 } := by
  have hmin : min 4 (r.rest + 1) = r.rest + 1 := by omega
  simp only [Gauge.reversalBoundary, if_pos hmotion, hmin]
  exact if_neg (by omega)

/-- At the fourth period it ends, and the gauge takes its goal (R76). -/
theorem Gauge.reversalBoundary_last (hmotion : r.motion = .reversalRest) (hrest : r.rest = 3) :
    r.reversalBoundary span deadband = ({ r with rest := 4 } : Gauge).stop.atGoal span deadband := by
  simp only [Gauge.reversalBoundary, if_pos hmotion, hrest]
  exact if_pos rfl

theorem Gauge.restBoundary_of_rest (hmotion : r.motion = .atRest) (hstate : r.state = .tracking ∨ r.state = .parking) :
    r.restBoundary span deadband = r.atGoal span deadband := if_pos ⟨hmotion, hstate⟩

theorem Gauge.atGoal_tracking (hstate : r.state = .tracking) : r.atGoal span deadband = r.examine deadband := by
  simp only [Gauge.atGoal, hstate]

theorem Gauge.atGoal_parking (hstate : r.state = .parking) :
    r.atGoal span deadband = if r.position = 0 then r.park else r.depart 0 := by
  simp only [Gauge.atGoal, hstate]

theorem Gauge.atGoal_sweep (hstate : r.state = .sweep) (hphase : r.phase = .toSpan) (hposition : r.position < span) :
    r.atGoal span deadband = { r with motion := .movingUp, ramp := 0 } := by
  have hne : r.position ≠ span := by omega
  simp [Gauge.atGoal, Gauge.goal, Gauge.depart, hstate, hphase, hne, hposition]

/-- At rest a target within the deadband is left alone, and another is driven to (R74). -/
theorem Gauge.examine_near (h : ¬deadband < (r.position - r.target) + (r.target - r.position)) : r.examine deadband = r :=
  if_pos (Nat.le_of_not_lt h)

theorem Gauge.examine_away (h : deadband < (r.position - r.target) + (r.target - r.position)) :
    r.examine deadband = { r with motion := if r.position < r.target then .movingUp else .movingDown, ramp := 0 } :=
  if_neg (Nat.not_le.mpr h)

end

/-- Settles O44: each command replaces the gauge's record by what its state, its goal and the contact make of it. -/
theorem motionFollowsTarget : Obligations.MotionFollowsTarget := by
  unfold Obligations.MotionFollowsTarget
  intro s g closed hother hspan r away stepped homing becomes
  have hrest (x : Gauge) (h : r.restBoundary (s.span g) s.settings.deadband = x) : becomes (.gaugeRestBoundary g) x :=
    ⟨_, answers_setGauge (congrArg (fun y => done (finishPark (s.setGauge g y))) h) hother⟩
  have hstep (x : Gauge) (h : r.stepEnd (s.span g) s.settings.deadband closed = x) : becomes (.gaugeStepEnd g closed) x :=
    ⟨_, answers_setGauge (congrArg (fun y => done (finishPark (s.setGauge g y))) h) hother⟩
  have hreversal (x : Gauge) (h : r.reversalBoundary (s.span g) s.settings.deadband = x) :
      becomes (.reversalRestBoundary g) x :=
    ⟨_, answers_setGauge (congrArg (fun y => done (finishPark (s.setGauge g y))) h) hother⟩
  have hsweep (x : Gauge) (h : r.sweepRestEnd (s.span g) = x) : becomes (.sweepRestEnd g) x :=
    ⟨_, answers_setGauge (congrArg (fun y => done (finishPark (s.setGauge g y))) h) hother⟩
  refine ⟨fun hs hm => ?rest, fun hs hm => ?track, fun hm hn => ?pause, fun hs hm hn => ?turn, fun hs hp hin => ?toSpan,
    fun hs hp => ?atSpan, fun hs hp hm => ?toZero, fun hs => ?park⟩
  case rest =>
    have hexamine := (Gauge.restBoundary_of_rest (span := s.span g) (deadband := s.settings.deadband) hm (.inl hs)).trans
      (Gauge.atGoal_tracking hs)
    refine ⟨fun h => hrest _ (hexamine.trans (Gauge.examine_near h)), fun h hlt => hrest _ ?_, fun h hlt => hrest _ ?_⟩
    · rw [hexamine, Gauge.examine_away h, if_pos hlt]
    · rw [hexamine, Gauge.examine_away h, if_neg (by omega)]
  case track =>
    have htrack : r.stepEnd (s.span g) s.settings.deadband closed = r.trackingStep (s.span g) closed :=
      Gauge.stepEnd_tracking hm hs
    have hrehome (h0 : stepped.position = 0) (hc : closed = false) : r.trackingStep (s.span g) closed = homing stepped :=
      if_pos ⟨h0, by simp [hc]⟩
    have hfollow (h : stepped.position ≠ 0 ∨ closed = true) :
        r.trackingStep (s.span g) closed = stepped.follow r.target :=
      if_neg fun hc => h.elim (fun h0 => h0 hc.1) (fun h1 => by simp [h1] at hc)
    refine ⟨fun h0 hc => hstep _ (htrack.trans (hrehome h0 hc)), fun h hgoal => hstep _ ?_, fun h htoward => hstep _ ?_,
      fun h hpast => hstep _ ?_⟩
    · exact htrack.trans ((hfollow h).trans (if_pos hgoal))
    · exact htrack.trans ((hfollow h).trans (Gauge.follow_onward htoward))
    · exact htrack.trans ((hfollow h).trans (Gauge.follow_past hpast))
  case pause => exact hreversal _ (Gauge.reversalBoundary_short hm hn)
  case turn =>
    have hlast := (Gauge.reversalBoundary_last (span := s.span g) (deadband := s.settings.deadband) hm hn).trans
      (Gauge.atGoal_tracking (r := ({ r with rest := 4 } : Gauge).stop) hs)
    refine ⟨fun h => hreversal _ (hlast.trans (Gauge.examine_near h)), fun h => hreversal _ (hlast.trans (Gauge.examine_away h))⟩
  case toSpan =>
    have hstepEnd (hm : r.motion = .movingUp ∨ r.motion = .movingDown) :
        r.stepEnd (s.span g) s.settings.deadband closed =
          if stepped.position = s.span g then { stepped.stop with phase := .atSpan } else stepped.follow (s.span g) :=
      (Gauge.stepEnd_sweep hm hs).trans (Gauge.sweepStep_toSpan hs hp)
    refine ⟨fun hm hlt => hstep _ ?_, fun hm heq => hstep _ ?_, fun hm => hstep _ ?_, fun hm hn hlt => hreversal _ ?_⟩
    · have hposition : stepped.position = r.position + 1 := (if_pos hm).trans (min_eq_right hlt.le)
      rw [hstepEnd (.inl hm), if_neg (by omega)]
      exact Gauge.follow_onward (.inl ⟨hm, hposition ▸ hlt⟩)
    · have hposition : stepped.position = s.span g := (if_pos hm).trans (by omega)
      rw [hstepEnd (.inl hm), if_pos hposition]
      simp only [Gauge.stop, hposition]
      rfl
    · have hposition : stepped.position = r.position - 1 := if_neg (by rw [hm]; decide)
      rw [hstepEnd (.inr hm), if_neg (by omega)]
      exact Gauge.follow_past (.inr ⟨hm, by omega⟩)
    · exact (Gauge.reversalBoundary_last hm hn).trans (Gauge.atGoal_sweep (r := ({ r with rest := 4 } : Gauge).stop) hs hp hlt)
  case atSpan =>
    refine hsweep _ ((if_pos ⟨hs, hp⟩).trans ?_)
    simp [Gauge.goal, Gauge.depart, hs]
  case toZero =>
    have hposition : stepped.position = r.position - 1 := if_neg (by rw [hm]; decide)
    have hstepEnd : r.stepEnd (s.span g) s.settings.deadband closed =
        if stepped.position = 0 then
          (if closed then ({ stepped.stop with state := .tracking } : Gauge).examine s.settings.deadband
            else stepped.rehome (s.span g))
        else stepped.follow 0 := (Gauge.stepEnd_sweep (.inr hm) hs).trans (Gauge.sweepStep_toZero hs hp)
    refine ⟨fun h2 => hstep _ ?_, fun h1 hc => hstep _ ?_, fun h1 hc => hstep _ ?_⟩
    · rw [hstepEnd, if_neg (by omega)]
      exact Gauge.follow_onward (.inr ⟨hm, by omega⟩)
    · have h0 : stepped.position = 0 := by omega
      rw [hstepEnd, if_pos h0, if_pos hc]
      by_cases hnear : r.target ≤ s.settings.deadband
      · rw [if_pos hnear]
        exact (Gauge.examine_near (by simp [Gauge.stop, h0, hnear, stepped])).trans (by simp [Gauge.stop, stepped, hm, h1])
      · rw [if_neg hnear]
        exact (Gauge.examine_away (by simp [Gauge.stop, h0, stepped]; omega)).trans (by simp [Gauge.stop, stepped, hm, h1]; omega)
    · rw [hstepEnd, if_pos (by omega), if_neg (by simp [hc])]
      rfl
  case park =>
    intro parked
    have hboundary (hm : r.motion = .atRest) := (Gauge.restBoundary_of_rest (span := s.span g)
      (deadband := s.settings.deadband) hm (.inr hs)).trans (Gauge.atGoal_parking hs)
    have hlast (hm : r.motion = .reversalRest) (hn : r.rest = 3) := (Gauge.reversalBoundary_last (span := s.span g)
      (deadband := s.settings.deadband) hm hn).trans (Gauge.atGoal_parking (r := ({ r with rest := 4 } : Gauge).stop) hs)
    have hparking (hm : r.motion = .movingUp ∨ r.motion = .movingDown) :
        r.stepEnd (s.span g) s.settings.deadband closed = r.parkingStep (s.span g) := Gauge.stepEnd_parking hm hs
    refine ⟨fun hm h0 => hrest _ ?_, fun hm h0 => hrest _ ((hboundary hm).trans ?_), fun hm h2 => hstep _ ?_,
      fun hm h1 => hstep _ ?_, fun hm => hstep _ ?_, fun hm hn h0 => hreversal _ ?_, fun hm hn h0 => hreversal _ ?_⟩
    · exact (hboundary hm).trans ((if_neg h0.ne').trans (by simp [Gauge.depart]))
    · rw [if_pos h0]
      simp [Gauge.park, Gauge.stop, parked, h0]
    · have hposition : stepped.position = r.position - 1 := if_neg (by rw [hm]; decide)
      refine (hparking (.inr hm)).trans ((if_neg (show ¬stepped.position = 0 by omega)).trans ?_)
      exact Gauge.follow_onward (.inr ⟨hm, show 0 < stepped.position by omega⟩)
    · have hposition : stepped.position = r.position - 1 := if_neg (by rw [hm]; decide)
      have h0 : stepped.position = 0 := by omega
      refine (hparking (.inr hm)).trans ((if_pos h0).trans ?_)
      change stepped.park = parked
      simp only [Gauge.park, Gauge.stop, h0]
      rfl
    · have hposition : stepped.position = min (s.span g) (r.position + 1) := if_pos hm
      refine (hparking (.inl hm)).trans ((if_neg (show ¬stepped.position = 0 by omega)).trans ?_)
      exact Gauge.follow_past (.inl ⟨hm, show 0 < stepped.position by omega⟩)
    · exact (hlast hm hn).trans ((if_neg h0.ne').trans (by simp [Gauge.depart, Gauge.stop]))
    · refine (hlast hm hn).trans ((if_pos h0).trans ?_)
      simp [Gauge.park, Gauge.stop, parked, h0]

end Sys2Proof.Machine
end

section
/-! CLAIM. The three broadcast timers of RUN (R41, R43, R44). -/

namespace Sys2Proof.Machine

open Sys2Proof

variable {s : State}

/-! ## The frames (R41, R44) -/

/-- The speed as CLUSTER_DISTANCE carries it (R41). -/
def speedBytes (s : State) : List Byte :=
  match (s.signal .vehSpeed).state, (s.signal .vehSpeed).value with
  | .fresh, some v => beBytes 2 v.toNat
  | _, _ => [0xFF, 0xFF]

/-- CLUSTER_DISTANCE as the model makes it. -/
def distanceFrame (s : State) : Frame :=
  s.ownFrame 2 .broadcast none 0x60 (beBytes 4 (fit32 s.odo.total) ++ speedBytes s)

theorem offerDistance_eq (s : State) : offerDistance s = offer (distanceFrame s) s := rfl

theorem distanceFrame_spec (s : State) : DistanceFrame s (distanceFrame s) := by
  refine ⟨fit32 s.odo.total, speedBytes s, held32_fit32 _, rfl, fun v hfresh hvalue => ?_, fun hfresh => ?_⟩
  · simp only [speedBytes, hfresh, hvalue]
  · unfold speedBytes
    cases h : (s.signal .vehSpeed).state with
    | fresh => exact absurd h hfresh
    | never | stale | lost | invalid => rfl

/-- REAR_SUMMARY as the model makes it. -/
def rearFrame (s : State) : Frame := s.ownFrame 3 .broadcast none 0x63 (rearSummaryData s)

/-- The held range was worked out from the default consumption (R97). -/
def byDefault : Option HeldRange → Bool
  | some h => h.basis == .default
  | none => false

theorem byDefault_iff (r : Option HeldRange) : byDefault r = true ↔ ∃ h, r = some h ∧ h.basis = .default := by
  cases r <;> simp [byDefault]

/-- The flags of REAR_SUMMARY (R44). -/
def rearFlags (fuelGap byDefault critical : Bool) : Byte :=
  BitVec.ofNat 8 ((if fuelGap then 1 else 0) + (if byDefault then 2 else 0) + (if critical then 4 else 0))

theorem rearFlags_spec (a b c : Bool) :
    (rearFlags a b c).toNat < 8 ∧ (rearFlags a b c).getLsbD 0 = a ∧ (rearFlags a b c).getLsbD 1 = b ∧
      (rearFlags a b c).getLsbD 2 = c := by
  revert a b c
  decide

theorem rearSummaryData_eq (s : State) :
    rearSummaryData s =
      beBytes 2 (min 65535 (s.trc.journey.distance / 100)) ++ beBytes 2 (s.trc.journey.run / 60)
        ++ (match s.trc.range with
            | none => [0xFF, 0xFF]
            | some h =>
              if (s.signal .fuelLevel).state = .invalid then [0xFF, 0xFF] else beBytes 2 (min 1999 (h.metres / 1000)))
        ++ [rearFlags s.trc.journey.fuelGap (byDefault s.trc.range) (s.wnu.list.any (fun n => s.classOf n == 0))] := by
  by_cases hinvalid : (s.signal .fuelLevel).state = .invalid <;> cases hrange : s.trc.range <;>
    simp only [rearSummaryData, State.shownRange, hinvalid, hrange, if_true, if_false] <;> rfl

theorem rearFrame_spec (s : State) : RearFrame s (rearFrame s) := by
  obtain ⟨hlt, hgap, hdefault, hcritical⟩ := rearFlags_spec s.trc.journey.fuelGap (byDefault s.trc.range)
    (s.wnu.list.any (fun n => s.classOf n == 0))
  refine ⟨_, ?_, hlt, by rw [hgap], by rw [hdefault, byDefault_iff], ?_⟩
  · rw [rearFrame, rearSummaryData_eq]
    rfl
  · rw [hcritical]
    simp

/-- Settles O45: each timer starts again and offers the frame of the present state. -/
theorem broadcastTimersOffer : Obligations.BroadcastTimersOffer := by
  unfold Obligations.BroadcastTimersOffer
  intro s hrun
  refine ⟨fun htimer => ?distance, fun htimer hinv => ⟨warningsFrame s, warningsFrame_spec hinv.1, if_pos ⟨hrun, htimer⟩⟩,
    fun htimer => ?rear⟩
  case distance =>
    have hexec : exec .clusterDistanceTimerExpiry s = _ := if_pos ⟨hrun, htimer⟩
    refine ⟨fun hres => hexec.trans ?_, fun hres => ⟨distanceFrame s, distanceFrame_spec s, hexec.trans ?_⟩⟩
    · exact congrArg (fun x => (.next x : Answer)) (if_neg (by simp [hres]))
    · exact congrArg (fun x => (.next x : Answer)) (if_pos hres)
  case rear =>
    have hexec : exec .rearSummaryTimerExpiry s = _ := if_pos ⟨hrun, htimer⟩
    refine ⟨fun hpresent => ⟨rearFrame s, rearFrame_spec s, hexec.trans ?_⟩, fun hpresent => hexec.trans ?_⟩
    · exact congrArg (fun x => (.next x : Answer)) (if_pos hpresent)
    · exact congrArg (fun x => (.next x : Answer)) (if_neg hpresent)

end Sys2Proof.Machine
end

section
/-! CLAIM. The starts that keep what is kept: the wake from SLEEP (R176, R184) and the panel restart (R185). -/

namespace Sys2Proof.Machine

open Sys2Proof

variable {s x t : State}

/-- A display composed anew leaves the selection and the lamp test. -/
theorem refresh_selection (s : State) :
    (refresh s).msc.trip = s.msc.trip ∧ (refresh s).msc.item = s.msc.item ∧ (refresh s).msc.lampTest = s.msc.lampTest := by
  rw [refresh_msc_kept]
  exact ⟨rfl, rfl, rfl⟩

/-! ## The panel restart (R119, R176, R185) -/

/-- A start afresh, seen behind the display composed anew. -/
theorem exec_checkResetLong {rest : List ButtonEvent} (hawake : s.awake = true) (he : s.input.events = .long :: rest) :
    exec .checkResetLong s =
      .next (refresh (refresh (startAfresh .warm .hold (some 50) (cutUnit (taken rest (downed .long s) s))))) := by
  have hfront : exec .checkResetLong s = .next (onButton .long (fun t => if t.awake then panelRestart t else t) s) := rfl
  have hmark (x : State) : markEvent .long x = x := if_neg (by simp [ButtonEvent.clearsMark])
  have hact : (if (taken rest (downed .long s) s).awake then panelRestart (taken rest (downed .long s) s)
      else taken rest (downed .long s) s) = panelRestart (taken rest (downed .long s) s) := if_pos hawake
  rw [hfront, onButton_of_front he (powered_of_awake hawake), takeEvent_awake hawake, hmark, hact]
  rfl

theorem noticed_msc_kept (s : State) : s.noticed.msc.trip = s.msc.trip ∧ s.noticed.msc.item = s.msc.item := by
  unfold State.noticed
  simp only [State.setMsc_msc]
  split_ifs <;> exact ⟨rfl, rfl⟩

/-- Settles O41: the restart sets afresh what a WARM start sets afresh, over the state in which the unit was cut. -/
theorem longRestartsThePanel : Obligations.LongRestartsThePanel := by
  unfold Obligations.LongRestartsThePanel
  intro s rest hawake he
  refine ⟨_, exec_checkResetLong hawake he, ?_⟩
  obtain ⟨htrip, hitem⟩ := noticed_msc_kept s
  have hresidue : s.noticed.input.residue = s.input.residue := rfl
  simp [startAfresh, State.cold, taken, downed, State.gauge, State.signal, refresh_selection, htrip, hitem, hresidue]

/-! ## The wake from SLEEP (R58, R87, R173, R176, R184) -/

theorem beginSteps_eq (h : s.msc.lampTest = .notRun) :
    beginSteps s =
      (s.setPower { s.power with step := .step1, restartHold := none }).setMsc
        (if s.ignitionOn then { s.msc with lampTest := .running, lampTimer := some 3000 } else s.msc) := by
  unfold beginSteps
  dsimp only
  split_ifs with h1 h2 h2
  · exact if_pos h
  · exact absurd h1 h2
  · exact absurd h2 h1
  · rfl

/-- What a WAKE start keeps of the state asleep. -/
def Woken (x t : State) : Prop :=
    t.power.state = .starting ∧ t.power.kind = .wake ∧ t.power.step = .step1 ∧
      t.power.patternMemory = x.power.patternMemory ∧ t.power.patternSpoiled = x.power.patternSpoiled ∧
      t.power.signature = x.power.signature ∧ t.power.configured = false ∧ t.link.listening = false ∧
      t.link.txQueue = [] ∧ t.link.ring = [] ∧ t.link.counters = x.link.counters ∧ t.clock = x.clock ∧
      t.store = x.store ∧ t.trc.tripA = x.trc.tripA ∧ t.trc.tripB = x.trc.tripB ∧
      t.trc.journey = x.trc.journey ∧ t.trc.window = x.trc.window ∧ t.trc.range = x.trc.range ∧
      t.trc.journeyRuleDue = true ∧ t.trc.journeyStamp = x.clock.lastOff ∧
      t.odo.pending = x.odo.pending ∧ t.odo.verified = x.odo.verified ∧ t.odo.resolved = false ∧
      t.wnu.log = x.wnu.log ∧ t.wnu.counts = x.wnu.counts ∧ t.wnu.list = [] ∧ t.wnu.chimes = [] ∧
      t.wnu.tone = .silent ∧ t.msc.trip = x.msc.trip ∧ t.msc.item = x.msc.item ∧
      t.rqs.lastError = x.rqs.lastError ∧ t.input.residue = x.input.residue ∧
      t.input.ignLength = x.input.ignLength ∧ t.filter .ignition = x.filter .ignition ∧
      t.filter .driverDoor = x.filter .driverDoor ∧
      t.msc.lampTest = (if (t.filter .ignition).level = .active then .running else .notRun) ∧
      (∀ g, (t.gauge g).state = .unhomed) ∧ (∀ g, (t.signal g).state = .never)

theorem woken_wakeStart (x : State) : Woken x (wakeStart x) := by
  have ht : wakeStart x = _ := congrArg refresh (beginSteps_eq (s := startAfresh .wake .step1 none x) rfl)
  rw [ht]
  simp [Woken, startAfresh, State.cold, State.gauge, State.signal, refresh_selection, State.filter, SwitchLine.ix,
    State.ignitionOn, State.lineLevel]
  split_ifs <;> simp

theorem woken_refresh (h : Woken x t) : Woken x (refresh t) := by
  unfold Woken at h ⊢
  simp only [State.gauge, State.signal, State.filter, refresh_selection, refresh_frame] at h ⊢
  exact h

/-- In SLEEP a completion of the door's or the ignition's filter, with its edge, is a wake event (R59, R184). -/
theorem readerTakes_wake {level : Level} {contacts : BitVec 6} {line : SwitchLine} (hsleep : x.power.state = .sleep)
    (hline : line = .driverDoor ∨ (line = .ignition ∧ level = .active)) :
    readerTakes line level true contacts x = wakeStart x := by
  have hwake : wakeEvent x = wakeStart x := if_pos hsleep
  rcases hline with rfl | ⟨rfl, rfl⟩
  · have hedge : (if x.power.state = .courtesy ∧ x.power.endPhase ≠ .none then x.setPower { x.power with pendingWake := true }
        else restartCourtesy x) = x := by
      rw [if_neg (by simp [hsleep]), restartCourtesy, if_neg (by simp [hsleep])]
    have hpowered : x.powered = false := by simp [State.powered, State.awake, hsleep]
    have heval : evalWarnings [.lightsOn, .keyIn] x = x := by
      unfold evalWarnings evalTogether
      rw [if_neg (by simp [hpowered])]
    rw [← hwake]
    change doorEdge x = wakeEvent x
    unfold doorEdge
    dsimp only
    rw [hedge, heval]
  · rw [← hwake]
    change ignitionActiveEdge contacts x = wakeEvent x
    unfold ignitionActiveEdge
    rw [hsleep]

/-- The filters of the two lines that are sampled in SLEEP are those of the state that wakes. -/
theorem Woken.filter {line : SwitchLine} (h : Woken x t) (hline : line = .ignition ∨ line = .driverDoor) :
    t.filter line = x.filter line := by
  unfold Woken at h
  rcases hline with rfl | rfl
  · simp only [h]
  · simp only [h]

/-- Settles O34: each of the three events is a wake event, over the state with the filter as it then is. -/
theorem wakeStartsFromSleep : Obligations.WakeStartsFromSleep := by
  unfold Obligations.WakeStartsFromSleep
  intro s c hsleep hc
  rcases hc with rfl | ⟨l, k, samples, level, rfl, hline, hedge⟩
  · have hexec : Answers .linkFallingEdgeWake s (wakeStart s) := congrArg (fun x => (.next x : Answer)) (if_pos hsleep)
    obtain ⟨
      hState, hKind, hStep, hPattern, hSpoiled, hSignature, hConfigured, hListening, hTxQueue, hRing, hCounters,
      hClock, hStore, hTripA, hTripB, hJourney, hWindow, hRange, hDue, hStamp, hPending, hVerified, hResolved,
      hLog, hCounts, hList, hChimes, hTone, hTrip, hItem, hLastError, hResidue, hLength, hIgnition, hDoor, hLamp,
      hGauges, hSignals⟩ := woken_wakeStart s
    exact ⟨_, hexec,
      hState, hKind, hStep, hPattern, hSpoiled, hSignature, hConfigured, hListening, hTxQueue, hRing, hCounters,
      hClock, hStore, hTripA, hTripB, hJourney, hWindow, hRange, hDue, hStamp, hPending, hVerified, hResolved,
      hLog, hCounts, hList, hChimes, hTone, hTrip, hItem, hLastError, hResidue, hLength,
      fun _ => ⟨hIgnition, hDoor⟩, fun l samples k hk => (by cases hk), hLamp, hGauges, hSignals⟩
  · have hkind : l = .driverDoor ∨ (l = .ignition ∧ level = .active) := by
      rcases hline with ⟨hl, -⟩ | ⟨hl, hlevel, -⟩
      · exact .inl hl
      · exact .inr ⟨hl, hlevel⟩
    have hlast : LastCompletes (s.filter l) (filterLength s l) samples level := by
      rcases hline with ⟨rfl, h⟩ | ⟨rfl, -, h⟩ <;> exact h
    have hsampled : lineSampled s l = true := by
      rcases hkind with rfl | ⟨rfl, -⟩ <;> simp [lineSampled, hsleep]
    set F : SwitchFilter := { level := level, last := some level, run := filterLength s l, completed := true } with hF
    have hexec : Answers (.switchFilterCompletion l samples k) s (refresh (wakeStart (withFilter l F s))) := by
      have hne : ((s.filter l).level != level) = true := by simpa using hedge
      have htaken := foldl_sampleLine_completes hsampled k hlast
      rw [hne, readerTakes_wake (x := withFilter l F s) hsleep hkind] at htaken
      exact congrArg (fun x => (.next x : Answer)) htaken
    have hwoken := woken_refresh (woken_wakeStart (withFilter l F s))
    have hfilter := (hwoken.filter (hkind.symm.imp (·.1) id)).trans (filter_withFilter_same l F s)
    obtain ⟨
      hState, hKind, hStep, hPattern, hSpoiled, hSignature, hConfigured, hListening, hTxQueue, hRing, hCounters,
      hClock, hStore, hTripA, hTripB, hJourney, hWindow, hRange, hDue, hStamp, hPending, hVerified, hResolved,
      hLog, hCounts, hList, hChimes, hTone, hTrip, hItem, hLastError, hResidue, hLength, hIgnition, hDoor, hLamp,
      hGauges, hSignals⟩ := hwoken
    refine ⟨_, hexec,
      hState, hKind, hStep, hPattern, hSpoiled, hSignature, hConfigured, hListening, hTxQueue, hRing, hCounters,
      hClock, hStore, hTripA, hTripB, hJourney, hWindow, hRange, hDue, hStamp, hPending, hVerified, hResolved,
      hLog, hCounts, hList, hChimes, hTone, hTrip, hItem, hLastError, hResidue, hLength, fun hk => (by cases hk),
      fun l' samples' k' hk => ?_, hLamp, hGauges, hSignals⟩
    cases hk
    rw [hfilter]
    exact ⟨fun h => hedge h.symm, rfl⟩

end Sys2Proof.Machine
end

section
/-! CLAIM. The trim window (R158, R159), the supply and the first steps of a start (R175 to R178). -/

namespace Sys2Proof.Machine

open Sys2Proof

variable {s x t : State}

/-! ## The trim (R158, R159) -/

theorem partCounts_eq (trim : Int) (k : Nat) (hk : 1 ≤ k) :
    partCounts trim k = if (k : Int) ≤ trim then 2 else if (k : Int) ≤ -trim then 0 else 1 := by
  unfold partCounts
  split_ifs <;> omega

/-- A second leaves the window, the prescaler and the trim. -/
theorem Clock.tick_kept (c : Clock) :
    c.tick.windowCount = c.windowCount ∧ c.tick.prescaler = c.prescaler ∧ c.tick.trim = c.trim := by
  unfold Clock.tick
  split_ifs <;> exact ⟨rfl, rfl, rfl⟩

/-- Settles O51: the ending cycle of a part counts by the part's number, and a prescaler that is full passes a second. -/
theorem trimAdjustsTheCount : Obligations.TrimAdjustsTheCount := by
  unfold Obligations.TrimAdjustsTheCount
  intro s hok hoff
  constructor
  · intro cycles hlo hhi hpart k counts p
    have hprescaler : s.clock.prescaler < 32768 := by
      obtain ⟨-, -, -, -, h, -⟩ := hok
      exact h
    have hcounts : partCounts s.clock.trim k = counts := partCounts_eq _ _ (Nat.le_add_left _ _)
    have hcounts2 : counts ≤ 2 := by
      simp only [counts]
      split_ifs <;> omega
    have hexec : exec (.trimPartEnd cycles) s =
        if 32768 ≤ p then done (passSecond (s.setClock { s.clock with windowCount := 8192 * k, prescaler := p % 32768 }))
        else .next (s.setClock { s.clock with windowCount := 8192 * k, prescaler := p % 32768 }) := by
      have hp : s.clock.prescaler + (cycles - 1) + partCounts s.clock.trim k = p := by rw [hcounts]
      have hpart' : ¬(s.power.state = .off ∨ 128 ≤ s.clock.nextPart) :=
        not_or.mpr ⟨hoff, Nat.not_le.mpr (Nat.succ_lt_succ (Nat.lt_succ_of_le hpart))⟩
      rw [← hp]
      exact if_neg hpart'
    refine ⟨fun hlt => ?_, fun hge => ?_⟩
    · rw [if_neg (by omega), Nat.mod_eq_of_lt hlt] at hexec
      exact hexec
    · obtain ⟨q, hq⟩ : ∃ q, q = p - 32768 := ⟨_, rfl⟩
      have hmod : p % 32768 = q := by omega
      rw [if_pos hge, hmod] at hexec
      have hok' : ClockOk { s.clock with windowCount := 8192 * k, prescaler := q } := by
        obtain ⟨hh, hm, hs, hd, -, -, ht, hpend⟩ := hok
        exact ⟨hh, hm, hs, hd, by simp only; omega, by simp only; omega, ht, hpend⟩
      have hclock : (refresh (passSecond (s.setClock { s.clock with windowCount := 8192 * k, prescaler := q }))).clock =
          ({ s.clock with windowCount := 8192 * k, prescaler := q } : Clock).tick := by simp
      obtain ⟨hwindow, hpre, htrim⟩ :=
        Clock.tick_kept ({ s.clock with windowCount := 8192 * k, prescaler := q } : Clock)
      refine ⟨_, hexec, (((touches_setClock s _).mono (by simp)).trans ((touches_passSecond _).mono (by simp))).refresh (by simp), ?_,
        ?_, ?_, ?_⟩ <;> rw [hclock]
      · exact hwindow
      · exact hpre.trans hq
      · exact Clock.secondOfDay_tick hok'
      · exact htrim
  · have hexec : exec .trimWindowEnd s = _ := if_neg hoff
    refine hexec.trans ?_
    cases s.clock.pendingTrim <;> rfl

/-! ## The pattern memory (R177) -/

theorem usedAsMade (h : AsMade s) : UsedAsMade s := by
  simp only [UsedAsMade, State.definition, PowerUnit.definition, State.curve, State.peerChars, State.noWarningsText,
    State.setClockText, h]
  exact ⟨fun n => rfl, fun g => rfl, fun k => rfl, rfl, rfl⟩

theorem usedAsHeld (h : ¬AsMade s) : UsedAsHeld s := by
  have hspoiled : s.power.patternSpoiled = true := by simpa using h
  simp only [UsedAsHeld, State.definition, PowerUnit.definition, State.curve, State.peerChars, State.noWarningsText,
    State.setClockText, hspoiled, if_true]
  exact ⟨fun n => ⟨_, min_le_right _ _, fun hle => min_eq_left hle, rfl⟩, fun g => trivial, fun k => trivial, trivial, trivial⟩

theorem byteSum_ne_zero (bs : List Byte) : byteSum bs ≠ 0 ↔ (bs.map BitVec.toNat).sum % 256 ≠ 0 := by
  rw [← toNat_byteSum]
  exact not_congr ⟨fun h => by rw [h]; rfl, fun h => BitVec.eq_of_toNat_eq h⟩

/-! ## The RAM test (R178) -/

theorem ramTest_eq (ram : List (Vector Byte 8)) :
    ramTest ram = (ram.filter (fun x => decide (∃ i : Fin 8, x[i].toNat ≠ 2 ^ i.val))).length := by
  rw [ramTest, List.countP_eq_length_filter]
  congr 1
  refine List.filter_congr fun x _ => ?_
  rw [Bool.eq_iff_iff, decide_eq_true_eq, locationFails_iff]

/-! ## The keep-alive check (R176, R178) -/

/-- The signature of step 2 is bad, and the start is COLD from then on. -/
def badSignature (found : Option (BitVec 16)) (s : State) : Bool :=
  s.power.kind == .cold || found.getD s.power.signature != Config.keepAliveSignature

theorem badSignature_iff (found : Option (BitVec 16)) (s : State) :
    badSignature found s = true ↔ s.power.kind = .cold ∨ found.getD s.power.signature ≠ Config.keepAliveSignature := by
  simp [badSignature]

/-- A WARM or WAKE start that becomes COLD, with the conditions that bad cells may hold worked out. -/
def becomesCold (s : State) : State := evalSpoiled [.lightsOn, .keyIn, .clockUnset] (coldKeepAlive s)

theorem becomesCold_spec (s : State) :
    (becomesCold s).power = { s.power with kind := .cold } ∧ (becomesCold s).store = s.store ∧
      (becomesCold s).clock.valid = false ∧ (becomesCold s).odo.verified = none ∧ (becomesCold s).odo.pending = 0 ∧
      (AsMade s → (becomesCold s).wnu.log = []) ∧ (becomesCold s).trc.journey.awaiting = true ∧
      (becomesCold s).input.ignLength = 512 ∧
      ∀ l, (becomesCold s).filter l =
        if s.power.kind = .wake ∧ (l = .ignition ∨ l = .driverDoor) then
          { level := .inactive, last := none, run := 1, completed := false }
        else s.filter l := by
  have hfilter (l : SwitchLine) : (coldKeepAlive s).filter l =
      if s.power.kind = .wake ∧ (l = .ignition ∨ l = .driverDoor) then
        { level := .inactive, last := none, run := 1, completed := false }
      else s.filter l := by
    by_cases hwake : s.power.kind = .wake
    · cases l <;> simp [coldKeepAlive, State.filter, hwake, State.cold, SwitchLine.ix]
    · cases l <;> simp [coldKeepAlive, State.filter, hwake]
  refine ⟨by simp [becomesCold, coldKeepAlive], by simp [becomesCold], by simp [becomesCold, coldKeepAlive, State.cold],
    by simp [becomesCold, coldKeepAlive], by simp [becomesCold, coldKeepAlive], fun h => ?_,
    by simp [becomesCold, coldKeepAlive, State.cold], by simp [becomesCold, coldKeepAlive], fun l => ?_⟩
  · rw [becomesCold, evalSpoiled_asMade (s := coldKeepAlive s) h]
    rfl
  · rw [← hfilter l]
    simp [State.filter, becomesCold]

/-- The start goes on as a COLD one (R176, R178). -/
def startsCold (found : Option (BitVec 16)) (ram : List (Vector Byte 8)) (s : State) : Bool :=
  badSignature found s || decide (0 < ramTest ram)

theorem keepAliveCheck_eq (found : Option (BitVec 16)) (ram : List (Vector Byte 8)) (s : State) :
    keepAliveCheck found ram s =
      let s1 := if startsCold found ram s = true ∧ s.power.kind ≠ .cold then becomesCold s else s
      let s2 := if startsCold found ram s then recordCode 0x32 s1 else s1
      s2.setPower
        { s2.power with
          step := .step3
          signature :=
            if startsCold found ram s then Config.keepAliveSignature else found.getD s.power.signature
          signatureBad := badSignature found s, failedLocations := min (ramTest ram) 255 } := rfl

theorem keepAliveCheck_of_sound {found : Option (BitVec 16)} {ram : List (Vector Byte 8)}
    (h : startsCold found ram s = false) :
    keepAliveCheck found ram s =
      s.setPower
        { s.power with
          step := .step3, signature := found.getD s.power.signature, signatureBad := badSignature found s
          failedLocations := min (ramTest ram) 255 } := by
  rw [keepAliveCheck_eq]
  simp [h]

theorem keepAliveCheck_of_cold {found : Option (BitVec 16)} {ram : List (Vector Byte 8)} {u : State}
    (h : startsCold found ram s = true) (hu : (if s.power.kind ≠ .cold then becomesCold s else s) = u) :
    keepAliveCheck found ram s =
      (recordCode 0x32 u).setPower
        { u.power with
          step := .step3, signature := Config.keepAliveSignature, signatureBad := badSignature found s
          failedLocations := min (ramTest ram) 255 } := by
  rw [keepAliveCheck_eq, ← hu]
  simp [h]

theorem beginSteps_power (s : State) :
    (beginSteps s).power = { s.power with step := .step1, restartHold := none } := by
  unfold beginSteps
  dsimp only
  split_ifs <;> simp

theorem touches_beginSteps (s : State) : Touches [.power, .msc] s (beginSteps s) := by
  intro b hb
  cases b
  case power | msc => simp at hb
  all_goals simp [Agree]

/-- Settles O52: the supply, step 1 over the cells that have gone bad, step 2 by what is found and read, and the restart
hold. -/
theorem supplyAndFirstSteps : Obligations.SupplyAndFirstSteps := by
  unfold Obligations.SupplyAndFirstSteps
  intro s
  refine ⟨fun hpower => ?lost, fun hpower => ?applied, fun hpower hstep cells => ?step1, usedAsMade, usedAsHeld,
    fun hpower hstep found ram => ?step2, fun hpower hstep => ?hold⟩
  case lost =>
    have hexec : exec .keepAliveSupplyLost s = _ := if_neg hpower
    refine ⟨_, hexec, rfl, by simp [State.off, State.cold], by simp [State.off, State.cold], fun hidle => ?_⟩
    simp [State.off, State.cold, cutUnit_idle hidle]
  case applied =>
    have hexec : exec .keepAliveSupplyApplied s = _ := if_pos hpower
    exact ⟨_, hexec, rfl, rfl, rfl, rfl, rfl, rfl, rfl, rfl, rfl, rfl, rfl, rfl⟩
  case step1 =>
    have hat : s.atStep .step1 = true := by simp [State.atStep, hpower, hstep]
    have hexec : exec (.patternMemoryChecksum cells) s = _ := if_pos hat
    obtain ⟨htouch, hpower', hrqs⟩ := patternCheck_spec cells s
    have hsum := byteSum_ne_zero (withCells cells s.power.patternMemory)
    have hfail : (byteSum (withCells cells s.power.patternMemory) != 0) =
        decide (((withCells cells s.power.patternMemory).map BitVec.toNat).sum % 256 ≠ 0) := by
      rw [Bool.eq_iff_iff, bne_iff_ne, decide_eq_true_eq]
      exact hsum
    have hcells : (!cells.isEmpty) = decide (cells ≠ []) := by cases cells <;> rfl
    rw [hfail, hcells] at hpower'
    simp only [hsum, ite_not] at hrqs
    have hmemory : (patternCheck cells s).power.patternMemory = withCells cells s.power.patternMemory := by rw [hpower']
    have hspoiled : (patternCheck cells s).power.patternSpoiled = (s.power.patternSpoiled || decide (cells ≠ [])) := by
      rw [hpower']
    rw [← hmemory] at hpower' hrqs
    refine ⟨_, hexec, htouch, ⟨?_, ?_, ?_, hpower', hrqs⟩, fun hmade hnone => usedAsMade ?_, fun h => usedAsHeld ?_⟩
    · rw [hmemory]
      exact withCells_length _ _
    · rw [hmemory]
      exact fun i => withCells_other
    · rw [hmemory]
      rintro l i x r hl hr hi
      rw [withCells_length] at hi
      rw [hl]
      exact withCells_last hr hi
    · rw [AsMade, hspoiled, hnone, show s.power.patternSpoiled = false from hmade]
      rfl
    · rw [AsMade, hspoiled]
      rcases h with h | h <;> simp [h]
  case step2 =>
    have hat : s.atStep .step2 = true := by simp [State.atStep, hpower, hstep]
    have hexec : exec (.keepAliveSignatureCheck found ram) s = done (keepAliveCheck found ram s) := if_pos hat
    intro bad failed
    have hfailed : ramTest ram = failed := ramTest_eq ram
    have hbad : badSignature found s = true ↔ s.power.kind = .cold ∨ bad := badSignature_iff found s
    have hcold : startsCold found ram s = true ↔ s.power.kind = .cold ∨ bad ∨ 0 < failed := by
      simp [startsCold, hbad, hfailed, or_assoc]
    by_cases hc : startsCold found ram s = true
    · obtain ⟨u, hu⟩ : ∃ u, (if s.power.kind ≠ .cold then becomesCold s else s) = u := ⟨_, rfl⟩
      have hspec := becomesCold_spec s
      have hupower : u.power = { s.power with kind := .cold } ∧ u.store = s.store := by
        rw [← hu]
        split_ifs with hk
        · exact ⟨hspec.1, hspec.2.1⟩
        · refine ⟨?_, rfl⟩
          rw [← not_not.mp hk]
      rw [keepAliveCheck_of_cold hc hu] at hexec
      refine ⟨_, hexec, by simp, by simp, by simp [hfailed], by simp [hbad], by simp [hupower], by simp [hupower], by simp [hupower],
        by simp [hupower], fun _ => by simp [hupower], fun hk _ => ?_, fun hk hsound hzero => ?_⟩
      · rw [if_pos hk] at hu
        rw [hu] at hspec
        obtain ⟨-, -, hvalid, hverified, hpending, hlog, hawaiting, hlength, hfilter⟩ := hspec
        refine ⟨by simpa using hvalid, by simpa using hverified, by simpa using hpending, fun h => by simpa using hlog h,
          by simpa using hawaiting, by simpa using hlength, fun l => ?_⟩
        rw [← hfilter l]
        simp [State.filter]
      · exact absurd (hcold.mp hc) (by simp [hk, hsound, hzero])
    · rw [keepAliveCheck_of_sound (by simpa using hc)] at hexec
      have hnot := hcold.not.mp hc
      simp only [not_or] at hnot
      obtain ⟨hk, hsound, hzero⟩ := hnot
      refine ⟨_, hexec, by simp, ?_, by simp [hfailed], by simp [hbad], by simp, by simp, by simp, by simp,
        fun h => absurd (hcold.mpr h) hc, fun _ h => absurd (hcold.mpr (.inr h)) hc, fun _ _ _ => by simp⟩
      simpa using not_not.mp hsound
  case hold =>
    have hat : s.atStep .hold = true := by simp [State.atStep, hpower, hstep]
    have hexec : exec .restartHoldExpiry s = done (beginSteps s) := if_pos hat
    refine ⟨_, hexec, (touches_beginSteps s).refresh (by simp), ?_, fun hon hnone => ?_⟩
    · rw [(refresh_frame _).1, beginSteps_power]
    · have hon' : s.ignitionOn = true := by simpa [State.ignitionOn, State.lineLevel] using hon
      rw [refresh_msc_kept, beginSteps_eq hnone, if_pos hon']
      exact ⟨rfl, rfl⟩

end Sys2Proof.Machine
end

section
/-! CLAIM. The course of a warning (R124 to R131): its announcement, acknowledgement, re-announcement and leaving, the
windows and the running timer (R122, R123), and the tone (R137, R138). -/

namespace Sys2Proof.Machine

open Sys2Proof

variable {s t x : State} {n : Warning}

/-! ## What the noting of the head and a warning's chime change (R125, R128) -/

/-- Noting the head changes status records alone. -/
theorem noteHead_wnu (s : State) : (noteHead s).wnu = { s.wnu with records := (noteHead s).wnu.records } := by
  unfold noteHead
  rcases noteHead_cases s.classOf s.wnu with heq | ⟨n, -, -, -, heq⟩
  · rw [State.setWnu_wnu, heq]
  · rw [State.setWnu_wnu, heq]
    rfl

/-- The head that is noted is unacknowledged: any other warning's record stays whole. -/
theorem noteHead_record_of_not (h : (s.wnu.record n).unacknowledged = false) :
    (noteHead s).wnu.record n = s.wnu.record n := by
  unfold noteHead
  rcases noteHead_cases s.classOf s.wnu with heq | ⟨m, hhead, -, -, heq⟩ <;> rw [State.setWnu_wnu, heq]
  refine WarningUnit.record_setRecord_other s.wnu _ ?_
  rintro rfl
  exact Bool.noConfusion (h.symm.trans (headUnacknowledged_eq_some hhead).2)

/-- A warning's chime sounds at once on an IDLE tone. -/
theorem chimeForWarning_tone {p : Pattern} (hp : (s.definition n).pattern = some p) (hpowered : s.powered = true)
    (hphase : s.power.endPhase = .none) (htone : s.wnu.tone = .idle) (hempty : s.wnu.chimes = []) :
    ∃ k, (chimeForWarning n s).wnu.tone =
      .sounding { source := .warning n, pattern := p, cls := s.classOf n, entered := k } := by
  have htaken : s.warningChimesTaken = true := by simp [State.warningChimesTaken, hpowered, hphase]
  refine ⟨s.moment, ?_⟩
  unfold chimeForWarning
  rw [hp]
  dsimp only
  rw [if_pos htaken]
  simp [WarningUnit.giveChime, htone, hempty, chimeJoin, chimeOf, chimeInsert, WarningUnit.startHead]

/-! ## The announcement and the leaving (R125, R126, R133, R134) -/

theorem touches_announce (n : Warning) (s : State) : Touches [.link, .wnu, .seq] s (announce n s) := by
  intro b hb
  cases b
  case link | wnu | seq => simp at hb
  all_goals simp [Agree]

theorem touches_leaveList (n : Warning) (s : State) : Touches [.link, .wnu, .seq] s (leaveList n s) := by
  intro b hb
  cases b
  case link | wnu | seq => simp at hb
  all_goals simp [Agree]

/-- What is announced: the log takes the warning, and its chime is given. -/
theorem announce_wnu (n : Warning) (s : State) :
    ∃ x, x.power = s.power ∧ x.clock = s.clock ∧ x.odo = s.odo ∧ x.wnu.log = s.wnu.log ∧
      x.wnu.overflow = s.wnu.overflow ∧ x.wnu.tone = s.wnu.tone ∧ x.wnu.chimes = s.wnu.chimes ∧
      (announce n s).wnu.list = listInsert s.classOf n s.wnu.list ∧
      (announce n s).wnu.counts = s.wnu.counts.set n.ix (min (s.wnu.counts[n.ix] + 1) 255) ∧
      (announce n s).wnu.log = (logAppend n x).wnu.log ∧
      (announce n s).wnu.overflow = (logAppend n x).wnu.overflow ∧
      (announce n s).wnu.tone = (chimeForWarning n (countOccurrence n (logAppend n x))).wnu.tone := by
  refine ⟨offerWarnings (s.setWnu { s.wnu.setRecord n (announcedRecord n s.moment) with
    list := listInsert s.classOf n s.wnu.list }).nextMoment, by simp, by simp, by simp,
    ?_, ?_, by simp, by simp, ?_, ?_, ?_, ?_, ?_⟩
  · rw [(offerWarnings_frame _).2.2.2.2.2.2.2.1]
    rfl
  · rw [(offerWarnings_frame _).2.2.2.2.2.2.2.1]
    rfl
  all_goals rw [announce_eq, noteHead_wnu]
  · exact (announcing_records n s).2
  · exact announcing_counts n s
  all_goals
    unfold announcing
    dsimp only
  · rw [chimeForWarning_wnu, countOccurrence_wnu]
  · rw [chimeForWarning_wnu, countOccurrence_wnu]

/-- The end of a pattern looks at the tone alone. -/
theorem stopSounding_withRecords (w : WarningUnit) (rs : Vector WarningRecord 24) (l : List Warning) (src : ChimeSource)
    (stops : Pattern → Bool) :
    { w with records := rs, list := l }.stopSounding src stops =
      { w.stopSounding src stops with records := rs, list := l } := by
  obtain ⟨_, _, _, _, _, _, tone, _⟩ := w
  unfold WarningUnit.stopSounding
  cases tone with
  | sounding r =>
    dsimp only
    split_ifs <;> rfl
  | idle | silent | spacing => rfl

/-- What leaves: the list and the chime queue lose the warning, and its pattern ends. -/
theorem leaveList_wnu (n : Warning) (s : State) :
    ∃ w, w = ({ s.wnu with chimes := chimeRemove (.warning n) s.wnu.chimes }.stopSounding (.warning n) (fun _ => true)) ∧
      (leaveList n s).wnu =
        { w with records := (leaveList n s).wnu.records, list := s.wnu.list.filter (· != n) } := by
  have hleaving : (leaving n s).wnu = WarningUnit.cancelLeft
      { s.wnu.setRecord n inactiveRecord with list := s.wnu.list.filter (· != n) } n :=
    (offerWarnings_frame _).2.2.2.2.2.2.2.1
  have hcancel := stopSounding_withRecords { s.wnu with chimes := chimeRemove (.warning n) s.wnu.chimes }
    (s.wnu.setRecord n inactiveRecord).records (s.wnu.list.filter (· != n)) (.warning n) (fun _ => true)
  refine ⟨_, rfl, ?_⟩
  rw [leaveList_eq, noteHead_wnu, hleaving]
  generalize (noteHead (leaving n s)).wnu.records = rs
  exact congrArg (fun w : WarningUnit => { w with records := rs }) hcancel

/-- The log takes a warning of class 0 to 2 while it holds fewer than 16, and counts an overflow from then on (R133). -/
theorem logAppend_log (hcls : s.classOf n ≤ 2) :
    (s.wnu.log.length < 16 →
      (logAppend n s).wnu.log = s.wnu.log ++ [{ warning := n, stamp := s.clock.stamp, km := s.odo.handedKm }] ∧
        (logAppend n s).wnu.overflow = s.wnu.overflow) ∧
      (16 ≤ s.wnu.log.length →
        (logAppend n s).wnu.log = s.wnu.log ∧ (logAppend n s).wnu.overflow = min (s.wnu.overflow + 1) 255) := by
  unfold logAppend
  rw [if_pos hcls]
  exact ⟨fun h => by rw [if_pos h]; exact ⟨rfl, rfl⟩, fun h => by rw [if_neg (by omega)]; exact ⟨rfl, rfl⟩⟩

/-- A warning joins the ordered list behind those of its own and smaller classes (R131). -/
theorem listInsert_joins (h : WarningInv s) :
    ∃ p q, s.wnu.list = p ++ q ∧ listInsert s.classOf n s.wnu.list = p ++ n :: q ∧
      (∀ m ∈ q, s.classOf n < s.classOf m) ∧ (∀ m, p.getLast? = some m → s.classOf m ≤ s.classOf n) ∧
      (AsMade s → ∀ m ∈ p, m.cls ≤ n.cls) := by
  obtain ⟨p, q, hl, hi, hq, hp⟩ := listInsert_split s.classOf n s.wnu.list
  refine ⟨p, q, hl, hi, hq, hp, fun hmade m hm => ?_⟩
  have hsorted := listInsert_sorted (cls := s.classOf) (n := n) (l := s.wnu.list)
    (by simpa only [classOf_asMade hmade] using (h.2.2 hmade).1)
  rw [hi] at hsorted
  have hmn := (List.pairwise_append.mp hsorted).2.2 m hm n (by simp)
  rwa [classOf_asMade hmade, classOf_asMade hmade] at hmn

/-- Settles O47: a PENDING warning whose time has run is announced, and a CLEARING one leaves. -/
theorem warningsAnnounceAndLeave : Obligations.WarningsAnnounceAndLeave := by
  unfold Obligations.WarningsAnnounceAndLeave
  intro s n hinv hpowered
  obtain ⟨-, htimer, -⟩ := hinv.2.1 n
  have hrefresh (u : State) : (refresh u).wnu = u.wnu := (refresh_frame u).2.2.2.2.2.2.2.2.1
  have hoffer {u : State} (hlisted : WarningsRoom s → ListOffered u) (hinv' : WarningInv u) :
      RoomFor s 0x62 → ∃ f, WarningsFrame (refresh u) f ∧ Queued (refresh u) f := by
    exact warningsOffered_of_listOffered (WarnBefore.refl s) (warnAfter_refresh u).toWarnShown
      (fun _ => (warnAfter_refresh u).queue) (fun _ => hinv') hlisted hinv
  refine ⟨fun hst => ?_, fun hst => ?_⟩
  · have hexec : exec (.qualifyTimerExpiry n) s = done (announce n s) :=
      if_pos ⟨hpowered, hst, htimer.mpr (.inl hst)⟩
    obtain ⟨x, hpower, hclock, hodo, hlog, hover, htone, hchimes, hlist, hcounts, hlog', hover', htone'⟩ := announce_wnu n s
    have hclassOf : x.classOf = s.classOf := State.classOf_of_power hpower
    have hrecord := recordIs_announce n s
    rw [RecordIs] at hrecord
    refine ⟨refresh (announce n s), hexec, ((touches_announce n s).mono (by simp)).refresh (by simp), ?_, ?_,
      hoffer (fun h => listOffered_announce h n) ?_, fun m hm => ?_, ?_, fun m => ?_, fun hc h => ?_, fun hc h => ?_,
      fun p hp hphase hidle hempty => ?_⟩
    · rw [hrefresh, hrecord]
      rfl
    · rw [hrefresh, hrecord]
      rfl
    · exact keeps_announce (k := .warning) (.inr hst) hinv
    · rw [hrefresh]
      exact (sameRecord_announce hm s).state
    · rw [hrefresh, hlist]
      exact listInsert_joins hinv
    · rw [hrefresh, hcounts]
      split_ifs with hm
      · subst hm
        simp
      · exact count_set_other hm
    · rw [hrefresh, hlog', hover']
      have h' := (logAppend_log (s := x) (n := n) (by rwa [hclassOf])).1 (by rwa [hlog])
      rwa [hlog, hover, hclock, hodo] at h'
    · rw [hrefresh, hlog', hover']
      have h' := (logAppend_log (s := x) (n := n) (by rwa [hclassOf])).2 (by rwa [hlog])
      rwa [hlog, hover] at h'
    · have hp' : (countOccurrence n (logAppend n x)).power = s.power := by simp [hpower]
      have hw : (countOccurrence n (logAppend n x)).wnu.tone = s.wnu.tone ∧
          (countOccurrence n (logAppend n x)).wnu.chimes = s.wnu.chimes := by
        rw [countOccurrence_wnu, logAppend_wnu]
        exact ⟨htone, hchimes⟩
      rw [hrefresh, htone', ← State.classOf_of_power hp']
      refine chimeForWarning_tone (by rwa [State.definition_of_power hp']) ?_ (by rwa [hp']) (hw.1.trans hidle)
        (hw.2.trans hempty)
      rwa [State.powered, State.awake, hp']
  · have hexec : exec (.releaseTimerExpiry n) s = done (leaveList n s) :=
      if_pos ⟨hpowered, hst, htimer.mpr (.inr hst)⟩
    obtain ⟨hstops, hgoes⟩ := tone_stopSounding { s.wnu with chimes := chimeRemove (.warning n) s.wnu.chimes }
      (.warning n) (fun _ => true)
    obtain ⟨w, hw, hunit⟩ := leaveList_wnu n s
    have hkept := stopSounding_wnu { s.wnu with chimes := chimeRemove (.warning n) s.wnu.chimes } (.warning n) (fun _ => true)
    rw [← hw] at hstops hgoes hkept
    refine ⟨refresh (leaveList n s), hexec, ((touches_leaveList n s).mono (by simp)).refresh (by simp), ?_,
      hoffer (fun h => listOffered_leaveList h n) (keeps_leaveList (k := .warning) n s hinv), fun m hm => ?_, ?_, ?_, ?_,
      ?_, fun r hr hs => ?_, fun hother => ?_⟩
    all_goals rw [hrefresh]
    · exact (madeMove_leaveList (s.definition n) n s).1
    · exact (sameRecord_leaveList hm s).state
    all_goals rw [hunit]
    · exact List.filter_congr fun m _ => by by_cases h : m = n <;> simp [h]
    · rw [hkept]
    · rw [hkept]
    · rw [hkept]
      exact chimeRemove_eq_filter _ _
    · exact hstops r hr hs rfl
    · rw [hgoes fun r hr hc => hother r hr hc.1]

/-! ## The windows and the running timer (R122, R123) -/

/-- One warning's condition worked out is its move. -/
theorem evalWarnings_singleton (h : s.powered = true) (n : Warning) : evalWarnings [n] s = applyMove n s := by
  unfold evalWarnings evalTogether
  rw [if_pos h]
  cases hl : (s.moveOf n).listChange with
  | true => simp [hl, applyTogether, applyLoud]
  | false => simp [hl, applyTogether]

/-- A move that neither announces nor leaves keeps the list. -/
theorem applyMove_list (h : (s.moveOf n).listChange = false) : (applyMove n s).wnu.list = s.wnu.list := by
  have hput (r : WarningRecord) : (noteHead (s.setWnu (s.wnu.setRecord n r))).wnu.list = s.wnu.list := by
    rw [noteHead_wnu]
    rfl
  unfold applyMove
  dsimp only
  cases hm : s.moveOf n with
  | stay => rfl
  | announce | leave => exact absurd h (by simp [hm, WarnMove.listChange])
  | qualify | drop | clear | restore => exact hput _

/-- A warning that qualifies and clears over a time moves without a change of the list. -/
theorem moveOf_quiet (hq : (s.definition n).qualifyMs ≠ 0) (hr : (s.definition n).releaseMs ≠ 0) :
    (s.moveOf n).listChange = false := by
  unfold State.moveOf warnMove
  rw [if_neg hq, if_neg hr]
  split_ifs
  · rfl
  · cases (s.wnu.record n).state <;> cases condition n s <;> rfl

/-- The end of a window or timer of the Warning Unit, with the one condition that reads it worked out. -/
theorem windowEnds {w : WarningUnit} (hpowered : s.powered = true) (hservice : n ≠ .serviceDue ∧ n ≠ .serviceSoon)
    (hrecords : w.records = s.wnu.records) (hlist : w.list = s.wnu.list) (hcounts : w.counts = s.wnu.counts) :
    ∃ t, done (evalWarnings [n] (s.setWnu w)) = .next t ∧ Touches [.link, .wnu, .msc, .seq, .draw] s t ∧
      WarningsMoved [n] [] s t ∧ OnlyMoves (s.setWnu w) t ∧ (WarningInv s → WarningInv t) ∧
      ((s.definition n).qualifyMs ≠ 0 → (s.definition n).releaseMs ≠ 0 → t.wnu.list = s.wnu.list) := by
  have hbefore : WarnBefore s (s.setWnu w) := ⟨hrecords, hlist, hcounts, rfl, WarningsRoom.of_roomFor⟩
  have hunit : (refresh (evalWarnings [n] (s.setWnu w))).wnu = (evalWarnings [n] (s.setWnu w)).wnu :=
    (refresh_frame _).2.2.2.2.2.2.2.2.1
  refine ⟨refresh (evalWarnings [n] (s.setWnu w)), rfl, ?_, ?_, ?_, fun h => ?_, fun hq hr => ?_⟩
  · have hput : Touches [.wnu] s (s.setWnu w) := by
      intro b hb
      cases b
      case wnu => simp at hb
      all_goals rfl
    exact ((hput.mono (by simp)).trans ((touches_evalWarnings [n] (s.setWnu w)).mono (by simp))).refresh (by simp)
  · exact warningsMoved_evalWarnings (s := s.setWnu w) hpowered (by simp) (by simpa using hservice) hbefore
      (warnAfter_refresh _)
  · have honly : OnlyMoves (s.setWnu w) (evalWarnings [n] (s.setWnu w)) := onlyMoves_evalTogether [] [n] (s.setWnu w)
    rwa [OnlyMoves, ← hunit] at honly
  · exact keeps_refresh (k := .warning) _ (keeps_evalWarnings (k := .warning) [n] (s.setWnu w) (hbefore.warningInv h))
  · rw [hunit, evalWarnings_singleton (by exact hpowered), applyMove_list (moveOf_quiet (by exact hq) (by exact hr))]
    exact hlist

/-- Where only what conditions do not read was touched, the pattern memory is as made and the signals are the same. -/
theorem asMade_of_touches {bs : List Block} (h : Touches bs s t) (hmade : AsMade s) (hpower : .power ∉ bs)
    (hsignals : .signals ∉ bs) : AsMade t ∧ t.signals = s.signals := by
  have hp : t.power = s.power := h .power hpower
  exact ⟨by rwa [AsMade, hp], h .signals hsignals⟩

/-- With the pattern memory as made a condition is R121's. -/
theorem holds_of_table {st : WarnState} (hmade : AsMade t) (h : TableHolds n st t) : Holds n st t :=
  ⟨fun _ => h, fun hbad => absurd hmade hbad⟩

/-- A warning whose record is INACTIVE is not on the list. -/
theorem not_listed_of_inactive (hinv : WarningInv s) (h : (s.wnu.record n).state = .inactive) : n ∉ s.wnu.list := by
  intro hn
  rcases (hinv.2.1 n).1.mp hn with h' | h' | h' <;> rw [h] at h' <;> exact WarnState.noConfusion h'

/-- Settles O48: each window and the running timer ends with the condition that reads it worked out. -/
theorem warningWindowsEnd : Obligations.WarningWindowsEnd := by
  unfold Obligations.WarningWindowsEnd
  intro s hinv hpowered
  refine ⟨fun hrunning => ?_, fun hwindow => ?_, fun hwindow => ?_⟩
  · have hexec : exec .engineRunningTimerExpiry s =
        done (evalWarnings [.oilPressure] (s.setWnu { s.wnu with runningTimer := none, runningLong := true })) :=
      if_pos ⟨hpowered, hrunning⟩
    obtain ⟨t, hdone, htouches, hmoved, honly, -, hlist⟩ := windowEnds (s := s) (n := .oilPressure)
      (w := { s.wnu with runningTimer := none, runningLong := true }) hpowered (by simp) rfl rfl rfl
    have hlong : t.wnu.runningLong = true := by
      rw [honly]
      rfl
    refine ⟨t, hexec.trans hdone, htouches, by rw [honly]; rfl, hlong, hmoved, fun hmade => ?_, fun hmade hst hrun htest => ?_⟩
    · rw [definition_asMade hmade] at hlist
      exact hlist (by decide) (by decide)
    · obtain ⟨hmade', hsignals⟩ := asMade_of_touches htouches hmade (by simp) (by simp)
      have hholds : TableHolds .oilPressure (s.wnu.record .oilPressure).state t :=
        ⟨by simpa only [State.signal, hsignals] using htest, by simpa only [Running, State.signal, hsignals] using hrun, hlong⟩
      have hrecord := (((hmoved .oilPressure).1 (by simp)).1 hst).2.2 (holds_of_table hmade' hholds)
      rw [RecordIs, definition_asMade hmade'] at hrecord
      have hrecord := hrecord (by decide)
      exact ⟨by rw [hrecord], by rw [hrecord]; rfl⟩
  · have hexec : exec .linkWindowExpiry s =
        done (evalWarnings [.engineLinkLost] (s.setWnu { s.wnu with linkWindow := none })) :=
      if_pos ⟨hpowered, hwindow⟩
    obtain ⟨t, hdone, htouches, hmoved, honly, -⟩ := windowEnds (s := s) (n := .engineLinkLost)
      (w := { s.wnu with linkWindow := none }) hpowered (by simp) rfl rfl rfl
    have hclosed : t.wnu.linkWindow = none := by
      rw [honly]
      rfl
    refine ⟨t, hexec.trans hdone, htouches, hclosed, hmoved, fun hmade hrun hst hlost => ?_⟩
    obtain ⟨hmade', hsignals⟩ := asMade_of_touches htouches hmade (by simp) (by simp)
    have hpower : t.power = s.power := htouches .power (by simp)
    have hholds : TableHolds .engineLinkLost (s.wnu.record .engineLinkLost).state t :=
      ⟨by rwa [hpower], hclosed, by simpa only [State.signal, hsignals] using hlost⟩
    have hannounced := (((hmoved .engineLinkLost).1 (by simp)).1 hst).2.1 (holds_of_table hmade' hholds)
      (by rw [definition_asMade hmade']; rfl)
    exact ⟨hannounced.1, hannounced.2.2.2.1⟩
  · have hexec : exec .beltWindowExpiry s = done (evalWarnings [.belt] (s.setWnu { s.wnu with beltWindow := none })) :=
      if_pos ⟨hpowered, hwindow⟩
    obtain ⟨t, hdone, htouches, hmoved, honly, hkeeps, -⟩ := windowEnds (s := s) (n := .belt)
      (w := { s.wnu with beltWindow := none }) hpowered (by simp) rfl rfl rfl
    have hclosed : t.wnu.beltWindow = none := by
      rw [honly]
      rfl
    refine ⟨t, hexec.trans hdone, htouches, hclosed, hmoved, fun hmade hst => ?_⟩
    obtain ⟨hmade', -⟩ := asMade_of_touches htouches hmade (by simp) (by simp)
    have hfails : ¬Holds .belt (s.wnu.record .belt).state t := fun h => by
      have hopen := (h.1 hmade').2.1
      rw [hclosed] at hopen
      exact Bool.noConfusion hopen
    have hrelease : (t.definition .belt).releaseMs = 0 := by
      rw [definition_asMade hmade']
      rfl
    obtain ⟨hinactive, hpending, hlisted, -⟩ := (hmoved .belt).1 (by simp)
    have hstate : (t.wnu.record .belt).state = .inactive := by
      cases hwas : (s.wnu.record .belt).state with
      | clearing => exact absurd hwas hst
      | inactive => exact (SameRecord.state ((hinactive hwas).1 hfails).1).trans hwas
      | pending =>
        have h := (hpending hwas).2 hfails
        rw [RecordIs] at h
        rw [h]
      | active =>
        rw [((hlisted (.inl hwas)).2.1 hfails hrelease).1]
        rfl
      | acknowledged =>
        rw [((hlisted (.inr hwas)).2.1 hfails hrelease).1]
        rfl
    exact ⟨hstate, not_listed_of_inactive (hkeeps hinv) hstate⟩

/-! ## The acknowledgement (R127 to R130) -/

/-- An acknowledged record is not unacknowledged. -/
theorem acknowledgedRecord_done (cls : Nat) (r : WarningRecord) :
    (acknowledgedRecord cls r).unacknowledged = false := by
  by_cases hactive : r.state = .active
  · rw [acknowledgedRecord, if_pos hactive]
    rfl
  · have hstate : (r.state == .active) = false := by simpa using hactive
    rw [acknowledgedRecord, if_neg hactive]
    simp [WarningRecord.unacknowledged, hstate]

/-- What an acknowledgement makes of the Warning Unit: the record, and the chime's cancel; the head is noted after it. -/
theorem acknowledge_wnu (h : (s.wnu.record n).unacknowledged = true) :
    ∃ w, w = ({ s.wnu with chimes := chimeRemove (.warning n) s.wnu.chimes }.stopSounding (.warning n) (·.continuous)) ∧
      (acknowledge n s).wnu = { w with records := (acknowledge n s).wnu.records } ∧
      (acknowledge n s).wnu.record n = acknowledgedRecord (s.classOf n) (s.wnu.record n) ∧
      ∀ m, m ≠ n → SameRecord m s (acknowledge n s) := by
  set r := acknowledgedRecord (s.classOf n) (s.wnu.record n)
  set u := s.setWnu ((s.wnu.setRecord n r).cancelAcknowledged n) with hu
  have hack : acknowledge n s = noteHead u := if_pos h
  have hunit : u.wnu =
      { { s.wnu with chimes := chimeRemove (.warning n) s.wnu.chimes }.stopSounding (.warning n) (·.continuous) with
        records := (s.wnu.setRecord n r).records, list := s.wnu.list } :=
    stopSounding_withRecords { s.wnu with chimes := chimeRemove (.warning n) s.wnu.chimes }
      (s.wnu.setRecord n r).records s.wnu.list (.warning n) (·.continuous)
  have hkept := stopSounding_wnu { s.wnu with chimes := chimeRemove (.warning n) s.wnu.chimes } (.warning n) (·.continuous)
  have hrecords : u.wnu.records = (s.wnu.setRecord n r).records := by rw [hunit]
  have hrecord (m : Warning) : u.wnu.record m = (s.wnu.setRecord n r).record m := by
    rw [WarningUnit.record, WarningUnit.record, hrecords]
  refine ⟨_, rfl, ?_, ?_, fun m hm => ?_⟩ <;> rw [hack]
  · rw [noteHead_wnu]
    generalize (noteHead u).wnu.records = rs
    refine (congrArg (fun w : WarningUnit => { w with records := rs }) hunit).trans ?_
    rw [hkept]
  · have hself := (hrecord n).trans (WarningUnit.record_setRecord_same s.wnu n r)
    rw [noteHead_record_of_not (by rw [hself]; exact acknowledgedRecord_done _ _), hself]
  · exact (SameRecord.of_record ((hrecord m).trans (WarningUnit.record_setRecord_other s.wnu r hm))).trans
      (sameRecord_noteHead m u)

/-- A CHECK PRESS acknowledges the head unacknowledged warning, once the event is taken. -/
theorem exec_checkPress {rest : List ButtonEvent} (hawake : s.awake = true) (he : s.input.events = .press .check :: rest)
    (hhead : s.wnu.headUnacknowledged = some n) :
    ∃ m, exec .checkPress s = .next (refresh (acknowledge n (taken rest m s))) := by
  refine ⟨downed (.press .check) s, ?_⟩
  have hfront : exec .checkPress s =
      .next (onButton (.press .check) (fun t => if t.awake then acknowledgeHead t else t) s) := rfl
  have hact : acknowledgeHead (taken rest (downed (.press .check) s) s) =
      acknowledge n (taken rest (downed (.press .check) s) s) := by
    rw [acknowledgeHead]
    exact (congrArg (fun o => match o with
      | some n => acknowledge n (taken rest (downed (.press .check) s) s)
      | none => taken rest (downed (.press .check) s) s) hhead)
  have hmark (x : State) : markEvent (.press .check) x = x := if_neg (by simp [ButtonEvent.clearsMark])
  rw [hfront, onButton_of_front he (powered_of_awake hawake), takeEvent_awake hawake, hmark, if_pos (by exact hawake), hact]

/-- Settles O39: each of the three ways acknowledges the warning and cancels its chime. -/
theorem acknowledgementTakesWarning : Obligations.AcknowledgementTakesWarning := by
  unfold Obligations.AcknowledgementTakesWarning
  intro s n c hinv hun hway
  have hcommon : ∃ u, Answers c s (refresh (acknowledge n u)) ∧ Touches [.input, .msc] s u := by
    rcases hway with ⟨rest, rfl, hawake, he, hhead⟩ | ⟨rfl, hpowered, htimer⟩ | ⟨rfl, hpowered, htimer⟩
    · obtain ⟨m, hexec⟩ := exec_checkPress hawake he hhead
      exact ⟨_, hexec, touches_taken rest m s⟩
    · have hexec : exec (.autoAcknowledgeExpiry n) s = done (acknowledge n s) := if_pos ⟨hpowered, htimer⟩
      exact ⟨s, hexec, Touches.refl _ _⟩
    · have hexec : exec (.serviceDisplayTimerExpiry n) s = done (acknowledge n s) := if_pos ⟨hpowered, htimer⟩
      exact ⟨s, hexec, Touches.refl _ _⟩
  obtain ⟨u, hexec, htouches⟩ := hcommon
  have huw : u.wnu = s.wnu := htouches .wnu (by simp)
  have hclassOf : u.classOf = s.classOf := State.classOf_of_power (htouches .power (by simp))
  obtain ⟨w, hw, hunit, hrecord, hothers⟩ := acknowledge_wnu (s := u) (n := n) (by rwa [huw])
  obtain ⟨hstops, hgoes⟩ := tone_stopSounding { u.wnu with chimes := chimeRemove (.warning n) u.wnu.chimes }
    (.warning n) (·.continuous)
  have hkept := stopSounding_wnu { u.wnu with chimes := chimeRemove (.warning n) u.wnu.chimes } (.warning n) (·.continuous)
  rw [← hw] at hstops hgoes hkept
  rw [huw] at hstops hgoes hkept hrecord
  rw [hclassOf] at hrecord
  have hrefresh : (refresh (acknowledge n u)).wnu = (acknowledge n u).wnu := (refresh_frame _).2.2.2.2.2.2.2.2.1
  refine ⟨_, hexec, ?_, fun hst => ?_, fun hst => ?_, fun m hm => ?_, ?_, ?_, ?_, ?_, fun r hr hs hc => ?_, fun h => ?_⟩
  · have hack : Touches [.wnu] u (acknowledge n u) := by
      intro b hb
      cases b
      case wnu => simp at hb
      all_goals simp [Agree]
    exact ((htouches.mono (by simp)).trans (hack.mono (by simp))).refresh (by simp)
  all_goals rw [hrefresh]
  · rw [hrecord, acknowledgedRecord, if_pos hst]
  · rw [hrecord, acknowledgedRecord, if_neg (by simp [hst])]
  · have hsame := hothers m hm
    rw [SameRecord, RecordIs, huw] at hsame
    rw [hsame]
    exact ⟨rfl, rfl⟩
  all_goals rw [hunit]
  · rw [hkept]
  · rw [hkept]
  · rw [hkept]
  · rw [hkept]
    exact chimeRemove_eq_filter _ _
  · exact hstops r hr hs hc
  · rw [hgoes fun r hr hc => (h r hr).elim (fun hne => hne hc.1) fun hone => Bool.noConfusion (hone.symm.trans hc.2)]

/-! ## The re-announcement and the tone (R129, R137, R138) -/

/-- A CRITICAL warning as made sounds ALARM (R121). -/
theorem pattern_of_critical (h : n.cls = 0) : n.pattern = some .alarm := by
  cases n
  case oilPressure | coolantHot | brakeFluid | parkBrakeMoving => rfl
  all_goals exact absurd h (by decide)

/-- The patterns of R137, as what each sounds over time: a number for each tone's frequency. -/
def patternHertz (p : Pattern) (ms : Nat) : Nat :=
  match p with
  | .gong1 => if ms < 400 then 1000 else 0
  | .gong3 => if ms < 400 ∨ (600 ≤ ms ∧ ms < 1000) ∨ (1200 ≤ ms ∧ ms < 1600) then 1000 else 0
  | .alarm => if ms % 1000 < 500 then 2000 else 1000
  | .chime => if ms % 1000 < 200 then 2000 else 0
  | .bell => if ms < 6000 ∧ ms % 500 < 200 then 2000 else 0
  | .tick => if ms < 20 then 1000 else 0
  | .call => if ms < 450 then 2000 else if ms < 900 then 1000 else 0

theorem hertz_soundAt (p : Pattern) (ms : Nat) : (p.soundAt ms).hertz = patternHertz p ms := by
  cases p <;> simp only [Pattern.soundAt, Pattern.round, Pattern.rounds, soundIn, patternHertz, List.map, List.sum_cons,
    List.sum_nil] <;> split_ifs <;> simp only [Sound.hertz] <;> omega

/-- A sound is told by its frequency. -/
theorem sound_of_hertz (x : Sound) : (if x.hertz = 2000 then Sound.high else if x.hertz = 1000 then .low else .silence) = x := by
  cases x <;> rfl

/-- What a re-announcement makes of the Warning Unit (R129). -/
theorem reannounce_spec (n : Warning) (s : State) :
    ∃ u, reannounce n s = noteHead (chimeForWarning n u) ∧ Touches [.wnu] s u ∧
      u.wnu = s.wnu.setRecord n { s.wnu.record n with state := .active, reannounce := none } :=
  ⟨_, rfl, fun b hb => by
    cases b
    case wnu => simp at hb
    all_goals rfl, rfl⟩

/-- Settles O49: the 60 s bring a CRITICAL warning's chime again, and the tone passes from pattern to spacing to head. -/
theorem reannouncementAndTone : Obligations.ReannouncementAndTone := by
  unfold Obligations.ReannouncementAndTone
  refine ⟨fun s => ⟨fun n hinv hpowered hst htimer => ?_, fun r htone hone => ?_, fun htone hempty => ?_,
    fun r q htone hq => ?_⟩, fun w ms => ?_⟩
  · have hclass (hmade : AsMade s) : (s.wnu.record n).reannounce.isSome = true ↔ n.cls = 0 :=
      ((hinv.2.2 hmade).2 n).1 hst
    have hsome : (s.wnu.record n).reannounce.isSome = true := by
      rcases htimer with h | ⟨hmade, hcls⟩
      · exact h
      · exact (hclass hmade).mpr hcls
    have hexec : exec (.reannounceTimerExpiry n) s = done (reannounce n s) := if_pos ⟨hpowered, hst, hsome⟩
    obtain ⟨u, heq, htouches, hu⟩ := reannounce_spec n s
    have hpower : u.power = s.power := htouches .power (by simp)
    have hunit : (refresh (reannounce n s)).wnu =
        { u.wnu with
          records := (noteHead (chimeForWarning n u)).wnu.records, tone := (chimeForWarning n u).wnu.tone
          chimes := (chimeForWarning n u).wnu.chimes } := by
      rw [(refresh_frame _).2.2.2.2.2.2.2.2.1, heq, noteHead_wnu]
      generalize (noteHead (chimeForWarning n u)).wnu.records = rs
      rw [chimeForWarning_wnu]
    have hrecord (m : Warning) : RecordIs m (refresh (reannounce n s)) (u.wnu.record m) := by
      have hnote : SameRecord m u (noteHead (chimeForWarning n u)) :=
        (SameRecord.of_record (by rw [chimeForWarning_wnu]; rfl)).trans (sameRecord_noteHead m _)
      rw [← heq] at hnote
      exact hnote.trans (SameRecord.of_record (by rw [(refresh_frame _).2.2.2.2.2.2.2.2.1]))
    have hself := hrecord n
    rw [hu, WarningUnit.record_setRecord_same, RecordIs] at hself
    refine ⟨_, hexec, ?_, by rw [hself], by rw [hself], fun m hm => ?_, ?_, ?_, ?_, fun p hp hphase hidle hempty => ?_,
      fun hmade => ?_⟩
    · have hchime : Touches [.wnu, .seq] u (noteHead (chimeForWarning n u)) := by
        intro b hb
        cases b
        case wnu | seq => simp at hb
        all_goals simp [Agree]
      rw [heq]
      exact ((htouches.mono (by simp)).trans (hchime.mono (by simp))).refresh (by simp)
    · have hm' := hrecord m
      rw [hu, WarningUnit.record_setRecord_other _ _ hm, RecordIs] at hm'
      rw [hm']
    · rw [hunit, hu]
      rfl
    · rw [hunit, hu]
      rfl
    · rw [hunit, hu]
      rfl
    · rw [hunit, ← State.classOf_of_power hpower]
      refine chimeForWarning_tone (by rwa [State.definition_of_power hpower]) ?_ (by rwa [hpower]) (by rw [hu]; exact hidle)
        (by rw [hu]; exact hempty)
      rwa [State.powered, State.awake, hpower]
    · have hcls := (hclass hmade).mp hsome
      rw [definition_asMade hmade, classOf_asMade hmade]
      exact ⟨pattern_of_critical hcls, hcls⟩
  · have hexec : exec .patternEnd s = if r.pattern.continuous then .next s else .next (s.setWnu s.wnu.endPattern) := by
      simp only [exec, execPatternEnd, htone]
    rw [Answers, hexec, hone]
    rfl
  · have hexec : exec .spacingExpiry s = .next (s.setWnu s.wnu.startHead) := if_pos htone
    have hstart : s.wnu.startHead = { s.wnu with tone := .idle } := by simp only [WarningUnit.startHead, hempty]
    rw [Answers, hexec, hstart]
  · have hexec : exec .spacingExpiry s = .next (s.setWnu s.wnu.startHead) := if_pos htone
    have hstart : s.wnu.startHead = { s.wnu with tone := .sounding r, chimes := q } := by
      simp only [WarningUnit.startHead, hq]
    rw [Answers, hexec, hstart]
  · intro sound
    refine ⟨fun r hr => ?_, fun h => ?_, rfl, rfl, fun p n hp => ?_⟩
    · have hsound : w.soundOutput ms = r.pattern.soundAt ms := by simp only [WarningUnit.soundOutput, hr]
      rw [hsound]
      exact (sound_of_hertz _).symm.trans (congrArg sound (hertz_soundAt r.pattern ms))
    · unfold WarningUnit.soundOutput
      cases htone : w.tone with
      | sounding r => exact absurd htone (h r)
      | idle | silent | spacing => rfl
    · rw [Pattern.lengthMs_eq] at hp
      obtain ⟨k, hk, rfl⟩ := Option.map_eq_some_iff.mp hp
      exact ⟨k, hk, rfl⟩

end Sys2Proof.Machine
end

section
/-! CLAIM. The display and its timers (R166 to R169), the lamps (R132, R173), and the characters of the line (R168). -/

namespace Sys2Proof.Machine

open Sys2Proof

variable {s t : State} {e : ButtonEvent} {rest : List ButtonEvent}

/-! ## Characters (R167, R168) -/

theorem digitChar_toNat (n : Nat) : (digitChar n).toNat = 48 + n % 10 := by
  have h : ∀ d < 10, (Char.ofNat (48 + d)).toNat = 48 + d := by decide
  exact h (n % 10) (Nat.mod_lt _ (by decide))

theorem digitChar_eq_zero {n : Nat} (h : digitChar n = '0') : n % 10 = 0 := by
  have := congrArg Char.toNat h
  rw [digitChar_toNat] at this
  have hzero : ('0' : Char).toNat = 48 := rfl
  omega

theorem mem_decimalDigits {c : Char} {fuel n : Nat} (h : c ∈ decimalDigits fuel n) : ∃ k, c = digitChar k := by
  induction fuel generalizing n with
  | zero => exact absurd h List.not_mem_nil
  | succ fuel ih =>
    unfold decimalDigits at h
    split_ifs at h
    · exact ⟨n, List.mem_singleton.mp h⟩
    · rcases List.mem_append.mp h with h | h
      · exact ih h
      · exact ⟨n, List.mem_singleton.mp h⟩

/-- The value that decimal characters spell. -/
def decimalValue (cs : List Char) : Nat := cs.foldl (fun a c => 10 * a + (c.toNat - 48)) 0

theorem decimalValue_concat (cs : List Char) (n : Nat) :
    decimalValue (cs ++ [digitChar n]) = 10 * decimalValue cs + n % 10 := by
  simp [decimalValue, digitChar_toNat]

theorem decimalValue_decimalDigits {fuel n : Nat} (h : n < 10 ^ fuel) : decimalValue (decimalDigits fuel n) = n := by
  induction fuel generalizing n with
  | zero =>
    have : n = 0 := by simpa using h
    rw [this]
    rfl
  | succ fuel ih =>
    unfold decimalDigits
    split_ifs with hn
    · have := decimalValue_concat [] n
      have hnil : decimalValue [] = 0 := rfl
      rw [List.nil_append] at this
      omega
    · rw [decimalValue_concat, ih (by rw [pow_succ] at h; omega)]
      omega

/-- A number above 0 has no leading 0. -/
theorem head_decimalDigits {fuel n : Nat} (hn : n < 10 ^ fuel) (h : (decimalDigits fuel n).head? = some '0') : n = 0 := by
  induction fuel generalizing n with
  | zero => simp [decimalDigits] at h
  | succ fuel ih =>
    unfold decimalDigits at h
    split_ifs at h with hlt
    · have := digitChar_eq_zero (Option.some.inj h)
      omega
    · have hshort : n / 10 < 10 ^ fuel := by
        rw [pow_succ] at hn
        omega
      have hvalue := decimalValue_decimalDigits hshort
      cases hd : decimalDigits fuel (n / 10) with
      | nil =>
        rw [hd] at hvalue
        have hnil : decimalValue [] = 0 := rfl
        omega
      | cons c cs =>
        have := ih hshort (by rw [hd]; rwa [hd] at h)
        omega

/-! ## The item display (R92, R93, R99, R168) -/

/-- A clock time's four digits. -/
theorem hhmm_eq (h m : Nat) : hhmm h m = [digitChar (h / 10), digitChar h, ':', digitChar (m / 10), digitChar m] := rfl

theorem tenths_eq (n : Nat) : tenths n = decimal (min n 99999 / 10) ++ ['.', digitChar (min n 99999)] := by
  rw [tenths, min_comm]

/-- The odometer field (R106, R168). -/
theorem odometerField_eq (s : State) :
    odometerField s =
      if s.odo.resolved = false then List.replicate 6 '-'
      else if s.settings.imperial then padLeft 6 (decimal (min (s.odo.total * 125 / 201168) 999999))
      else padLeft 6 (decimal (KmOf s.odo.total)) := by
  unfold odometerField
  cases s.odo.resolved
  · rfl
  · cases s.settings.imperial <;> rfl

theorem lastField_of_not_time (h : s.msc.item ≠ .time) : lastField s = odometerField s := if_neg h

/-- A trip's figure on show, or dashes while the trip awaits its reset (R92). -/
theorem tenthsOrDashes_figure (r : TripRecord) (imperial : Bool) (i : Item) :
    tenthsOrDashes (r.figure imperial i) =
      if r.awaiting then dashes
      else
        match i with
        | .distance => tenths (if imperial then r.distance * 625 / 100584 else r.distance / 100)
        | .average =>
          if imperial then
            (if r.fuel < 1000 then dashes else tenths (min 999 ((4704 * r.distance + 10 * r.fuel) / (20 * r.fuel))))
          else if r.distance < 1000 then dashes
          else tenths (min 999 ((200 * r.fuel + r.distance) / (2 * r.distance)))
        | .speed =>
          if r.run < 60 then dashes
          else if imperial then tenths (min 2550 ((44739 * r.distance + 1000 * r.run) / (2000 * r.run)))
          else tenths (min 2550 ((72 * r.distance + r.run) / (2 * r.run)))
        | .fuel => tenths (if imperial then r.fuel / 3785 else r.fuel / 1000)
        | .time | .range | .instant | .clock => dashes := by
  have hsplit (p : Prop) [Decidable p] (n : Nat) : tenthsOrDashes (if p then some n else none) = if ¬p then dashes else tenths n := by
    split_ifs <;> rfl
  unfold TripRecord.figure
  by_cases hawait : r.awaiting = true
  · rw [if_pos hawait, if_pos hawait]
    rfl
  · rw [if_neg hawait, if_neg hawait]
    cases i with
    | distance | fuel | time | range | instant | clock => rfl
    | average => cases imperial <;> simp only [averageEconomy, averageConsumption, hsplit, not_le, if_true, Bool.false_eq_true, if_false]
    | speed => cases imperial <;> simp only [averageKmh, averageMph, hsplit, not_le, if_true, Bool.false_eq_true, if_false]

/-- Only AVERAGE and FUEL show the gap mark (R168). -/
theorem gapMark_of_figure (h : s.msc.item = .average ∨ s.msc.item = .fuel) :
    gapMark s = if (s.trc.trip s.msc.trip).fuelGap then '*' else ' ' := by
  simp [gapMark, h]

theorem gapMark_of_not (h : ¬(s.msc.item = .average ∨ s.msc.item = .fuel)) : gapMark s = ' ' :=
  if_neg fun hc => h hc.1

/-- The start of a trip on show (R168). -/
theorem lastField_of_time (h : s.msc.item = .time) :
    lastField s =
      match (s.trc.trip s.msc.trip).startStamp with
      | none => [' ', '-', '-', ':', '-', '-']
      | some x => ' ' :: hhmm (x.second / 3600) (x.second % 3600 / 60) := by
  rw [lastField, if_pos h]
  cases (s.trc.trip s.msc.trip).startStamp <;> rfl

/-- A run time's minutes stand behind its hours. -/
theorem append_minutes (cs : List Char) (n : Nat) :
    cs ++ [':'] ++ twoDigits (n % 3600 / 60) = cs ++ [':', digitChar (n % 3600 / 600), digitChar (n % 3600 / 60)] := by
  rw [twoDigits, Nat.div_div_eq_div_mul, List.append_assoc]
  rfl

/-- What the item display shows is what R168 says of each item. -/
theorem itemText_itemDisplay (s : State) : ItemText s (itemDisplay s) := by
  have hodo := odometerField_eq s
  have hlast := lastField_of_not_time (s := s)
  unfold ItemText itemDisplay
  cases hitem : s.msc.item with
  | distance | speed =>
    rw [hlast (by simp [hitem]), hodo, gapMark_of_not (by simp [hitem])]
    simp only [itemFigure, itemUnit, hitem, tenthsOrDashes_figure, tenths_eq, Item.isTrip, if_true]
    cases s.msc.trip <;> rfl
  | average | fuel =>
    rw [hlast (by simp [hitem]), hodo, gapMark_of_figure (by simp [hitem])]
    simp only [itemFigure, itemUnit, hitem, tenthsOrDashes_figure, tenths_eq, Item.isTrip, if_true]
    cases s.msc.trip <;> rfl
  | time =>
    rw [lastField_of_time hitem, gapMark_of_not (by simp [hitem])]
    simp only [itemFigure, itemUnit, hitem, append_minutes, Item.isTrip, if_true]
    cases s.msc.trip <;> rfl
  | range =>
    rw [hlast (by simp [hitem]), hodo, gapMark_of_not (by simp [hitem])]
    simp only [itemFigure, itemUnit, hitem, Item.isTrip, State.shownRange]
    by_cases hinvalid : (s.signal .fuelLevel).state = .invalid
    · simp only [hinvalid, if_true]
      cases s.trc.range <;> rfl
    · simp only [hinvalid, if_false]
      cases s.trc.range <;> rfl
  | instant =>
    rw [hlast (by simp [hitem]), hodo, gapMark_of_not (by simp [hitem])]
    simp only [itemFigure, itemUnit, hitem, Item.isTrip, State.instantIsFlow]
    refine ⟨fun n hn => ?_, fun n hn => ?_, fun hn => ?_⟩
    · simp only [hn, tenths_eq]
      rfl
    · simp only [hn, tenths_eq]
      rfl
    · simp only [hn]
      refine ⟨_, ?_, rfl⟩
      cases Config.absentInstantIsFlow <;> simp
  | clock =>
    rw [hlast (by simp [hitem]), hodo, gapMark_of_not (by simp [hitem])]
    simp only [itemFigure, itemUnit, hitem, Item.isTrip]
    rfl

/-! ## What the line and the lamps show (R166, R167, R173) -/

theorem mem_all (n : Warning) : n ∈ Warning.all := by cases n <;> decide

/-- A lamp shows whether a warning mapped to it is not INACTIVE (R132). -/
theorem lampOn_iff (s : State) (l : Lamp) :
    s.lampOn l = true ↔ ∃ n : Warning, (s.definition n).lamp = some l ∧ (s.wnu.record n).state ≠ .inactive := by
  simp [State.lampOn, mem_all]

theorem dim_iff (s : State) :
    s.dim = true ↔ (s.signal .headlampSw).state = .fresh ∧ (s.signal .headlampSw).value = some 1 := by
  simp [State.dim]

theorem blankTime_iff (s : State) :
    s.blankTime = true ↔ (s.power.state = .starting ∧ s.power.configured = false) ∨ s.power.endPhase ≠ .none := by
  simp [State.blankTime]

/-- The record composed is the display's (R166, R167). -/
theorem compose_low (s : State) : (compose s).low = s.dim := by
  unfold compose
  split_ifs <;> rfl

theorem compose_of_blank (h : s.blankTime = true) :
    (compose s).text = List.replicate 16 ' ' ∧ (compose s).blink = false := by
  rw [compose, if_pos h]
  exact ⟨rfl, rfl⟩

theorem compose_of_shown {x : Shown} (h : ¬s.blankTime = true) (hshown : s.shown = x) :
    (compose s).text = shownText s x ∧ (∀ w, x = .warning w → (compose s).blink = (s.classOf w == 0)) ∧
      ((∀ w, x ≠ .warning w) → (compose s).blink = false) := by
  rw [compose, if_neg h, hshown]
  refine ⟨rfl, fun w hw => by subst hw; rfl, fun hne => ?_⟩
  cases x with
  | warning w => exact absurd rfl (hne w)
  | peer | review | clockSet | item => rfl

theorem touches_setMsc (s : State) (m : MessageCentre) : Touches [.msc] s (s.setMsc m) := by
  intro b hb
  cases b
  case msc => simp at hb
  all_goals rfl

/-- Without a send in progress the record that differs from the last one goes out (R166). -/
theorem refresh_of_not_sending (hpowered : s.powered = true) (h : s.msc.sending = false) :
    refresh s =
      s.setMsc
        { s.msc with
          composed := compose s, lastSent := some (compose s), sending := decide (s.msc.lastSent ≠ some (compose s)) } := by
  unfold refresh
  rw [if_pos hpowered]
  dsimp only
  by_cases hsame : s.msc.lastSent = some (compose s)
  · rw [if_pos (.inr hsame)]
    simp [hsame, h]
  · rw [if_neg (by simp [h, hsame])]
    simp [hsame]

/-! ## The review (R169) -/

/-- A review goes on to the next warning of the copy that is in the list. -/
theorem nextReview_of_listed {active copy p q : List Warning} {m : Warning} (hcopy : copy.tail = p ++ m :: q)
    (hp : ∀ x ∈ p, x ∉ active) (hm : m ∈ active) : nextReview active copy = some (m :: q) := by
  have hdrop : (p ++ m :: q).dropWhile (fun w => !active.contains w) = m :: q := by
    rw [List.dropWhile_append_of_pos (by simpa using hp)]
    simp [hm]
  rw [nextReview, hcopy, hdrop]

theorem nextReview_of_none {active copy : List Warning} (h : ∀ x ∈ copy.tail, x ∉ active) :
    nextReview active copy = none := by
  have hdrop : copy.tail.dropWhile (fun w => !active.contains w) = [] := by simpa using h
  rw [nextReview, hdrop]

/-- Settles O40: the timers of the display end by R169 and R173, and what is composed and lit follows R166 to R168. -/
theorem displayTimersEnd : Obligations.DisplayTimersEnd := by
  unfold Obligations.DisplayTimersEnd
  refine ⟨fun s => ⟨fun rest hrun he => ?hold, fun copy hpowered hreview htimer => ?review,
    fun hpowered htimer => ?peer, fun htest => if_pos htest, fun hpowered hsending => ?send⟩, fun s l => ?lamps, fun s => ?line,
    fun n hn => ⟨fun c hc => ?digits, decimalValue_decimalDigits hn, head_decimalDigits hn⟩, rfl, digitChar_toNat⟩
  case hold =>
    intro u discarded
    have hshown : (taken rest (downed (.hold .check) s) s).shown = u.shown := shown_downed
    have hdiscarded : discarded ↔ (∃ h m, u.shown = .clockSet h m) ∨ u.msc.downSet.contains .reset = true := by
      simp [discarded]
    refine ⟨fun h => ?_, fun h => ?_⟩ <;> rw [hdiscarded] at h
    · rw [not_or, not_exists] at h
      refine eventTaken_inRun rfl he hrun (m := { u.msc with review := some s.wnu.list, reviewTimer := some 2000 }) ?_
      have hup : (taken rest (downed (.hold .check) s) s).msc.downSet.contains .reset ≠ true := h.2
      unfold checkHoldAction
      rw [hshown, if_neg hup]
      cases hs : u.shown with
      | clockSet x y => exact absurd ⟨y, hs⟩ (h.1 x)
      | warning | peer | review | item => rfl
    · refine eventTaken_inRun rfl he hrun (m := u.msc) ?_
      unfold checkHoldAction
      rw [hshown]
      rcases h with ⟨x, y, hs⟩ | hdown
      · rw [hs]
        rfl
      · rw [if_pos (by exact hdown)]
        cases u.shown <;> rfl
  case review =>
    have hexec : exec .reviewTimerExpiry s = done (match nextReview s.wnu.list copy with
        | some l => s.setMsc { s.msc with review := some l, reviewTimer := some 2000 }
        | none => endReview s) := by
      simp only [exec, execReviewTimerExpiry, hreview, if_pos (And.intro hpowered htimer)]
      cases nextReview s.wnu.list copy <;> rfl
    refine ⟨_, hexec, Touches.refresh ?_ (by simp), fun p m q hcopy hp hm => ?_, fun hnone => ?_⟩
    · cases nextReview s.wnu.list copy <;> exact touches_setMsc s _
    · rw [refresh_msc_kept, nextReview_of_listed hcopy hp hm]
      exact ⟨rfl, rfl⟩
    · rw [refresh_msc_kept, nextReview_of_none hnone]
      exact ⟨rfl, rfl⟩
  case peer =>
    have hexec : exec .peerTextTimerExpiry s = done (s.setMsc { s.msc with peerText := none, peerTimer := none }) :=
      if_pos ⟨hpowered, htimer⟩
    refine ⟨_, hexec, (touches_setMsc s _).refresh (by simp), ?_, ?_⟩ <;> rw [refresh_msc_kept] <;> rfl
  case send =>
    have hexec : exec .displaySendEnd s = done (s.setMsc { s.msc with sending := false }) := if_pos ⟨hpowered, hsending⟩
    refine hexec.trans ?_
    exact congrArg Host.Outcome.next (refresh_of_not_sending (s := s.setMsc { s.msc with sending := false }) hpowered rfl)
  case lamps =>
    unfold State.lampOutput
    refine ⟨fun h => if_pos ?_, fun hpowered hphase htest => ?_, fun hpowered hphase htest => ?_⟩
    · rcases h with h | h
      · exact .inl (by simp [h])
      · exact .inr h
    · rw [if_neg (by simp [hpowered, hphase]), if_pos htest]
    · rw [if_neg (by simp [hpowered, hphase]), if_neg htest]
      exact lampOn_iff s l
  case line =>
    intro d blank line hhmm head
    have hblank : blank ↔ s.blankTime = true := (blankTime_iff s).symm
    have hof {x : Shown} (h : ¬blank) (hshown : s.shown = x) := compose_of_shown (fun hb => h (hblank.mpr hb)) hshown
    have hheadOf : s.wnu.headUnacknowledged = head := rfl
    refine ⟨?_, fun h => compose_of_blank (hblank.mp h), fun w h hhead => ?_, fun h hhead => ⟨?_, fun x hx => ?_,
      fun hpeer => ⟨fun w ws hreview => ?_, fun hreview => ?_, fun hour minute hreview hclock => ?_, fun hreview hclock => ?_⟩⟩⟩
    · rw [compose_low]
      exact dim_iff s
    · obtain ⟨htext, hblink, -⟩ := hof (x := .warning w) h (by simp only [State.shown, hheadOf, hhead])
      refine ⟨htext, (hblink w rfl).trans ?_⟩
      by_cases hc : s.classOf w = 0 <;> simp [hc]
    · refine (hof h rfl).2.2 fun w hw => ?_
      unfold State.shown at hw
      rw [hheadOf, hhead] at hw
      cases hp : s.msc.peerText <;> cases hr : s.msc.review <;> cases hc : s.msc.clockSet <;> simp [hp, hr, hc] at hw
    · exact (hof (x := .peer x) h (by simp only [State.shown, hheadOf, hhead, hx])).1
    · exact (hof (x := .review (w :: ws)) h (by simp only [State.shown, hheadOf, hhead, hpeer, hreview])).1
    · exact (hof (x := .review []) h (by simp only [State.shown, hheadOf, hhead, hpeer, hreview])).1
    · exact (hof (x := .clockSet hour minute) h (by simp only [State.shown, hheadOf, hhead, hpeer, hreview, hclock])).1
    · have htext := (hof (x := .item) h (by simp only [State.shown, hheadOf, hhead, hpeer, hreview, hclock])).1
      rw [show d.text = itemDisplay s from htext]
      exact itemText_itemDisplay s
  case digits =>
    obtain ⟨k, rfl⟩ := mem_decimalDigits hc
    rw [digitChar_toNat]
    omega

end Sys2Proof.Machine
end

section
/-! CLAIM. The configuration step (R25, R64, R146, R165, R179, R195). -/

namespace Sys2Proof.Machine

open Sys2Proof

variable {s t : State} {bs : List Byte}

/-! ## The fields of the block (R179, R195) -/

theorem ranged_fst (v lo hi dflt : Nat) : (ranged v lo hi dflt).1 = if lo ≤ v ∧ v ≤ hi then v else dflt := by
  unfold ranged
  split_ifs <;> rfl

theorem ranged_snd (v lo hi dflt : Nat) : (ranged v lo hi dflt).2 = if lo ≤ v ∧ v ≤ hi then 0 else 1 := by
  unfold ranged
  split_ifs <;> rfl

/-- A two-byte field inside its block has its high byte first. -/
theorem word16_eq {i : Nat} (h : i + 1 < bs.length) :
    word16 bs i = 256 * (byteAt bs i).toNat + (byteAt bs (i + 1)).toNat := by
  have hslice : slice bs i 2 = [bs[i], bs[i + 1]] := by
    rw [slice, List.drop_eq_getElem_cons (by omega), List.drop_eq_getElem_cons h]
    rfl
  have hget {j : Nat} (hj : j < bs.length) : byteAt bs j = bs[j] := List.getD_eq_getElem _ _ hj
  rw [word16, hslice, hget h, hget (by omega)]
  simp [beNat]

theorem ranged_word16_fst {i : Nat} (h : i + 1 < bs.length) (lo hi dflt : Nat) :
    (ranged (word16 bs i) lo hi dflt).1 =
      if lo ≤ 256 * (byteAt bs i).toNat + (byteAt bs (i + 1)).toNat ∧
          256 * (byteAt bs i).toNat + (byteAt bs (i + 1)).toNat ≤ hi then
        256 * (byteAt bs i).toNat + (byteAt bs (i + 1)).toNat
      else dflt := by
  rw [ranged_fst, word16_eq h]

/-- A two-byte field outside its range counts one. -/
def wordMiss (bs : List Byte) (lo hi i : Nat) : Nat :=
  if lo ≤ 256 * (byteAt bs i).toNat + (byteAt bs (i + 1)).toNat ∧
    256 * (byteAt bs i).toNat + (byteAt bs (i + 1)).toNat ≤ hi then 0 else 1

theorem ranged_word16_snd {i : Nat} (h : i + 1 < bs.length) (lo hi dflt : Nat) :
    (ranged (word16 bs i) lo hi dflt).2 = wordMiss bs lo hi i := by
  rw [ranged_snd, word16_eq h, wordMiss]

theorem rangedTrim_fst (v : Int) : (rangedTrim v).1 = if -120 ≤ v ∧ v ≤ 120 then v else 0 := by
  unfold rangedTrim
  split_ifs <;> rfl

theorem rangedTrim_snd (v : Int) : (rangedTrim v).2 = if -120 ≤ v ∧ v ≤ 120 then 0 else 1 := by
  unfold rangedTrim
  split_ifs <;> rfl

theorem bit_iff (b : Byte) (i : Nat) : bit b i = true ↔ b.toNat / 2 ^ i % 2 = 1 := by
  rw [bit, BitVec.getLsbD, Nat.testBit_eq_decide_div_mod_eq]
  simp

theorem rangedSender_of_monotonic {table : List (Nat × Nat)} (h : senderMonotonic table = true) :
    rangedSender table = (table, 0) := if_pos h

theorem rangedSender_of_not {table : List (Nat × Nat)} (h : ¬senderMonotonic table = true) :
    rangedSender table = (defaultSender, 1) := if_neg h

/-- The default table is monotonic, so a table that is replaced is another one. -/
theorem rangedSender_snd (table : List (Nat × Nat)) :
    (rangedSender table).2 = if (rangedSender table).1 = table then 0 else 1 := by
  by_cases h : senderMonotonic table = true
  · rw [rangedSender_of_monotonic h, if_pos rfl]
  · rw [rangedSender_of_not h]
    refine (if_neg fun heq => h ?_).symm
    rw [← heq]
    decide

/-- A sum over a vector's fields is one over their places. -/
theorem sum_map_ofFn {α : Type} {n : Nat} {f : Fin n → α} {h : α → Nat} {g : Nat → Nat} (hg : ∀ i : Fin n, h (f i) = g i.val) :
    ((Vector.ofFn f).map h).sum = ((List.range n).map g).sum := by
  rw [← Vector.sum_toList, Vector.toList_map, Vector.toList_ofFn, List.map_ofFn, List.ofFn_eq_map,
    ← List.map_coe_finRange_eq_range, List.map_map]
  exact congrArg List.sum (List.map_congr_left fun i _ => hg i)

/-- A block whose bytes do not add up gives every default (R179). -/
theorem readConfiguration_of_unsound (h : byteSum bs ≠ 0) : readConfiguration bs = (Settings.default, .allDefaulted) :=
  if_pos h

/-- What a sound block of 62 bytes gives: each value as its bytes spell it where they lie in its range, and else its
default; and how many took theirs. -/
def BlockRead (bs : List Byte) (c : Settings) (n : Nat) : Prop :=
  let b (i : Nat) : Nat := (byteAt bs i).toNat
  let w (i : Nat) : Nat := 256 * b i + b (i + 1)
  let pick (v lo hi dflt : Nat) : Nat := if lo ≤ v ∧ v ≤ hi then v else dflt
  let miss (v lo hi : Nat) : Nat := if lo ≤ v ∧ v ≤ hi then 0 else 1
  let table := (List.range 8).map (fun i => (b (8 + 2 * i), b (9 + 2 * i)))
  let steady : Prop := table.Pairwise (fun x y => x.1 < y.1) ∨ table.Pairwise (fun x y => y.1 < x.1)
  let trim := (byteAt bs 47).toInt
  (c.address = pick (b 0) 1 14 4 ∧ c.srcEngine = pick (b 1) 1 14 1 ∧ c.srcTrans = pick (b 2) 1 14 2 ∧
    c.srcBody = pick (b 3) 1 14 3 ∧ c.ppk = pick (w 4) 1000 16000 4000 ∧ c.capacity = pick (w 6) 200 1500 900) ∧
  ((steady → c.sender = table) ∧ (¬steady → c.sender = defaultSender)) ∧
  (c.refuel = pick (b 24) 10 250 50 ∧ c.reserve = pick (b 25) 20 250 80 ∧ c.d10 = pick (w 26) 40 400 180 ∧
    c.journeyGap = pick (w 28) 10 600 120 ∧ c.commitKm = pick (b 30) 1 10 2 ∧ c.courtesyS = pick (b 31) 10 120 30) ∧
  (∀ i : Fin 6,
    c.spans[i] = pick (w (32 + 2 * i.val)) 200 1080 (#v[960, 840, 360, 360, 360, 360][i]) ∧
      c.periods[i] = 2 ^ (if i.val < 4 then b 44 / 4 ^ i.val % 4 else b 45 / 4 ^ (i.val - 4) % 4)) ∧
  (c.deadband = b 46 % 4 ∧ (c.sweepEnable = true ↔ b 46 / 4 % 2 = 1) ∧ c.ignLength = 8 * 4 ^ (b 46 / 8 % 4) ∧
    (c.imperial = true ↔ b 46 / 32 % 2 = 1) ∧ c.clockTrim = if -120 ≤ trim ∧ trim ≤ 120 then trim else 0) ∧
  (∀ i : Fin 4,
    c.distIntervals[i] = b (48 + i.val) ∧
      c.dayIntervals[i] = pick (w (52 + 2 * i.val)) 0 1095 (#v[365, 730, 0, 1095][i])) ∧
  c.penaltyKm = pick (b 60) 0 100 20 ∧
  n =
    miss (b 0) 1 14 + miss (b 1) 1 14 + miss (b 2) 1 14 + miss (b 3) 1 14 + miss (w 4) 1000 16000 + miss (w 6) 200 1500
      + miss (b 24) 10 250 + miss (b 25) 20 250 + miss (w 26) 40 400 + miss (w 28) 10 600 + miss (b 30) 1 10
      + miss (b 31) 10 120 + ((List.range 6).map (fun i => miss (w (32 + 2 * i)) 200 1080)).sum
      + (if -120 ≤ trim ∧ trim ≤ 120 then 0 else 1)
      + ((List.range 4).map (fun i => miss (w (52 + 2 * i)) 0 1095)).sum + miss (b 60) 0 100
      + (if c.sender = table then 0 else 1)

theorem blockRead_readConfiguration (hlen : bs.length = 62) (h : byteSum bs = 0) :
    ∃ c n, readConfiguration bs = (c, .defaulted n) ∧ BlockRead bs c n := by
  have hin {i : Nat} (hi : i + 1 < 62) : i + 1 < bs.length := hlen.symm ▸ hi
  refine ⟨_, _, if_neg (not_not.mpr h), ⟨ranged_fst _ _ _ _, ranged_fst _ _ _ _, ranged_fst _ _ _ _, ranged_fst _ _ _ _,
      ranged_word16_fst (hin (by decide)) _ _ _, ranged_word16_fst (hin (by decide)) _ _ _⟩,
    ⟨fun hs => ?steady, fun hs => ?unsteady⟩,
    ⟨ranged_fst _ _ _ _, ranged_fst _ _ _ _, ranged_word16_fst (hin (by decide)) _ _ _,
      ranged_word16_fst (hin (by decide)) _ _ _, ranged_fst _ _ _ _, ranged_fst _ _ _ _⟩,
    fun i => ⟨?span, ?period⟩,
    ⟨by simp [code2], bit_iff (byteAt bs 46) 2, rfl, bit_iff (byteAt bs 46) 5, rangedTrim_fst _⟩, fun i => ⟨by simp, ?day⟩,
    ranged_fst _ _ _ _, ?count⟩
  case steady => exact congrArg Prod.fst (rangedSender_of_monotonic (senderMonotonic_iff.mpr hs))
  case unsteady => exact congrArg Prod.fst (rangedSender_of_not fun hm => hs (senderMonotonic_iff.mp hm))
  case span =>
    simp only [Fin.getElem_fin, Vector.getElem_map, Vector.getElem_ofFn]
    exact ranged_word16_fst (hin (by omega)) _ _ _
  case period =>
    simp only [Fin.getElem_fin, Vector.getElem_ofFn, periodMs, code2]
  case day =>
    simp only [Fin.getElem_fin, Vector.getElem_map, Vector.getElem_ofFn]
    exact ranged_word16_fst (hin (by omega)) _ _ _
  case count =>
    have hspans := sum_map_ofFn (f := spanField bs) (h := Prod.snd) (g := fun i => wordMiss bs 200 1080 (32 + 2 * i))
      (fun i => ranged_word16_snd (i := 32 + 2 * i.val) (hin (by omega)) 200 1080 _)
    have hdays := sum_map_ofFn (f := dayField bs) (h := Prod.snd) (g := fun i => wordMiss bs 0 1095 (52 + 2 * i))
      (fun i => ranged_word16_snd (i := 52 + 2 * i.val) (hin (by omega)) 0 1095 _)
    rw [hspans, hdays, rangedTrim_snd, rangedSender_snd, ranged_word16_snd (hin (by decide)),
      ranged_word16_snd (hin (by decide)), ranged_word16_snd (hin (by decide)), ranged_word16_snd (hin (by decide))]
    simp only [ranged_snd]
    unfold wordMiss senderField signedByte
    ring

/-! ## The transmit queue at step 3 (R25, R40) -/

/-- Every frame of a queue, waiting or held, is from one address. -/
def SourcesAre (address : Nat) (q : List TxEntry) : Prop :=
  ∀ e ∈ q, e.frame.source = address ∧ ∀ h ∈ e.held, h.source = address

theorem sourcesAre_sentFrom (address : Nat) (q : List TxEntry) : SourcesAre address (q.map (·.sentFrom address)) :=
  List.forall_mem_map.mpr fun e _ => ⟨e.sentFrom_source address, e.sentFrom_held address⟩

theorem SourcesAre.txOffer {address m : Nat} {f : Frame} {q : List TxEntry} (h : SourcesAre address q)
    (hf : f.source = address) : SourcesAre address (txOffer f m q).1 := by
  intro e he
  rcases mem_txOffer he with he | rfl | ⟨x, hx, -, rfl | rfl⟩
  · exact h e he
  · exact ⟨hf, by simp [freshEntry]⟩
  · exact ⟨hf, (h x hx).2⟩
  · exact ⟨(h x hx).1, by rintro y ⟨rfl⟩; exact hf⟩

/-- What the warnings offer is from the cluster's own address. -/
def OffersOwn (s t : State) : Prop :=
  t.settings = s.settings ∧
    (SourcesAre s.settings.address s.link.txQueue → SourcesAre s.settings.address t.link.txQueue)

theorem warnSteps_offersOwn : WarnSteps OffersOwn where
  refl _ := ⟨rfl, id⟩
  trans h h' := ⟨h'.1.trans h.1, fun hs => by
    have := h'.2
    rw [h.1] at this
    exact this (h.2 hs)⟩
  setWnu _ _ := ⟨rfl, id⟩
  nextMoment _ := ⟨rfl, id⟩
  nextDraw _ := ⟨rfl, id⟩
  offerWarnings s := by
    refine ⟨by simp, fun h => ?_⟩
    rw [offerWarnings_eq, offer_txQueue]
    exact h.txOffer rfl

/-- A move that neither announces nor leaves offers nothing. -/
theorem applyMove_link {n : Warning} (h : (s.moveOf n).listChange = false) : (applyMove n s).link = s.link := by
  unfold applyMove
  dsimp only
  cases hm : s.moveOf n with
  | stay => rfl
  | announce | leave => exact absurd h (by simp [hm, WarnMove.listChange])
  | qualify | drop | clear | restore => exact (noteHead_frame _).2.1

theorem warnMove_leave {d : WarningDefinition} {st : WarnState} {c : Bool} (h : warnMove d st c = .leave) :
    st = .active ∨ st = .acknowledged := by
  cases st with
  | active => exact .inl rfl
  | acknowledged => exact .inr rfl
  | pending | clearing => cases c <;> exact WarnMove.noConfusion h
  | inactive =>
    cases c
    · exact WarnMove.noConfusion h
    · unfold warnMove at h
      dsimp only at h
      split_ifs at h

/-- A move that announces or leaves changes the list (R125, R126). -/
theorem applyMove_list_ne {n : Warning} (hinv : WarningInv s) (h : (s.moveOf n).listChange = true) :
    (applyMove n s).wnu.list ≠ s.wnu.list := by
  unfold applyMove
  dsimp only
  cases hm : s.moveOf n with
  | stay | qualify | drop | clear | restore => exact absurd h (by simp [hm, WarnMove.listChange])
  | announce =>
    intro heq
    obtain ⟨x, -, -, -, -, -, -, -, hlist, -⟩ := announce_wnu n s
    have hlen := congrArg List.length (hlist.symm.trans heq)
    rw [(listInsert_perm s.classOf n s.wnu.list).length_eq, List.length_cons] at hlen
    omega
  | leave =>
    have hst : (s.wnu.record n).state = .active ∨ (s.wnu.record n).state = .acknowledged :=
       warnMove_leave (moveOf_eq hm (by simp))
    have hlisted : n ∈ s.wnu.list := (hinv.2.1 n).1.mpr (by tauto)
    intro heq
    obtain ⟨w, -, hw⟩ := leaveList_wnu n s
    rw [hw] at heq
    exact absurd (heq ▸ hlisted) (by simp)

/-! ## The step (R23, R26, R64, R165, R179) -/

/-- Each signal takes its expected source. -/
theorem foldl_expected (c : Settings) (l : List Signal) (v : Vector SignalRecord 18) (g : Signal)
    (h : g ∈ l ∨ v[g.ix].expected = expectedSource c g) :
    (l.foldl (fun v g => v.set g.ix { v[g.ix] with expected := expectedSource c g }) v)[g.ix].expected =
      expectedSource c g := by
  induction l generalizing v with
  | nil => simpa using h
  | cons x l ih =>
    rw [List.foldl_cons]
    refine ih _ ?_
    rcases eq_or_ne x g with rfl | hne
    · exact .inr (by simp)
    · refine h.imp (fun hmem => (List.mem_cons.mp hmem).resolve_left hne.symm) fun heq => ?_
      have hset := State.signal_setSignal_other (State.reset.setSignals v) { v[x.ix] with expected := expectedSource c x } hne.symm
      exact (congrArg SignalRecord.expected hset).trans heq

theorem expectedSource_eq (c : Settings) (g : Signal) :
    expectedSource c g =
      if g ∈ [Signal.engRpm, .coolantT, .oilP, .engFlags] then c.srcEngine
      else if g ∈ [Signal.gear, .transT] then c.srcTrans
      else if g.isPeer then c.srcBody else 0 := by
  cases g <;> rfl

/-- What step 3 makes of a block: its values in force, and the condition that reads its result worked out. -/
theorem configurationStep_spec (hstart : s.power.state = .starting) (bytes : List Byte) (c : Settings) (r : ConfigResult) :
    let y := recordConfigResult r (takeConfiguration bytes c r s)
    let t := refresh (evalWarnings [.configDefaults] y)
    Touches [.power, .link, .signals, .input, .gdu, .wnu, .clock, .msc, .rqs, .settings, .seq, .draw] s t ∧
      t.power = { s.power with step := .step4, configured := true, configResult := r } ∧ t.settings = c ∧
      t.link.listening = true ∧ t.link.receiver = .waiting ∧ t.signals = y.signals ∧ t.gdu = y.gdu ∧ t.input = y.input ∧
      t.clock = y.clock ∧ t.rqs = y.rqs ∧ t.wnu.configDefaults = (r.anyDefault || s.wnu.configDefaults) ∧
      SourcesAre c.address t.link.txQueue ∧
      (s.link.txQueue.length ≤ 7 →
        ∀ e ∈ s.link.txQueue, e.frame.id ≠ 0x62 → e.sentFrom c.address ∈ t.link.txQueue) ∧
      (WarningInv s → t.wnu.list = s.wnu.list → t.link.txQueue = s.link.txQueue.map (·.sentFrom c.address)) ∧
      WarningsMoved [.configDefaults] [] s t := by
  intro y t
  have hypowered : y.powered = true := by
    have hpower : y.power = (takeConfiguration bytes c r s).power := by simp [y]
    rw [State.powered, State.awake, hpower]
    simp [takeConfiguration, hstart]
  have hyqueue : y.link.txQueue = s.link.txQueue.map (·.sentFrom c.address) := by simp [y]
  have hywnu : y.wnu = (takeConfiguration bytes c r s).wnu := by simp [y]
  have hlink : t.link = (evalWarnings [.configDefaults] y).link := (refresh_frame _).2.1
  have honly : OnlyOffers y (evalWarnings [.configDefaults] y) := warnSteps_onlyOffers.evalWarnings [.configDefaults] y
  have hbefore : WarnBefore s y := ⟨by rw [hywnu]; rfl, by rw [hywnu]; rfl, by rw [hywnu]; rfl, by simp [y, takeConfiguration],
    fun ⟨hlen, hnone⟩ => WarningsRoom.of_roomFor (by
      rw [RoomFor, hyqueue]
      exact ⟨by simpa using hlen, List.forall_mem_map.mpr hnone⟩)⟩
  have hunit : t.wnu = (evalWarnings [.configDefaults] y).wnu := (refresh_frame _).2.2.2.2.2.2.2.2.1
  refine ⟨?_, ?_, ?_, ?_, ?_, ?_, ?_, ?_, ?_, ?_, ?_, ?_, fun hroom e he hid => ?_, fun hinv hlist => ?_, ?_⟩
  · intro b hb
    cases b
    case trc | odo | stc | sru | store | pending => simp [Agree, t, y]
    all_goals simp at hb
  · simp [t, y, takeConfiguration]
  · simp [t, y, takeConfiguration]
  · rw [hlink, honly.1]
    simp [y, takeConfiguration]
  · rw [hlink, honly.1]
    simp [y, takeConfiguration]
  · simp [t]
  · simp [t]
  · simp [t]
  · simp [t]
  · simp [t]
  · have hmoves : OnlyMoves y (evalWarnings [.configDefaults] y) := onlyMoves_evalTogether [] [.configDefaults] y
    rw [hunit, hmoves, hywnu]
    rfl
  · have hown := warnSteps_offersOwn.evalWarnings [.configDefaults] y
    rw [hlink]
    have hsettings : y.settings = c := by simp [y, takeConfiguration]
    have hqueue := hown.2
    rw [hsettings, hyqueue] at hqueue
    exact hqueue (sourcesAre_sentFrom _ _)
  · rw [hlink]
    have hstays := (offersIds_evalWarnings [.configDefaults] y (by rw [hyqueue, List.length_map]; omega)).2
    exact (hstays (e.sentFrom c.address) (by simpa [TxEntry.sentFrom, Frame.sentFrom] using hid)).mpr (hyqueue ▸ List.mem_map_of_mem he)
  · have hmove := evalWarnings_singleton hypowered .configDefaults
    have hquiet : (y.moveOf .configDefaults).listChange = false := by
      refine Bool.eq_false_iff.mpr fun hloud => applyMove_list_ne (hbefore.warningInv hinv) hloud ?_
      rw [← hmove, ← hunit, hlist, hbefore.list]
    rw [hlink, hmove, applyMove_link hquiet, hyqueue]
  · exact warningsMoved_evalWarnings hypowered (by simp) (by simp) hbefore (warnAfter_refresh _)

/-- A start step that some field of the block has left at its default announces CONFIG_DEFAULTS (R123, R125). -/
theorem announced_configDefaults (hmoved : WarningsMoved [.configDefaults] [] s t) (hpower : AsMade s → AsMade t)
    (hflag : t.wnu.configDefaults = true) :
    Moved .configDefaults s t ∧
      (AsMade s → (s.wnu.record .configDefaults).state = .inactive → Announced .configDefaults s t) := by
  have hmove := (hmoved .configDefaults).1 (by simp)
  refine ⟨hmove, fun hmade hst => ?_⟩
  have hmade' := hpower hmade
  exact (hmove.1 hst).2.1 (holds_of_table hmade' hflag) (by rw [definition_asMade hmade']; rfl)

/-- Settles O53: a sound block's fields come in force in their ranges, an unsound one's defaults do, and every block takes
its configuration. -/
theorem configurationStepTakesValues : Obligations.ConfigurationStepTakesValues := by
  unfold Obligations.ConfigurationStepTakesValues
  intro s hstart hstep bytes b w pick miss table steady trim
  have hlen : bytes.length = 62 := by simp [bytes, Memory.readBytes]
  obtain ⟨c, r, hread⟩ : ∃ c r, readConfiguration bytes = (c, r) := ⟨_, _, rfl⟩
  have hok : SettingsOk c := by
    have := settingsOk_readConfiguration bytes
    rwa [hread] at this
  have hexec : exec .configurationRead s =
      done (evalWarnings [.configDefaults] (recordConfigResult r (takeConfiguration bytes c r s))) := by
    have hat : s.atStep .step3 = true := by simp [State.atStep, hstart, hstep]
    refine (if_pos hat : execConfigurationRead s = _).trans ?_
    rw [readConfigurationStep]
    simp only [show readConfiguration (s.store.readBytes 0 62) = (c, r) from hread]
    rfl
  obtain ⟨htouches, hpower, hsettings, hlistening, hreceiver, hsignals, hgdu, hinput, hclock, hrqs, hflag, hsources, hstays,
    hsame, hmoved⟩ := configurationStep_spec hstart bytes c r
  generalize ht : refresh (evalWarnings [.configDefaults] (recordConfigResult r (takeConfiguration bytes c r s))) = t at *
  have hmade : AsMade s → AsMade t := fun h => by rwa [AsMade, hpower]
  refine ⟨t, hexec.trans (congrArg Host.Outcome.next ht), htouches, hsettings ▸ hok, ?staging, hlistening, hreceiver, by rw [hpower],
    by rw [hpower], by rw [hsettings]; exact hsources, ?queue, ?clock, fun g => ?gauge, ?ignition, ?averaging, ?residue,
    fun g => ?expected, fun hsum => ?unsound, fun hsum => ?sound⟩
  case staging =>
    rw [hrqs]
    cases r with
    | allDefaulted => rfl
    | defaulted n => cases n <;> rfl
  case queue =>
    rw [hsettings]
    exact ⟨hstays, hsame⟩
  case clock =>
    rw [hclock, hsettings]
    simp [takeConfiguration]
  case gauge =>
    rw [State.gauge, State.span, hgdu, hsettings]
    simp [takeConfiguration]
  case ignition =>
    rw [hinput, hsettings]
    simp [takeConfiguration]
  case averaging =>
    rw [hinput]
    simp [takeConfiguration]
  case residue =>
    rw [hinput, hsettings]
    simp [takeConfiguration]
  case expected =>
    rw [State.signal, hsignals, hsettings, ← expectedSource_eq]
    have hy : (recordConfigResult r (takeConfiguration bytes c r s)).signals = (takeConfiguration bytes c r s).signals := by
      simp
    rw [hy]
    exact foldl_expected c Signal.all s.signals g (.inl (by cases g <;> decide))
  case unsound =>
    rw [readConfiguration_of_unsound hsum] at hread
    obtain ⟨rfl, rfl⟩ := Prod.mk.inj hread
    exact ⟨hsettings, by rw [hrqs]; rfl, by rw [hpower], announced_configDefaults hmoved hmade (by rw [hflag]; rfl)⟩
  case sound =>
    obtain ⟨c', n, hread', hblock⟩ := blockRead_readConfiguration hlen hsum
    obtain ⟨rfl, rfl⟩ := Prod.mk.inj (hread.symm.trans hread')
    obtain ⟨⟨h1, h2, h3, h4, h5, h6⟩, ⟨hsteady, hunsteady⟩, ⟨h7, h8, h9, h10, h11, h12⟩, hgauges, ⟨h13, h14, h15, h16, h17⟩,
      hitems, hpenalty, hcount⟩ := hblock
    intro c0
    rw [show c0 = c from hsettings]
    refine ⟨h1, h2, h3, h4, h5, h6, hsteady, hunsteady, h7, h8, h9, h10, h11, h12, hgauges, h13, h14, h15, h16, h17, hitems,
      hpenalty, n, by rw [hpower], hcount, fun hn => ?_, fun hn => ?_⟩
    · subst hn
      exact ⟨by rw [hrqs]; rfl, by rw [hflag]; rfl⟩
    · obtain ⟨k, rfl⟩ := Nat.exists_eq_succ_of_ne_zero hn.ne'
      exact ⟨by rw [hrqs]; rfl, announced_configDefaults hmoved hmade (by rw [hflag]; rfl)⟩

end Sys2Proof.Machine
end

section
/-! SUPPORT. Conditions worked out more than once within a command (R122, R181): each warning has made the move that its
condition asks for, no other has changed, and CLUSTER_WARNINGS is offered of the list as it then stands. -/

namespace Sys2Proof.Machine

open Sys2Proof

variable {s s0 t u v : State} {n : Warning} {ks ws raised : List Warning}

/-! ## A warning whose condition asks for nothing -/

theorem applyMove_of_stay (h : s.moveOf n = .stay) : applyMove n s = s := by
  unfold applyMove
  rw [h]

theorem elsewhere_foldl_of_stay {l : List Warning} (hraised : n ∉ raised) (h : s.moveOf n = .stay) :
    Elsewhere n s (l.foldl (fun x k => applyLoud raised k x) s) := by
  induction l generalizing s with
  | nil => exact Elsewhere.refl n s
  | cons k l ih =>
    have hstep : Elsewhere n s (applyLoud raised k s) := by
      rcases eq_or_ne n k with rfl | hne
      · rw [applyLoud, if_neg (by simpa using hraised), applyMove_of_stay h]
        exact Elsewhere.refl n s
      · exact elsewhere_applyLoud hne s
    exact hstep.trans (ih ((moveOf_congr (sameSources_applyLoud raised k s) hstep.state).trans h))

theorem elsewhere_applyTogether_of_stay {l : List Warning} (hraised : n ∉ raised) (h : s.moveOf n = .stay) :
    Elsewhere n s (applyTogether raised l s) := by
  obtain ⟨l, u, -, hwnu, -, hsources, heq⟩ := exists_perm_applyTogether raised l s
  have hto : Elsewhere n s u := Elsewhere.of_wnu hwnu n
  rw [heq]
  exact hto.trans (elsewhere_foldl_of_stay hraised ((moveOf_congr hsources hto.state).trans h))

theorem elsewhere_evalTogether_of_stay (hraised : n ∉ raised) (h : s.moveOf n = .stay) :
    Elsewhere n s (evalTogether raised ws s) := by
  unfold evalTogether
  split_ifs
  · have hquiet : Elsewhere n s ((ws.filter (fun n => !(s.moveOf n).listChange)).foldl (fun x n => applyLoud [] n x) s) :=
      elsewhere_foldl_of_stay List.not_mem_nil h
    have hsources := sameSources_foldl_applyLoud [] (ws.filter (fun n => !(s.moveOf n).listChange)) s
    exact hquiet.trans (elsewhere_applyTogether_of_stay hraised ((moveOf_congr hsources hquiet.state).trans h))
  · exact Elsewhere.refl n s

/-- Behind a move a warning stays, as long as its condition is what it was. -/
theorem warnMove_of_madeMove {d : WarningDefinition} {c : Bool}
    (h : MadeMove d n s t (warnMove d (s.wnu.record n).state c)) : warnMove d (t.wnu.record n).state c = .stay := by
  have hstate {x : WarningRecord} (hx : RecordIs n t x) : (t.wnu.record n).state = x.state := by rw [hx]
  cases hst : (s.wnu.record n).state <;> cases c <;> rw [hst] at h
  case inactive.false | pending.true | active.true | acknowledged.true | clearing.false =>
    rw [hstate h.1, hst]
    rfl
  case inactive.true =>
    by_cases hq : d.qualifyMs = 0
    · simp only [warnMove, hq, if_true] at h
      obtain ⟨⟨moment, hx⟩, -⟩ := h
      rw [hstate hx]
      rfl
    · simp only [warnMove, hq, if_false] at h
      rw [hstate h]
      rfl
  case pending.false =>
    rw [hstate h]
    rfl
  case clearing.true =>
    rw [hstate h]
    unfold restoredRecord
    cases (s.wnu.record n).heldAck <;> rfl
  case active.false | acknowledged.false =>
    by_cases hr : d.releaseMs = 0
    · simp only [warnMove, hr, if_true] at h
      rw [h.1]
      rfl
    · simp only [warnMove, hr, if_false] at h
      rw [hstate h]
      rfl

/-! ## The offer of the list (R43) -/

/-- With room for CLUSTER_WARNINGS, the list that waits there goes on to be the list as it stands. -/
def OfferKept (s t : State) : Prop := WarningsRoom s → WarningsRoom t ∧ (ListOffered s → ListOffered t)

theorem OfferKept.refl (s : State) : OfferKept s s := fun h => ⟨h, id⟩

theorem OfferKept.trans (h : OfferKept s t) (h' : OfferKept t u) : OfferKept s u := fun hroom =>
  ⟨(h' (h hroom).1).1, fun ho => (h' (h hroom).1).2 ((h hroom).2 ho)⟩

theorem OfferKept.of_same (hqueue : t.link.txQueue = s.link.txQueue) (hlist : t.wnu.list = s.wnu.list)
    (hclass : t.classOf = s.classOf) (hsettings : t.settings = s.settings) : OfferKept s t := by
  refine fun hroom => ⟨hroom.after (OffersKey.of_txQueue hqueue), fun ho => ListOffered.congr ?_ hqueue⟩
  rwa [warningsFrame_congr hlist hclass hsettings]

theorem offerKept_applyLoud (raised : List Warning) (n : Warning) (s : State) : OfferKept s (applyLoud raised n s) := by
  intro hroom
  refine ⟨hroom.after (warnSteps_offersKey.applyLoud raised n s), fun ho => ?_⟩
  cases hl : (loudMove raised s n).listChange with
  | true => exact listOffered_applyLoud hroom hl
  | false =>
    have hnot : raised.contains n ≠ true := fun h => by
      rw [loudMove, if_pos h] at hl
      exact Bool.noConfusion hl
    rw [loudMove, if_neg hnot] at hl
    rw [applyLoud, if_neg hnot]
    have hlink := applyMove_link hl
    exact ((OfferKept.of_same (by rw [hlink]) (applyMove_list hl) (State.classOf_of_power (by simp)) (by simp)) hroom).2 ho

theorem offerKept_foldl_applyLoud (raised l : List Warning) (s : State) :
    OfferKept s (l.foldl (fun x k => applyLoud raised k x) s) := by
  induction l generalizing s with
  | nil => exact OfferKept.refl s
  | cons k l ih => exact (offerKept_applyLoud raised k s).trans (ih _)

theorem offerKept_applyTogether (raised l : List Warning) (s : State) : OfferKept s (applyTogether raised l s) := by
  unfold applyTogether
  split
  · exact OfferKept.refl s
  · exact offerKept_applyLoud raised _ s
  · exact OfferKept.trans (t := s.nextDraw) (OfferKept.of_same rfl rfl rfl rfl) (offerKept_foldl_applyLoud raised _ _)

theorem offerKept_evalTogether (raised ws : List Warning) (s : State) : OfferKept s (evalTogether raised ws s) := by
  unfold evalTogether
  split_ifs
  · exact (offerKept_foldl_applyLoud [] (ws.filter (fun n => !(s.moveOf n).listChange)) s).trans
      (offerKept_applyTogether raised _ _)
  · exact OfferKept.refl s

/-! ## What a condition reads -/

/-- Only a condition that holds over a band reads its warning's state (R122). -/
theorem holds_was (h : holdsOverBand n = false) (was was' : WarnState) : Holds n was t ↔ Holds n was' t := by
  have htable : TableHolds n was t ↔ TableHolds n was' t := by
    cases n
    case coolantHot | fuelReserve | transHot => exact Bool.noConfusion h
    all_goals exact Iff.rfl
  simp only [Holds, htable, State.heldCondition, h, Bool.false_and]

/-- Some conditions read no block but the signals, the filtered lines and the marks of faults (R121, R123). -/
theorem holds_of_marks (hn : n ∈ [Warning.keyIn, .storeFault, .odoRestored, .configDefaults]) {was : WarnState}
    (hspoiled : u.power.patternSpoiled = t.power.patternSpoiled) (hmemory : u.power.patternMemory = t.power.patternMemory)
    (hsignals : u.signals = t.signals) (hfilters : u.input.filters = t.input.filters) (hfault : u.stc.fault = t.stc.fault)
    (hrestored : u.wnu.odoRestored = t.wnu.odoRestored) (hdefaults : u.wnu.configDefaults = t.wnu.configDefaults)
    (hsettings : u.settings = t.settings) : Holds n was u ↔ Holds n was t := by
  simp only [List.mem_cons, List.not_mem_nil, or_false] at hn
  have hreading : u.reading = t.reading := by
    funext g
    simp only [State.reading, State.signal, hsignals]
  have hlevel : u.lineLevel = t.lineLevel := by
    funext l
    simp only [State.lineLevel, hfilters]
  rcases hn with rfl | rfl | rfl | rfl <;>
    simp only [Holds, AsMade, TableHolds, State.heldCondition, State.handed, State.heldSignals, State.signal,
      hspoiled, hmemory, hsignals, hfilters, hlevel, hfault, hrestored, hdefaults, hsettings, hreading]

/-! ## Conditions settled -/

/-- Some conditions have been worked out and some warnings raised between two states, and what each warning made of it
stands. -/
structure MovesShown (ks raised : List Warning) (s0 t : State) : Prop where
  made : ∀ n ∈ ks, ∃ c, (Holds n (s0.wnu.record n).state t ↔ c = true) ∧
    MadeMove (t.definition n) n s0 t (warnMove (t.definition n) (s0.wnu.record n).state c) ∧
    ((warnMove (t.definition n) (s0.wnu.record n).state c).listChange = true → RoomFor s0 0x62 → ListOffered t)
  raises : ∀ n ∈ raised, MadeMove (t.definition n) n s0 t .announce ∧ (RoomFor s0 0x62 → ListOffered t)
  others : ∀ n, n ∉ ks → n ∉ raised → Elsewhere n s0 t
  inv : WarningInv s0 → WarningInv t

/-- And there is still room for the next change of the list. -/
structure Settled (ks raised : List Warning) (s0 t : State) : Prop extends MovesShown ks raised s0 t where
  room : RoomFor s0 0x62 → WarningsRoom t

theorem Settled.of_before (h : WarnBefore s0 s) : Settled [] [] s0 s where
  made _ hn := absurd hn List.not_mem_nil
  raises _ hn := absurd hn List.not_mem_nil
  others n _ _ := h.elsewhere n
  room := h.room
  inv := h.warningInv

/-- What stands goes on to stand where nothing concerns the warnings. -/
theorem MovesShown.after (h : MovesShown ks raised s0 t) (helse : ∀ n, Elsewhere n t u)
    (hholds : ∀ n ∈ ks, ∀ was, Holds n was u ↔ Holds n was t) (hdef : u.definition = t.definition)
    (hoffer : RoomFor s0 0x62 → ListOffered t → ListOffered u) (hinv : WarningInv t → WarningInv u) :
    MovesShown ks raised s0 u where
  made n hn := by
    obtain ⟨c, hc, hmade, hoffered⟩ := h.made n hn
    rw [hdef]
    exact ⟨c, (hholds n hn _).trans hc, hmade.between (Elsewhere.refl n s0) (helse n), fun hl hroom =>
      hoffer hroom (hoffered hl hroom)⟩
  raises n hn := by
    obtain ⟨hmade, hoffered⟩ := h.raises n hn
    rw [hdef]
    exact ⟨hmade.between (Elsewhere.refl n s0) (helse n), fun hroom => hoffer hroom (hoffered hroom)⟩
  others n hn hr := (h.others n hn hr).trans (helse n)
  inv h0 := hinv (h.inv h0)

theorem Settled.after (h : Settled ks raised s0 t) (helse : ∀ n, Elsewhere n t u)
    (hholds : ∀ n ∈ ks, ∀ was, Holds n was u ↔ Holds n was t) (hdef : u.definition = t.definition)
    (hoffer : OfferKept t u) (hinv : WarningInv t → WarningInv u) : Settled ks raised s0 u where
  toMovesShown := h.toMovesShown.after helse hholds hdef (fun hroom => (hoffer (h.room hroom)).2) hinv
  room hroom := (hoffer (h.room hroom)).1

/-- Conditions are worked out and warnings raised behind others; a condition worked out again does not hold over a band. -/
theorem Settled.evalTogether {before : List Warning} (h : Settled ks before s0 v) (hpowered : v.powered = true)
    (hraised : RaisedOk raised v) (hws : ws.Nodup) (hservice : ∀ n ∈ ws, n ≠ .serviceDue ∧ n ≠ .serviceSoon)
    (hks : ∀ n ∈ ks, n ∉ raised) (hbefore : ∀ n ∈ before, n ∉ raised ∧ n ∉ ws)
    (hband : ∀ n ∈ ks, n ∈ ws → holdsOverBand n = false) :
    Settled (ks ++ ws) (before ++ raised) s0 (evalTogether raised ws v) := by
  have hfree : ∀ n ∈ ws, n ∉ raised := fun n hn hr => by
    obtain ⟨hdue, hsoon⟩ := hservice n hn
    rcases (hraised.2 n hr).1 with h' | h'
    · exact hdue h'
    · exact hsoon h'
  have hworked := workedOut_evalTogether hpowered hraised hws hfree
  have hdef := hworked.sources.definition
  have hoffer := offerKept_evalTogether raised ws v
  refine ⟨⟨fun n hn => ?made, fun n hn => ?raises, fun n hn hr => ?others,
    fun h0 => keeps_evalTogether (k := .warning) hraised ws (h.inv h0)⟩, fun hroom => (hoffer (h.room hroom)).1⟩
  case made =>
    by_cases hk : n ∈ ks
    · obtain ⟨c, hc, hmade, hoffered⟩ := h.made n hk
      have hstays : Elsewhere n v (Machine.evalTogether raised ws v) := by
        by_cases hw : n ∈ ws
        · refine elsewhere_evalTogether_of_stay (hks n hk) ?_
          have hcond : condition n v = c := by
            have hiff := (holds_iff n v).symm.trans ((holds_was (hband n hk hw) _ _).trans hc)
            exact Bool.eq_iff_iff.mpr hiff
          rw [State.moveOf, if_neg (not_or.mpr (hservice n hw)), hcond]
          exact warnMove_of_madeMove hmade
        · exact hworked.others n hw (hks n hk)
      rw [hdef]
      exact ⟨c, (holds_congr hworked.sources n _).trans hc, hmade.between (Elsewhere.refl n s0) hstays,
        fun hl hroom => (hoffer (h.room hroom)).2 (hoffered hl hroom)⟩
    · have hw : n ∈ ws := (List.mem_append.mp hn).resolve_left hk
      have helse := h.others n hk fun hb => (hbefore n hb).2 hw
      have hmove : v.moveOf n = warnMove (v.definition n) (s0.wnu.record n).state (condition n v) := by
        rw [State.moveOf, if_neg (not_or.mpr (hservice n hw)), helse.state]
      have hmade := hworked.moves n hw
      rw [hmove] at hmade
      rw [hdef]
      refine ⟨condition n v, ?_, hmade.between helse (Elsewhere.refl n _), fun hl hroom => ?_⟩
      · rw [holds_congr hworked.sources, ← helse.state, holds_iff]
      · exact hworked.offered (h.room hroom) (.inr ⟨n, hw, by rwa [hmove]⟩)
  case raises =>
    rw [hdef]
    rcases List.mem_append.mp hn with hb | hn
    · obtain ⟨hmade, hoffered⟩ := h.raises n hb
      obtain ⟨hfree, hw⟩ := hbefore n hb
      exact ⟨hmade.between (Elsewhere.refl n s0) (hworked.others n hw hfree), fun hroom =>
        (hoffer (h.room hroom)).2 (hoffered hroom)⟩
    · have helse := h.others n (fun hk => hks n hk hn) fun hb => (hbefore n hb).1 hn
      exact ⟨(hworked.raises n hn).between helse (Elsewhere.refl n _), fun hroom =>
        hworked.offered (h.room hroom) (.inl (List.ne_nil_of_mem hn))⟩
  case others =>
    rw [List.mem_append, not_or] at hn hr
    exact (h.others n hn.1 hr.1).trans (hworked.others n hn.2 hr.2)

/-- What stands is what R124 to R126 say of it. -/
theorem MovesShown.warningsMoved (h : MovesShown ks raised s0 t) :
    WarningsMoved ks raised s0 t ∧
      ∀ n ∈ raised, Announced n s0 t ∧ ∃ moment, RecordIs n t (announcedRecord n moment) := by
  have hoffered (ho : RoomFor s0 0x62 → ListOffered t) : WarningsOffered s0 t := fun hinv hroom =>
    ⟨warningsFrame t, warningsFrame_spec (h.inv hinv).1, ho hroom⟩
  refine ⟨fun n => ⟨fun hn => ?_, fun hn hfree => (h.others n hn hfree).unmoved⟩, fun n hn => ?_⟩
  · obtain ⟨c, hc, hmade, ho⟩ := h.made n hn
    exact moved_of_made hc hmade fun hl => hoffered (ho hl)
  · obtain ⟨⟨⟨moment, hrec⟩, hlist, hcount⟩, ho⟩ := h.raises n hn
    refine ⟨⟨?_, ?_, ?_, hlist, hcount, hoffered ho⟩, moment, hrec⟩ <;>
      rw [RecordIs] at hrec <;> rw [hrec] <;> rfl

end Sys2Proof.Machine
end

section
/-! CLAIM. The park that is complete: SLEEP is entered, and with the pending-wake mark a WAKE start follows (R24, R81,
R118, R143, R184). -/

namespace Sys2Proof.Machine

open Sys2Proof

variable {s x t : State} {g : GaugeId}

/-! ## The entry to SLEEP (R184) -/

/-- The count of abandoned frames at SLEEP entry: one more where the attempt on the line fails for the fourth time
(R12, R24). -/
def AbandonsAtSleep (x t : State) : Prop :=
  t.link.counters = { x.link.counters with txAbandoned := t.link.counters.txAbandoned } ∧
    (t.link.counters.txAbandoned = x.link.counters.txAbandoned ∨
      (t.link.counters.txAbandoned = min (x.link.counters.txAbandoned + 1) 255 ∧
        (x.link.tx = .sending ∨ x.link.tx = .breaking) ∧
        ∃ e ∈ x.link.txQueue, e.underAttempt = true ∧ e.failed = 3))

theorem exists_of_sleepAbandons (h : sleepAbandons s = true) :
    (s.link.tx = .sending ∨ s.link.tx = .breaking) ∧
      ∃ e ∈ s.link.txQueue, e.underAttempt = true ∧ e.failed = 3 := by
  unfold sleepAbandons at h
  cases he : s.link.txQueue.find? (·.underAttempt) with
  | none => simp [he] at h
  | some e =>
    simp only [he, Bool.and_eq_true, Bool.or_eq_true, beq_iff_eq] at h
    obtain ⟨hfailed, htx⟩ := h
    exact ⟨htx.symm.imp And.left id, e, List.mem_of_find?_eq_some he, List.find?_some he, hfailed⟩

theorem closeLink_counters (s : State) : AbandonsAtSleep s (closeLink s) := by
  unfold AbandonsAtSleep closeLink
  by_cases h : sleepAbandons s = true
  · simp [h, satInc, exists_of_sleepAbandons h]
  · simp [h]

/-- What the entry to SLEEP empties, clears and keeps; a WAKE start that follows at once keeps it so. -/
structure Asleep (x t : State) : Prop where
  listening : t.link.listening = false
  txQueue : t.link.txQueue = []
  ring : t.link.ring = []
  tx : t.link.tx = .idle
  list : t.wnu.list = []
  chimes : t.wnu.chimes = []
  active : t.stc.active = none
  waitOdometer : t.stc.waitOdometer = none
  waitService : t.stc.waitService = []
  commit : t.odo.commit = .clear
  clock : t.clock = x.clock
  tripA : t.trc.tripA = x.trc.tripA
  tripB : t.trc.tripB = x.trc.tripB
  journey : t.trc.journey = x.trc.journey
  log : t.wnu.log = x.wnu.log
  drive : t.sru.drive = none
  item : t.msc.item = x.msc.item
  trip : t.msc.trip = x.msc.trip
  counters : AbandonsAtSleep x t

/-- The state that the entry to SLEEP makes, before the pending-wake mark is read. -/
def fallAsleep (x : State) : State :=
  let c := closeInputs (closeLink (closePort x))
  { c with
    power := { c.power with state := .sleep, endPhase := .none, saveWait := none, courtesyTimer := none, courtesyCap := none }
    trc := { c.trc with binMetres := 0, binFuel := 0, instant := none, rearTimer := none }
    wnu := c.wnu.sleep
    sru := { c.sru with drive := none, oilReset := false, heldReset := none }
    rqs := { c.rqs with inService := none }
    msc := c.msc.sleep c.dim }

theorem enterSleep_eq (x : State) :
    enterSleep x = if (fallAsleep x).power.pendingWake then wakeStart (fallAsleep x) else fallAsleep x := rfl

theorem fallAsleep_power (x : State) :
    (fallAsleep x).power.state = .sleep ∧ (fallAsleep x).power.pendingWake = x.power.pendingWake ∧
      (fallAsleep x).gdu = x.gdu := by
  simp [fallAsleep]

theorem asleep_fallAsleep (x : State) : Asleep x (fallAsleep x) where
  counters := by simpa [AbandonsAtSleep, fallAsleep] using closeLink_counters (closePort x)
  listening := by simp [fallAsleep, closeLink]
  txQueue := by simp [fallAsleep, closeLink]
  ring := by simp [fallAsleep, closeLink]
  tx := by simp [fallAsleep, closeLink]
  active := by simp [fallAsleep, closePort]
  waitOdometer := by simp [fallAsleep, closePort]
  waitService := by simp [fallAsleep, closePort]
  commit := by simp [fallAsleep, closePort]
  list := rfl
  chimes := rfl
  drive := rfl
  clock := by simp [fallAsleep]
  tripA := by simp [fallAsleep]
  tripB := by simp [fallAsleep]
  journey := by simp [fallAsleep]
  log := by simp [fallAsleep, WarningUnit.sleep]
  item := by simp [fallAsleep, MessageCentre.sleep]
  trip := by simp [fallAsleep, MessageCentre.sleep]

theorem Asleep.wakeStart (h : Asleep x t) : Asleep x (wakeStart t) := by
  obtain ⟨-, -, -, -, -, -, -, hlistening, htxQueue, hring, hcounters, hclock, -, htripA, htripB, hjourney, -, -, -, -, -,
    -, -, hlog, -, hlist, hchimes, -, htrip, hitem, -⟩ := woken_wakeStart t
  have hfresh : (Machine.wakeStart t).link.tx = .idle ∧ (Machine.wakeStart t).stc.active = none ∧
      (Machine.wakeStart t).stc.waitOdometer = none ∧ (Machine.wakeStart t).stc.waitService = [] ∧
      (Machine.wakeStart t).odo.commit = .clear ∧ (Machine.wakeStart t).sru.drive = none := by
    rw [Machine.wakeStart, beginSteps_eq rfl]
    simp [startAfresh, State.cold]
  obtain ⟨htx, hactive, hodometer, hservice, hcommit, hdrive⟩ := hfresh
  exact {
    listening := hlistening, txQueue := htxQueue, ring := hring, tx := htx, list := hlist, chimes := hchimes
    active := hactive, waitOdometer := hodometer, waitService := hservice, commit := hcommit, drive := hdrive
    clock := hclock.trans h.clock, tripA := htripA.trans h.tripA, tripB := htripB.trans h.tripB
    journey := hjourney.trans h.journey, log := hlog.trans h.log, item := hitem.trans h.item, trip := htrip.trans h.trip
    counters := by rw [AbandonsAtSleep, hcounters]; exact h.counters }

theorem Asleep.refresh (h : Asleep x t) : Asleep x (refresh t) := by
  obtain ⟨htrip, hitem, -⟩ := refresh_selection t
  obtain ⟨_, _, _, _, _, _, _, _, _, _, _, _, _, _, _, _, _, _, _⟩ := h
  constructor
  case item | trip => simpa only [hitem, htrip]
  case counters => simpa only [AbandonsAtSleep, refresh_frame]
  all_goals simpa only [refresh_frame]

/-! ## The park that is complete (R81) -/

theorem allParked_of_forall (h : ∀ g, (s.gauge g).state = .parked ∨ (s.gauge g).state = .faulted) :
    s.gdu.allParked = true := by
  refine List.all_eq_true.mpr fun r hr => ?_
  obtain ⟨i, hi, rfl⟩ := Vector.mem_iff_getElem.mp (Vector.mem_toList_iff.mp hr)
  have hindex : ∃ g : GaugeId, s.gdu.gauges[i] = s.gauge g := by
    have : ∀ i : Fin 6, ∃ g ∈ GaugeId.all, g.ix = i := by decide
    obtain ⟨g, -, hg⟩ := this ⟨i, hi⟩
    exact ⟨g, by simp [State.gauge, hg]⟩
  obtain ⟨g, hg⟩ := hindex
  simpa [hg] using h g

/-- A command brings a gauge to PARKED at 0, or to FAULTED by a failed homing step, and the park may be complete. -/
structure ComesToRest (c : Instr) (g : GaugeId) (s x : State) : Prop where
  exec : exec c s = done (finishPark x)
  touches : Touches [.link, .gdu, .wnu, .rqs, .seq, .draw] s x
  others : ∀ h, h ≠ g → x.gauge h = s.gauge h
  parks : c ≠ .homingStep g false → Touches [.gdu] s x ∧ (x.gauge g).state = .parked ∧ (x.gauge g).position = 0
  faults : c = .homingStep g false → (x.gauge g).state = .faulted

/-- The last gauge has come to its rest, and the part sleeps or wakes at once. -/
theorem ComesToRest.sleeps {c : Instr} (hrest : ComesToRest c g s x) (hcourtesy : s.power.state = .courtesy)
    (hphase : s.power.endPhase = .parking)
    (hothers : ∀ h, h ≠ g → (s.gauge h).state = .parked ∨ (s.gauge h).state = .faulted) :
    ∃ t, Answers c s t ∧ Asleep x t ∧
      (s.power.pendingWake = false →
        t.power.state = .sleep ∧ (∀ h, t.coilOutput h = false) ∧ (∀ l, t.lampOutput l = false) ∧ t.gauge g = x.gauge g) ∧
      (s.power.pendingWake = true → t.power.state = .starting ∧ t.power.kind = .wake) := by
  have hparked : x.gdu.allParked = true := allParked_of_forall fun h => by
    rcases eq_or_ne h g with rfl | hne
    · by_cases hc : c = .homingStep h false
      · exact .inr (hrest.faults hc)
      · exact .inl (hrest.parks hc).2.1
    · rw [hrest.others h hne]
      exact hothers h hne
  have hpower : x.power = s.power := hrest.touches .power (by simp)
  have hexec := hrest.exec
  have hsleep : finishPark x = enterSleep x := if_pos ⟨hpower ▸ hcourtesy, hpower ▸ hphase, hparked⟩
  obtain ⟨hstate, hwake, hgdu⟩ := fallAsleep_power x
  rw [hpower] at hwake
  rw [hsleep, enterSleep_eq, hwake] at hexec
  cases hp : s.power.pendingWake with
  | false =>
    rw [hp, if_neg Bool.false_ne_true] at hexec
    have hoff : (refresh (fallAsleep x)).powered = false := by
      simp [State.powered, State.awake, refresh_frame, hstate]
    refine ⟨_, hexec, (asleep_fallAsleep x).refresh, fun _ => ⟨by simp only [refresh_frame, hstate], fun h => ?_, fun l => ?_, ?_⟩,
      fun h => Bool.noConfusion h⟩
    · rw [State.coilOutput, hoff]
      rfl
    · rw [State.lampOutput, hoff]
      exact if_pos (.inl rfl)
    · simp only [State.gauge, refresh_frame, hgdu]
  | true =>
    rw [hp, if_pos rfl] at hexec
    have hwoken := woken_refresh (woken_wakeStart (fallAsleep x))
    exact ⟨_, hexec, (asleep_fallAsleep x).wakeStart.refresh, fun h => Bool.noConfusion h, fun _ => ⟨hwoken.1, hwoken.2.1⟩⟩

/-- The last step of a PARKING gauge (R81). -/
theorem Gauge.stepEnd_parked {r : Gauge} {span deadband : Nat} {closed : Bool} (hstate : r.state = .parking)
    (hmotion : r.motion = .movingDown) (hposition : r.position = 1) :
    (r.stepEnd span deadband closed).state = .parked ∧ (r.stepEnd span deadband closed).position = 0 := by
  rw [Gauge.stepEnd_parking (.inr hmotion) hstate]
  simp [Gauge.parkingStep, Gauge.stepped, hmotion, hposition, Gauge.park, Gauge.stop]

theorem comesToRest_setGauge {c : Instr} {r : Gauge} (hexec : Machine.exec c s = done (finishPark (s.setGauge g r)))
    (hstate : r.state = .parked) (hposition : r.position = 0) (hc : c ≠ .homingStep g false) :
    ComesToRest c g s (s.setGauge g r) where
  exec := hexec
  touches := (touches_setGauge s g r).mono (by simp)
  others h hne := State.gauge_setGauge_other s r hne
  parks _ := ⟨touches_setGauge s g r, by rwa [State.gauge_setGauge_same], by rwa [State.gauge_setGauge_same]⟩
  faults h := absurd h hc

/-- The third failed attempt leaves the gauge FAULTED (R72). -/
theorem comesToRest_failAttempt {r : Gauge} (hexec : Machine.exec (.homingStep g false) s = done (finishPark (failAttempt g r s)))
    (hattempt : r.attempt = 3) : ComesToRest (.homingStep g false) g s (failAttempt g r s) := by
  set u := recordCode (homingCode g) (s.setGauge g { r.stop with state := .faulted, lift := none }) with hu
  have hfail : failAttempt g r s = evalWarnings [.gaugeFault] u := if_neg (by omega)
  have htouch : Touches [.gdu, .rqs] s u := fun b hb => by
    cases b
    case gdu | rqs => simp at hb
    all_goals rfl
  have hgauge (h : GaugeId) : (failAttempt g r s).gauge h =
      (s.setGauge g { r.stop with state := .faulted, lift := none }).gauge h := by
    rw [hfail, State.gauge, (touches_evalWarnings _ u .gdu (by simp) : (evalWarnings _ u).gdu = u.gdu)]
    rfl
  exact {
    exec := hexec
    touches := hfail ▸ (htouch.mono (by simp)).trans ((touches_evalWarnings _ u).mono (by simp))
    others := fun h hne => (hgauge h).trans (State.gauge_setGauge_other s _ hne)
    parks := fun h => absurd rfl h
    faults := fun _ => by rw [hgauge, State.gauge_setGauge_same] }

/-- Settles O56: each of the three commands brings the last gauge to PARKED or FAULTED, and SLEEP follows. -/
theorem parkEndsInSleep : Obligations.ParkEndsInSleep := by
  unfold Obligations.ParkEndsInSleep
  intro s g closed c hcourtesy hphase hothers last hc
  have hrests : ∃ x, ComesToRest c g s x := by
    rcases hc with ⟨rfl, hstate, hmotion, hposition⟩ | ⟨rfl, hpark, hstate, hlift⟩ | ⟨rfl, hstate, hlift, hattempt, hsteps⟩
    · obtain ⟨hparked, hzero⟩ := Gauge.stepEnd_parked (span := s.span g) (deadband := s.settings.deadband) (closed := closed)
        hstate hmotion hposition
      exact ⟨_, comesToRest_setGauge rfl hparked hzero (by simp)⟩
    · refine ⟨_, comesToRest_setGauge (exec_homingStep hstate hlift true) ?_ ?_ (by simp)⟩
      all_goals
        rw [hpark]
        rfl
    · exact ⟨_, comesToRest_failAttempt ((exec_homingStep hstate hlift false).trans (if_pos hsteps)) hattempt⟩
  obtain ⟨x, hrest⟩ := hrests
  obtain ⟨t, ht, hsleep, hasleep, hwakes⟩ := hrest.sleeps hcourtesy hphase hothers
  have hclock : x.clock = s.clock := hrest.touches .clock (by simp)
  have htrc : x.trc = s.trc := hrest.touches .trc (by simp)
  have hmsc : x.msc = s.msc := hrest.touches .msc (by simp)
  refine ⟨t, ht, hsleep.listening, hsleep.txQueue, hsleep.ring, hsleep.tx, hsleep.list, hsleep.chimes, hsleep.active,
    hsleep.waitOdometer, hsleep.waitService, hsleep.commit, hsleep.clock.trans hclock, htrc ▸ hsleep.tripA, htrc ▸ hsleep.tripB,
    htrc ▸ hsleep.journey, fun hc => ?_, hsleep.drive, hmsc ▸ hsleep.item, hmsc ▸ hsleep.trip, fun hc => ?_, fun hp => ?_, hwakes⟩
  · have hwnu : x.wnu = s.wnu := (hrest.parks hc).1 .wnu (by simp)
    exact hwnu ▸ hsleep.log
  · have hlink : x.link = s.link := (hrest.parks hc).1 .link (by simp)
    exact hlink ▸ hsleep.counters
  · obtain ⟨hstate, hcoils, hlamps, hgauge⟩ := hasleep hp
    rw [hgauge]
    exact ⟨hstate, hcoils, hlamps, fun hc => (hrest.parks hc).2, hrest.faults⟩

end Sys2Proof.Machine
end

section
/-! SUPPORT. What a move of a warning may do, one by one, so that a relation of states holds across the working out of
conditions (R122 to R126, R131). -/

namespace Sys2Proof.Machine

open Sys2Proof

variable {R : State → State → Prop} {s t u : State} {n : Warning}

/-- A relation of states that holds across each move of a warning. -/
structure MoveSteps (R : State → State → Prop) : Prop where
  refl : ∀ s, R s s
  trans : ∀ {s t u}, R s t → R t u → R s u
  announce : ∀ n s, R s (announce n s)
  leaveList : ∀ n s, R s (leaveList n s)
  put : ∀ n r s, R s (noteHead (s.setWnu (s.wnu.setRecord n r)))
  nextDraw : ∀ s, R s s.nextDraw

theorem MoveSteps.applyLoud (h : MoveSteps R) (raised : List Warning) (n : Warning) (s : State) :
    R s (applyLoud raised n s) := by
  unfold Machine.applyLoud
  split_ifs
  · exact h.announce n s
  · unfold Machine.applyMove
    dsimp only
    cases s.moveOf n with
    | stay => exact h.refl s
    | announce => exact h.announce n s
    | leave => exact h.leaveList n s
    | qualify | drop | clear | restore => exact h.put n _ s

theorem MoveSteps.foldl (h : MoveSteps R) {f : State → Warning → State} (hf : ∀ s n, R s (f s n)) (l : List Warning)
    (s : State) : R s (l.foldl f s) := by
  induction l generalizing s with
  | nil => exact h.refl s
  | cons n l ih => exact h.trans (hf s n) (ih (f s n))

theorem MoveSteps.applyTogether (h : MoveSteps R) (raised loud : List Warning) (s : State) :
    R s (applyTogether raised loud s) := by
  unfold Machine.applyTogether
  split
  · exact h.refl s
  · exact h.applyLoud raised _ s
  · exact h.trans (h.nextDraw s) (h.foldl (fun t n => h.applyLoud raised n t) _ _)

theorem MoveSteps.evalTogether (h : MoveSteps R) (raised ws : List Warning) (s : State) : R s (evalTogether raised ws s) := by
  unfold Machine.evalTogether
  split_ifs
  · exact h.trans (h.foldl (fun t n => h.applyLoud [] n t) _ s) (h.applyTogether raised _ _)
  · exact h.refl s

theorem MoveSteps.evalSpoiled (h : MoveSteps R) (ws : List Warning) (s : State) : R s (evalSpoiled ws s) := by
  unfold Machine.evalSpoiled
  split_ifs
  · exact h.evalTogether [] ws s
  · exact h.refl s

/-! ## The offer of a changed list (R43) -/

/-- A changed list is offered, and what is offered of it goes on to be the list as it stands. -/
def ListTold (s t : State) : Prop :=
  OfferKept s t ∧ (WarningsRoom s → t.wnu.list ≠ s.wnu.list → ListOffered t)

theorem ListTold.of_same (h : OfferKept s t) (hlist : t.wnu.list = s.wnu.list) : ListTold s t :=
  ⟨h, fun _ hne => absurd hlist hne⟩

theorem ListTold.trans (h : ListTold s t) (h' : ListTold t u) : ListTold s u := by
  refine ⟨h.1.trans h'.1, fun hroom hne => ?_⟩
  obtain ⟨hroom', -⟩ := h.1 hroom
  by_cases hl : t.wnu.list = s.wnu.list
  · exact h'.2 hroom' (hl ▸ hne)
  · exact (h'.1 hroom').2 (h.2 hroom hl)

theorem moveSteps_listTold : MoveSteps ListTold where
  refl s := ListTold.of_same (OfferKept.refl s) rfl
  trans := ListTold.trans
  announce n s :=
    have hoffered : WarningsRoom s → ListOffered (announce n s) := fun h => listOffered_announce h n
    ⟨fun hroom => ⟨hroom.after (warnSteps_offersKey.announce n s), fun _ => hoffered hroom⟩, fun hroom _ => hoffered hroom⟩
  leaveList n s :=
    have hoffered : WarningsRoom s → ListOffered (leaveList n s) := fun h => listOffered_leaveList h n
    ⟨fun hroom => ⟨hroom.after (warnSteps_offersKey.leaveList n s), fun _ => hoffered hroom⟩, fun hroom _ => hoffered hroom⟩
  put n r s :=
    have hlist : (noteHead (s.setWnu (s.wnu.setRecord n r))).wnu.list = s.wnu.list := by rw [noteHead_wnu]; rfl
    ListTold.of_same (OfferKept.of_same rfl hlist rfl rfl) hlist
  nextDraw s := ListTold.of_same (OfferKept.of_same rfl rfl rfl rfl) rfl

/-! ## The silent tone (R138, R143) -/

/-- A tone that is silent with no request, from the end of COURTESY on: no warning's chime is taken (R138). -/
def Silenced (s : State) : Prop := s.power.endPhase ≠ .none ∧ s.wnu.tone = .silent ∧ s.wnu.chimes = []

theorem Silenced.congr (h : Silenced s) (hpower : t.power = s.power) (htone : t.wnu.tone = s.wnu.tone)
    (hchimes : t.wnu.chimes = s.wnu.chimes) : Silenced t := by
  rwa [Silenced, hpower, htone, hchimes]

theorem Silenced.noteHead (h : Silenced s) : Silenced (noteHead s) :=
  h.congr (by simp) (by rw [noteHead_wnu]) (by rw [noteHead_wnu])

theorem Silenced.announce (h : Silenced s) (n : Warning) : Silenced (announce n s) := by
  rw [announce_eq]
  refine Silenced.noteHead ?_
  unfold announcing
  set x := offerWarnings ((s.setWnu { s.wnu.setRecord n (announcedRecord n s.moment) with
    list := listInsert s.classOf n s.wnu.list }).nextMoment)
  have hx : Silenced x := h.congr (by simp [x]) (by simp [x, WarningUnit.setRecord]) (by simp [x, WarningUnit.setRecord])
  have hcounted : Silenced (countOccurrence n (logAppend n x)) :=
    hx.congr (by simp) (by rw [countOccurrence_wnu, logAppend_wnu]) (by rw [countOccurrence_wnu, logAppend_wnu])
  have hnone : chimeForWarning n (countOccurrence n (logAppend n x)) = countOccurrence n (logAppend n x) := by
    have hnot : (countOccurrence n (logAppend n x)).warningChimesTaken = false := by
      have hphase := hcounted.1
      rw [State.warningChimesTaken, Bool.and_eq_false_iff]
      exact .inr (by simpa using hphase)
    unfold chimeForWarning
    cases ((countOccurrence n (logAppend n x)).definition n).pattern with
    | none => rfl
    | some p => exact if_neg (by simp [hnot])
  rwa [hnone]

theorem Silenced.leaveList (h : Silenced s) (n : Warning) : Silenced (leaveList n s) := by
  obtain ⟨w, hw, hunit⟩ := leaveList_wnu n s
  obtain ⟨hphase, htone, hchimes⟩ := h
  have hkeeps : w = { s.wnu with chimes := [] } := by
    rw [hw, hchimes]
    unfold WarningUnit.stopSounding
    simp [htone, chimeRemove]
  refine ⟨by simpa using hphase, ?_, ?_⟩ <;> rw [hunit, hkeeps]
  exact htone

theorem moveSteps_silenced : MoveSteps (fun s t => Silenced s → Silenced t) where
  refl _ := id
  trans h h' := h' ∘ h
  announce n _ h := h.announce n
  leaveList n _ h := h.leaveList n
  put _ _ _ h := Silenced.noteHead (h.congr rfl rfl rfl)
  nextDraw _ h := h.congr rfl rfl rfl

end Sys2Proof.Machine
end

section
/-! CLAIM. The end of COURTESY: the warnings that end with it, the save, and the park (R81, R117, R143, R152 to R154, R183). -/

namespace Sys2Proof.Machine

open Sys2Proof

variable {s t x y : State} {n m : Warning} {g : GaugeId}

/-! ## The warnings that end with COURTESY (R143) -/

/-- The warnings of a list leave the active list where they stand on it. -/
def leaveAll (l : List Warning) (s : State) : State :=
  l.foldl (fun t n => if t.wnu.list.contains n then leaveList n t else t) s

theorem endWarnings_eq (s : State) : endWarnings s = leaveAll [.odoRestored, .configDefaults, .serviceDue, .serviceSoon] s := rfl

theorem MoveSteps.leaveAll {R : State → State → Prop} (h : MoveSteps R) (l : List Warning) (s : State) : R s (leaveAll l s) :=
  h.foldl (fun t n => by
    split_ifs
    · exact h.leaveList n t
    · exact h.refl t) l s

theorem leaveAll_cons (n : Warning) (l : List Warning) (s : State) :
    leaveAll (n :: l) s = leaveAll l (if s.wnu.list.contains n then leaveList n s else s) := rfl

theorem leaveOne_list (n : Warning) (s : State) :
    (if s.wnu.list.contains n then leaveList n s else s).wnu.list = s.wnu.list.filter (· != n) := by
  split_ifs with h
  · obtain ⟨w, -, hunit⟩ := leaveList_wnu n s
    rw [hunit]
  · refine (List.filter_eq_self.mpr fun m hm => ?_).symm
    have : m ≠ n := fun he => h (by simpa [he] using hm)
    simpa using this

theorem leaveAll_list (l : List Warning) (s : State) : (leaveAll l s).wnu.list = s.wnu.list.filter (· ∉ l) := by
  induction l generalizing s with
  | nil => simp [leaveAll]
  | cons n l ih =>
    rw [leaveAll_cons, ih, leaveOne_list, List.filter_filter]
    refine List.filter_congr fun m _ => ?_
    by_cases h : m = n <;> simp [h]

theorem leaveAll_draw (l : List Warning) (s : State) : (leaveAll l s).draw = s.draw :=
  foldl_keeps State.draw _ (fun s n => by split_ifs <;> simp) l s

theorem elsewhere_leaveAll {l : List Warning} (h : n ∉ l) (s : State) : Elsewhere n s (leaveAll l s) := by
  induction l generalizing s with
  | nil => exact Elsewhere.refl n s
  | cons m l ih =>
    obtain ⟨hne, hl⟩ := List.ne_and_not_mem_of_not_mem_cons h
    refine Elsewhere.trans ?_ (ih hl _)
    dsimp only
    split_ifs
    · exact elsewhere_leaveList hne s
    · exact Elsewhere.refl n s

theorem leaveAll_record {l : List Warning} (hl : l.Nodup) (h : n ∈ l) (hlist : n ∈ s.wnu.list) :
    (leaveAll l s).wnu.record n = inactiveRecord := by
  induction l generalizing s with
  | nil => exact absurd h List.not_mem_nil
  | cons m l ih =>
    obtain ⟨hm, hl⟩ := List.nodup_cons.mp hl
    rw [leaveAll_cons]
    by_cases hne : n = m
    · subst hne
      obtain ⟨hrec, hoff⟩ := madeMove_leaveList (s.definition n) n s
      rw [if_pos (by simpa using hlist), (elsewhere_leaveAll hm _).off hoff]
      exact hrec
    · refine ih hl ((List.mem_cons.mp h).resolve_left hne) ?_
      rw [leaveOne_list]
      simp [hlist, hne]

theorem elsewhere_evalWarnings {ws : List Warning} (h : n ∉ ws) (s : State) : Elsewhere n s (evalWarnings ws s) := by
  unfold evalWarnings evalTogether
  split_ifs
  · set quiet := ws.filter (fun n => !(s.moveOf n).listChange)
    obtain ⟨l, u, hperm, hwnu, -, -, heq⟩ := exists_perm_applyTogether []
      (ws.filter (fun n => (s.moveOf n).listChange) ++ []) (quiet.foldl (fun x n => applyLoud [] n x) s)
    have hl : n ∉ l := fun hn => by
      have hmem := hperm.mem_iff.mp hn
      simp [h] at hmem
    have hquiet : n ∉ quiet := fun hn => h (List.mem_of_mem_filter hn)
    have htogether := elsewhere_foldl_applyLoud (raised := []) hl u
    rw [← heq] at htogether
    exact ((elsewhere_foldl_applyLoud hquiet s).trans (Elsewhere.of_wnu hwnu n)).trans htogether
  · exact Elsewhere.refl n s

theorem elsewhere_evalSpoiled {ws : List Warning} (h : n ∉ ws) (s : State) : Elsewhere n s (evalSpoiled ws s) := by
  unfold evalSpoiled
  split_ifs
  · exact elsewhere_evalWarnings h s
  · exact Elsewhere.refl n s

theorem touches_evalSpoiled (ws : List Warning) (s : State) : Touches [.link, .wnu, .seq, .draw] s (evalSpoiled ws s) := by
  unfold evalSpoiled
  split_ifs
  · exact touches_evalWarnings ws s
  · exact Touches.refl _ s

theorem touches_leaveAll (l : List Warning) (s : State) : Touches [.link, .wnu, .seq] s (leaveAll l s) := by
  induction l generalizing s with
  | nil => exact Touches.refl _ s
  | cons n l ih =>
    refine Touches.trans ?_ (ih _)
    dsimp only
    split_ifs
    · exact touches_leaveList n s
    · exact Touches.refl _ s

/-- The moves keep the Warning Unit's own marks. -/
theorem moveSteps_onlyMoves : MoveSteps OnlyMoves where
  refl := OnlyMoves.refl
  trans := OnlyMoves.trans
  announce := onlyMoves_announce
  leaveList := onlyMoves_leaveList
  put n r s := OnlyMoves.trans (t := s.setWnu (s.wnu.setRecord n r)) rfl (onlyMoves_noteHead _)
  nextDraw _ := rfl

/-- What the end of COURTESY makes of the warnings. -/
structure WarningsEnded (leaving : List Warning) (x y : State) : Prop where
  silent : y.wnu.tone = .silent ∧ y.wnu.chimes = []
  marks : y.wnu.odoRestored = false ∧ y.wnu.configDefaults = false
  asMade : AsMade x → y.draw = x.draw ∧ y.wnu.list = x.wnu.list.filter (fun n => n ∉ leaving)
  listed : ∀ m, m ≠ .odoRestored → m ≠ .configDefaults → (m ∈ y.wnu.list ↔ m ∈ x.wnu.list ∧ m ∉ leaving)
  left : ∀ n ∈ leaving, n ∈ x.wnu.list → AsMade x ∨ n = .serviceDue ∨ n = .serviceSoon → y.wnu.record n = inactiveRecord
  others : ∀ n, n ∉ leaving → Unmoved n x y
  told : ListTold x y
  inv : WarningInv x → WarningInv y

/-- The warnings, their list and the queue are the same to look at. -/
structure WarningsSame (s t : State) : Prop where
  wnu : t.wnu = s.wnu
  queue : t.link.txQueue = s.link.txQueue
  draw : t.draw = s.draw
  spoiled : t.power.patternSpoiled = s.power.patternSpoiled
  memory : t.power.patternMemory = s.power.patternMemory
  settings : t.settings = s.settings

theorem WarningsSame.listTold (h : WarningsSame s t) : ListTold s t := by
  have hlist : t.wnu.list = s.wnu.list := by rw [h.wnu]
  refine ListTold.of_same (OfferKept.of_same h.queue hlist ?_ h.settings) hlist
  funext n
  simp only [State.classOf, State.definition, PowerUnit.definition, h.spoiled, h.memory]

theorem WarningsSame.asMade (h : WarningsSame s t) : AsMade t ↔ AsMade s := by rw [AsMade, AsMade, h.spoiled]

theorem WarningsSame.inv (h : WarningsSame s t) (hinv : WarningInv s) : WarningInv t :=
  hinv.congr (by rw [h.wnu]) (by rw [h.wnu]) h.asMade.mp

theorem WarningsEnded.seen {leaving : List Warning} (h : WarningsEnded leaving x y) (hx : WarningsSame s x)
    (hy : WarningsSame y t) : WarningsEnded leaving s t := by
  obtain ⟨hsilent, hmarks, hasMade, hlisted, hleft, hothers, htold, hinv⟩ := h
  rw [hx.asMade, hx.draw, hx.wnu] at hasMade
  rw [hx.asMade, hx.wnu] at hleft
  rw [hx.wnu] at hlisted
  refine ⟨by rwa [hy.wnu], by rwa [hy.wnu], by rwa [hy.wnu, hy.draw], by rwa [hy.wnu], by rwa [hy.wnu], fun n hn => ?_,
    (hx.listTold.trans htold).trans hy.listTold, fun h0 => hy.inv (hinv (hx.inv h0))⟩
  have := hothers n hn
  rwa [Unmoved, RecordIs, hx.wnu, ← hy.wnu] at this

theorem touches_silenceWarnings (x : State) : Touches [.link, .wnu, .seq, .draw] x (silenceWarnings x) := by
  set u := x.setWnu { x.wnu with tone := .silent, chimes := [], odoRestored := false, configDefaults := false }
  have hu : Touches [.wnu] x u := fun b hb => by
    cases b
    case wnu => simp at hb
    all_goals rfl
  exact ((hu.mono (by simp)).trans ((touches_leaveAll _ u).mono (by simp))).trans (touches_evalSpoiled _ _)

theorem warningsEnded_silenceWarnings (hphase : x.power.endPhase ≠ .none) :
    WarningsEnded [.odoRestored, .configDefaults, .serviceDue, .serviceSoon] x (silenceWarnings x) := by
  set leaving : List Warning := [.odoRestored, .configDefaults, .serviceDue, .serviceSoon] with hleaving
  set u := x.setWnu { x.wnu with tone := .silent, chimes := [], odoRestored := false, configDefaults := false } with hu
  set v := leaveAll leaving u with hv
  have heq : silenceWarnings x = evalSpoiled [.odoRestored, .configDefaults] v := rfl
  have hsilenced : Silenced u := ⟨hphase, rfl, rfl⟩
  have hmoves : OnlyMoves u (evalSpoiled [.odoRestored, .configDefaults] v) :=
    (moveSteps_onlyMoves.leaveAll leaving u).trans (moveSteps_onlyMoves.evalSpoiled _ v)
  have htold : ListTold u (evalSpoiled [.odoRestored, .configDefaults] v) :=
    (moveSteps_listTold.leaveAll leaving u).trans (moveSteps_listTold.evalSpoiled _ v)
  have hlist : v.wnu.list = x.wnu.list.filter (· ∉ leaving) := leaveAll_list leaving u
  have hasMade (h : AsMade x) : evalSpoiled [.odoRestored, .configDefaults] v = v := by
    refine evalSpoiled_asMade ?_ _
    rwa [AsMade, (touches_leaveAll leaving u .power (by simp) : v.power = u.power)]
  have helse {n : Warning} (h : n ∉ leaving) : Elsewhere n u (evalSpoiled [.odoRestored, .configDefaults] v) := by
    refine (elsewhere_leaveAll h u).trans (elsewhere_evalSpoiled (fun hn => h ?_) v)
    simp only [List.mem_cons, List.not_mem_nil, or_false] at hn
    rcases hn with rfl | rfl <;> simp [hleaving]
  rw [heq]
  refine ⟨?_, ?_, fun h => ?_, fun m h1 h2 => ?_, fun n hn hl hcase => ?_, fun n hn => (helse hn).unmoved,
    (ListTold.of_same (OfferKept.of_same rfl rfl rfl rfl) rfl).trans htold, fun hinv => ?_⟩
  · exact (moveSteps_silenced.evalSpoiled _ v (moveSteps_silenced.leaveAll leaving u hsilenced)).2
  · rw [OnlyMoves] at hmoves
    rw [hmoves]
    exact ⟨rfl, rfl⟩
  · rw [hasMade h]
    exact ⟨leaveAll_draw leaving u, hlist⟩
  · rw [(elsewhere_evalSpoiled (by simp [h1, h2]) v).listed, hlist]
    simp
  · have hv : v.wnu.record n = inactiveRecord := leaveAll_record (by decide) hn hl
    rcases hcase with hmade | hservice
    · rwa [hasMade hmade]
    · have hoff : n ∉ v.wnu.list := by
        rw [hlist]
        simp [hn]
      rw [(elsewhere_evalSpoiled ?_ v).off hoff, hv]
      rcases hservice with rfl | rfl <;> decide
  · have hinv' : WarningInv (silenceWarnings x) := keeps_silenceWarnings (k := .warning) x hinv
    rwa [heq] at hinv'

/-! ## The save (R117, R152 to R154) -/

/-- A short drive that stayed cold is penalised on the engine oil (R153). -/
def ShortAndCold (s : State) : Prop :=
  let oil := s.item .engineOil
  let interval := 100 * s.settings.distIntervals[ServiceItem.engineOil.ix]
  let j := s.trc.journey.distance
  ∃ d, s.sru.drive = some d ∧ d.carried + (j - d.baseline) < 8000 ∧ j < 9999999 ∧ d.warm = false ∧
    s.sru.oilReset = false ∧ oil.awaiting = false ∧ 0 < interval ∧
    0 < min s.settings.penaltyKm (interval / 2 - oil.record.penalty)

theorem penalised_iff (s : State) : (penaltyDue s = true ∧ 0 < penaltyAmount s) ↔ ShortAndCold s := by
  unfold penaltyDue ShortAndCold
  cases s.sru.drive with
  | none => simp
  | some d =>
    simp only [Bool.and_eq_true, decide_eq_true_eq, Bool.not_eq_true', and_assoc, Option.some.injEq, exists_eq_left']
    exact Iff.rfl

theorem shortAndCold_congr (hsru : t.sru = s.sru) (htrc : t.trc = s.trc) (hsettings : t.settings = s.settings) :
    ShortAndCold t ↔ ShortAndCold s := by
  simp only [ShortAndCold, State.item, hsru, htrc, hsettings]

theorem applyPenalty_of_cold (h : ShortAndCold s) :
    let oil := s.item .engineOil
    applyPenalty s =
      s.setItem .engineOil
        { oil with
          record :=
            { oil.record with
              dueKm := lessPenalty oil.record.dueKm (penaltyAmount s), penalty := oil.record.penalty + penaltyAmount s }
          dirty := true } :=
  if_pos ((penalised_iff s).mpr h)

theorem applyPenalty_of_not (h : ¬ShortAndCold s) : applyPenalty s = s := if_neg fun hp => h ((penalised_iff s).mp hp)

theorem touches_applyPenalty (s : State) : Touches [.sru] s (applyPenalty s) := by
  intro b hb
  cases b
  case sru => simp at hb
  all_goals simp [Agree]

theorem touches_saveOdometer (s : State) : Touches [.odo, .stc] s (saveOdometer s) := by
  intro b hb
  cases b
  case odo | stc => simp at hb
  all_goals simp [Agree]

theorem stcBegin_commit (s : State) :
    (stcBegin s).odo.commit = s.odo.commit ∨ (stcBegin s).odo.commit = .writing := by
  rcases stcBegin_cases s with h | ⟨-, -, -, h, -⟩ | ⟨-, -, -, -, -, h, -⟩ | ⟨-, -, -, h, -⟩
  · exact .inl (by rw [h])
  · exact .inr h
  · exact .inl (by rw [h])
  · exact .inl (by rw [h])

/-- The save of the odometer begins a commit, or leaves the store alone (R117). -/
theorem saveOdometer_spec (s : State) :
    let saves := (s.odo.commit = .clear ∧ s.odo.resolved = true ∧ 0 < s.odo.pending) ∨ s.odo.commit = .deferred
    (saves → (saveOdometer s).odo.commit = .waiting ∨ (saveOdometer s).odo.commit = .writing) ∧
      (¬saves → (saveOdometer s).stc = s.stc) ∧
      (s.odo.commit = .writing → (saveOdometer s).odo = { s.odo with saveMark := true }) := by
  unfold saveOdometer
  cases h : s.odo.commit with
  | waiting | writing => simp
  | deferred => simpa using commitStart_commit s
  | clear =>
    dsimp only
    split_ifs with hp
    · simpa [hp] using commitStart_commit s
    · simp [hp]

/-- What the save of the service records does (R152 to R154). -/
theorem saveService_spec (s : State) :
    Touches [.odo, .stc, .sru] s (saveService s) ∧ (saveService s).sru.drive = none ∧ (saveService s).sru.oilReset = false ∧
      (∀ i, (saveService s).item i = (applyPenalty s).item i) ∧
      (∀ i, ((saveService s).item i).dirty = true → WithStore (saveService s) i) ∧
      (saveService s).odo = { s.odo with commit := (saveService s).odo.commit } ∧
      ((saveService s).odo.commit = s.odo.commit ∨ (saveService s).odo.commit = .writing) ∧
      (¬ShortAndCold s → (∀ i, (s.item i).dirty = false) → (saveService s).stc = s.stc) := by
  have hpenalty := touches_applyPenalty s
  have hodo : (applyPenalty s).odo = s.odo := hpenalty .odo (by simp)
  have hstc : (applyPenalty s).stc = s.stc := hpenalty .stc (by simp)
  have hclose (u : State) : Touches [.sru] u (closeDrive u) := fun b hb => by
    cases b
    case sru => simp at hb
    all_goals rfl
  have hdirty (u : State) : u.sru.items.toList.any (·.dirty) = true ↔ ∃ i, (u.item i).dirty = true := by
    rw [List.any_eq_true]
    constructor
    · rintro ⟨v, hv, hd⟩
      obtain ⟨k, hk, rfl⟩ := Vector.mem_iff_getElem.mp (Vector.mem_toList_iff.mp hv)
      have : ∀ i : Fin 4, ∃ j ∈ ServiceItem.all, j.ix = i := by decide
      obtain ⟨j, -, hj⟩ := this ⟨k, hk⟩
      exact ⟨j, by simpa [State.item, hj] using hd⟩
    · rintro ⟨i, hd⟩
      exact ⟨_, Vector.mem_toList_iff.mpr (Vector.getElem_mem i.ix.isLt), hd⟩
  unfold saveService
  by_cases hany : (applyPenalty s).sru.items.toList.any (·.dirty) = true
  · have heq : handDirty (applyPenalty s) = handService none (applyPenalty s) := if_pos hany
    have hitem (i : ServiceItem) : (closeDrive (handService none (applyPenalty s))).item i = (applyPenalty s).item i := by
      simp [State.item, closeDrive]
    rw [heq]
    refine ⟨?_, rfl, rfl, fun i => ?_, fun i hi => ?_, ?_, ?_, fun hcold hclean => ?_⟩
    · exact ((hpenalty.mono (by simp)).trans ((touches_handService none _).mono (by simp))).trans ((hclose _).mono (by simp))
    · exact hitem i
    · have hsame : (closeDrive (handService none (applyPenalty s))).item i = (applyPenalty s).item i := hitem i
      rw [hsame] at hi
      exact withStore_handService none hi
    · rw [← hodo]
      exact odo_stcBegin _
    · rw [← hodo]
      exact stcBegin_commit _
    · rw [applyPenalty_of_not hcold] at hany
      obtain ⟨i, hi⟩ := (hdirty s).mp hany
      rw [hclean i] at hi
      exact Bool.noConfusion hi
  · have heq : handDirty (applyPenalty s) = applyPenalty s := if_neg hany
    rw [heq]
    refine ⟨?_, rfl, rfl, fun i => rfl, fun i hi => absurd ((hdirty _).mpr ⟨i, hi⟩) hany,
      by rw [← hodo]; rfl, .inl (by rw [← hodo]; rfl), fun _ _ => hstc⟩
    exact (hpenalty.mono (by simp)).trans ((hclose _).mono (by simp))

/-! ## The park order (R81) -/

theorem Gauge.orderPark_spec (r : Gauge) :
    let moves := r.state = .tracking ∨ r.state = .sweep
    (moves → 0 < r.position →
      r.orderPark.state = .parking ∧ r.orderPark.target = 0 ∧ r.orderPark.position = r.position ∧
        r.orderPark.motion = if r.motion = .atRest then .movingDown else r.motion) ∧
      (moves → r.position = 0 → r.motion = .atRest → r.orderPark = { r with state := .parked, target := 0, ramp := 0 }) ∧
      (¬moves → r.orderPark = r) := by
  intro moves
  have hmoves (hm : moves) : r.orderPark =
      if r.motion = .atRest then
        (if r.position = 0 then Gauge.park { r with state := .parking, target := 0 }
         else Gauge.depart { r with state := .parking, target := 0 } 0)
      else { r with state := .parking, target := 0 } := by
    rcases hm with h | h <;> simp only [Gauge.orderPark, h]
  refine ⟨fun hm hpos => ?_, fun hm hzero hrest => ?_, fun hm => ?_⟩
  · rw [hmoves hm, if_neg hpos.ne']
    split_ifs <;> simp [Gauge.depart]
  · rw [hmoves hm, if_pos hrest, if_pos hzero]
    simp [Gauge.park, Gauge.stop, hrest]
  · rw [not_or] at hm
    unfold Gauge.orderPark
    cases h : r.state with
    | tracking => exact absurd h hm.1
    | sweep => exact absurd h hm.2
    | unhomed | homing | parking | parked | faulted => simp only

/-- A park that is ordered while a gauge stands away from 0 is not complete. -/
theorem finishPark_beginPark
    (h : ∃ g, ((s.gauge g).state = .tracking ∨ (s.gauge g).state = .sweep) ∧ 0 < (s.gauge g).position) :
    finishPark (beginPark s) = beginPark s := by
  obtain ⟨g, hmoves, hpos⟩ := h
  obtain ⟨hstate, -⟩ := (Gauge.orderPark_spec (s.gauge g)).1 hmoves hpos
  have hgauge : (beginPark s).gauge g = (s.gauge g).orderPark := State.gauge_orderPark _ g
  refine finishPark_of_not fun _ => allParked_of_gauge (h := g) ?_ ?_ <;> rw [hgauge, hstate] <;> simp

theorem touches_beginPark (s : State) : Touches [.power, .gdu] s (beginPark s) := by
  intro b hb
  cases b
  case power | gdu => simp at hb
  all_goals simp [Agree]

/-- The park has been ordered over a state's gauges. -/
def ParkOrdered (s t : State) : Prop :=
  t.power = { t.power with endPhase := .parking, saveWait := none } ∧ t.gdu.parkInForce = true ∧
    ∀ g,
      let q := s.gauge g
      let moves := q.state = .tracking ∨ q.state = .sweep
      (moves → 0 < q.position →
        (t.gauge g).state = .parking ∧ (t.gauge g).target = 0 ∧
          (t.gauge g).position = q.position ∧
          (t.gauge g).motion = if q.motion = .atRest then .movingDown else q.motion) ∧
      (moves → q.position = 0 → q.motion = .atRest →
        t.gauge g = { q with state := .parked, target := 0, ramp := 0 }) ∧
      (¬moves → t.gauge g = q)

theorem parkOrdered_beginPark (h : x.gdu = s.gdu) : ParkOrdered s (refresh (beginPark x)) := by
  refine ⟨?_, ?_, fun g => ?_⟩
  · rw [(refresh_frame _).1]
    rfl
  · rw [(refresh_frame _).2.2.2.2.1]
    rfl
  · have hgauge : (refresh (beginPark x)).gauge g = (s.gauge g).orderPark := by
      have : (beginPark x).gauge g = (x.gauge g).orderPark := State.gauge_orderPark _ g
      rw [State.gauge, (refresh_frame _).2.2.2.2.1]
      rw [State.gauge, State.gauge, h] at this
      exact this
    rw [hgauge]
    exact Gauge.orderPark_spec (s.gauge g)

/-! ## The end of COURTESY (R183) -/

/-- The state in which the blocks take the end of COURTESY. -/
def closing (s : State) : State :=
  let u :=
    s.setPower { s.power with courtesyTimer := none, courtesyCap := none, endPhase := .saving, saveWait := some 500 }
  u.setMsc
    { u.msc with
      peerText := none, peerTimer := none, lampTimer := none
      lampTest := if u.msc.lampTest = .running then .ended else u.msc.lampTest }

/-- The state in which the save has been ordered. -/
def savesOrdered (s : State) : State :=
  let z := saveService (saveOdometer (silenceWarnings (closing s)))
  z.setClock { z.clock with lastOff := z.clock.stamp }

theorem touches_closing (s : State) : Touches [.power, .msc] s (closing s) := by
  intro b hb
  cases b
  case power | msc => simp at hb
  all_goals rfl

theorem endCourtesy_eq (s : State) : endCourtesy s = finishSave (savesOrdered s) := rfl

/-- Nothing is in progress or waits, with the port free. -/
def SaveEmpty (t : State) : Prop :=
  t.stc.portOpen = true ∧ t.stc.active = none ∧ t.stc.waitOdometer = none ∧ t.stc.waitService = [] ∧
    t.stc.waitConfiguration = false

theorem idle_iff (s : State) : s.stc.idle = true ↔ SaveEmpty s := by
  simp [StoreController.idle, SaveEmpty, and_assoc]

/-- What the power unit and the gauges make of the end of COURTESY: a save that is complete orders the park (R183). -/
theorem endCourtesy_cases (hcourtesy : s.power.state = .courtesy)
    (h : ∃ g, ((s.gauge g).state = .tracking ∨ (s.gauge g).state = .sweep) ∧ 0 < (s.gauge g).position) :
    endCourtesy s = if (savesOrdered s).stc.idle then beginPark (savesOrdered s) else savesOrdered s := by
  have hpower : (savesOrdered s).power = (closing s).power := by simp [savesOrdered]
  have hgdu : (savesOrdered s).gdu = s.gdu := by simp [savesOrdered, closing]
  rw [endCourtesy_eq, finishSave]
  have hstate : (savesOrdered s).power.state = .courtesy ∧ (savesOrdered s).power.endPhase = .saving := by
    rw [hpower]
    exact ⟨hcourtesy, rfl⟩
  by_cases hidle : (savesOrdered s).stc.idle = true
  · rw [if_pos ⟨hstate.1, hstate.2, hidle⟩, if_pos hidle, finishPark_beginPark]
    simpa only [State.gauge, hgdu] using h
  · rw [if_neg fun hc => hidle hc.2.2, if_neg hidle]

/-- The warnings as the end of COURTESY leaves them, behind the save. -/
theorem warningsEnded_savesOrdered (s : State) :
    WarningsEnded [.odoRestored, .configDefaults, .serviceDue, .serviceSoon] s (savesOrdered s) := by
  refine (warningsEnded_silenceWarnings (x := closing s) ?_).seen ⟨rfl, rfl, rfl, rfl, rfl, rfl⟩ ?_
  · simp [closing]
  · constructor <;> simp [savesOrdered]

/-- What the save leaves: the store, the items and the drive (R117, R152 to R154). -/
structure SaveOrdered (s t : State) : Prop where
  drive : t.sru.drive = none ∧ t.sru.oilReset = false
  items : ∀ i, t.item i = (applyPenalty s).item i
  withStore : ∀ i, (t.item i).dirty = true → WithStore t i
  commits : (s.odo.commit = .clear ∧ s.odo.resolved = true ∧ 0 < s.odo.pending) ∨ s.odo.commit = .deferred →
    t.odo.commit = .waiting ∨ t.odo.commit = .writing
  writing : s.odo.commit = .writing → t.odo = { s.odo with saveMark := true }
  nothing : SaveEmpty s →
    ¬((s.odo.commit = .clear ∧ s.odo.resolved = true ∧ 0 < s.odo.pending) ∨ s.odo.commit = .deferred) → ¬ShortAndCold s →
    (∀ i, (s.item i).dirty = false) → SaveEmpty t

theorem SaveOrdered.congr (h : SaveOrdered s x) (hsru : t.sru = x.sru) (hodo : t.odo = x.odo) (hstc : t.stc = x.stc) :
    SaveOrdered s t := by
  obtain ⟨hdrive, hitems, hwith, hcommits, hwriting, hnothing⟩ := h
  have hitem (i : ServiceItem) : t.item i = x.item i := by rw [State.item, State.item, hsru]
  refine ⟨by rwa [hsru], fun i => (hitem i).trans (hitems i), fun i hi => ?_, by rwa [hodo], by rwa [hodo], ?_⟩
  · have := hwith i (by rwa [← hitem i])
    rwa [WithStore, ← hitem i, ← hstc] at this
  · have hempty : SaveEmpty t ↔ SaveEmpty x := by simp only [SaveEmpty, hstc]
    rwa [hempty]

theorem applyPenalty_item_congr (hsru : t.sru = s.sru) (htrc : t.trc = s.trc) (hsettings : t.settings = s.settings)
    (i : ServiceItem) : (applyPenalty t).item i = (applyPenalty s).item i := by
  have hitem (i : ServiceItem) : t.item i = s.item i := by rw [State.item, State.item, hsru]
  have hamount : penaltyAmount t = penaltyAmount s := by rw [penaltyAmount, penaltyAmount, hsettings, hitem]
  by_cases hcold : ShortAndCold s
  · rw [applyPenalty_of_cold hcold, applyPenalty_of_cold ((shortAndCold_congr hsru htrc hsettings).mpr hcold), hamount]
    simp [State.item, State.setItem, hsru]
  · rw [applyPenalty_of_not hcold, applyPenalty_of_not (mt (shortAndCold_congr hsru htrc hsettings).mp hcold), hitem]

/-- The stamp of switching off concerns the clock alone. -/
theorem savesOrdered_kept (s : State) :
    (savesOrdered s).sru = (saveService (saveOdometer (silenceWarnings (closing s)))).sru ∧
      (savesOrdered s).odo = (saveService (saveOdometer (silenceWarnings (closing s)))).odo ∧
      (savesOrdered s).stc = (saveService (saveOdometer (silenceWarnings (closing s)))).stc := by
  unfold savesOrdered
  generalize saveService (saveOdometer (silenceWarnings (closing s))) = z
  exact ⟨rfl, rfl, rfl⟩

theorem saveOrdered_savesOrdered (s : State) : SaveOrdered s (savesOrdered s) := by
  have hto : Touches [.power, .link, .wnu, .msc, .seq, .draw] s (silenceWarnings (closing s)) :=
    ((touches_closing s).mono (by simp)).trans ((touches_silenceWarnings _).mono (by simp))
  obtain ⟨hzsru, hzodo, hzstc⟩ := savesOrdered_kept s
  generalize silenceWarnings (closing s) = y at *
  have hodo : y.odo = s.odo := hto .odo (by simp)
  have hstc : y.stc = s.stc := hto .stc (by simp)
  have hkept := touches_saveOdometer y
  have hsru : (saveOdometer y).sru = s.sru := (hkept .sru (by simp)).trans (hto .sru (by simp))
  have htrc : (saveOdometer y).trc = s.trc := (hkept .trc (by simp)).trans (hto .trc (by simp))
  have hsettings : (saveOdometer y).settings = s.settings := (hkept .settings (by simp)).trans (hto .settings (by simp))
  obtain ⟨hsaves, hquiet, hwriting⟩ := saveOdometer_spec y
  rw [hodo] at hsaves hquiet hwriting
  obtain ⟨-, hdrive, hoil, hitems, hwith, hkeeps, hcommit, hnone⟩ := saveService_spec (saveOdometer y)
  rw [shortAndCold_congr hsru htrc hsettings] at hnone
  refine SaveOrdered.congr ⟨⟨hdrive, hoil⟩, fun i => ?_, hwith, fun h => ?_, fun h => ?_,
    fun he hs hc hclean => ?_⟩ hzsru hzodo hzstc
  · rw [hitems, applyPenalty_item_congr hsru htrc hsettings]
  · rcases hcommit with hcommit | hcommit
    · rw [hcommit]
      exact hsaves h
    · exact .inr hcommit
  · have hsaved := hwriting h
    rw [hkeeps]
    rcases hcommit with hcommit | hcommit <;> rw [hcommit, hsaved]
    simp [h]
  · have hitem : ∀ i, ((saveOdometer y).item i).dirty = false := fun i => by
      rw [State.item, hsru]
      exact hclean i
    rwa [SaveEmpty, hnone hc hitem, hquiet hs, hstc]

/-- What the Power Unit and the gauges make of the save: one that is complete orders the park (R183). -/
theorem answers_endCourtesy {c : Instr} (hexec : exec c s = done (endCourtesy s)) (hcourtesy : s.power.state = .courtesy)
    (h : ∃ g, ((s.gauge g).state = .tracking ∨ (s.gauge g).state = .sweep) ∧ 0 < (s.gauge g).position) :
    ∃ t, Answers c s t ∧ Touches [.power, .gdu, .msc] (savesOrdered s) t ∧ WarningsSame (savesOrdered s) t ∧
      t.msc.peerText = none ∧ t.msc.lampTest ≠ .running ∧ t.power.courtesyTimer = none ∧ t.power.courtesyCap = none ∧
      t.power.state = .courtesy ∧
      (¬SaveEmpty t → t.gdu = s.gdu ∧ t.power = (closing s).power) ∧
      (SaveEmpty t → ParkOrdered s t) := by
  have hpower : (savesOrdered s).power = (closing s).power := by simp [savesOrdered]
  have hgdu : (savesOrdered s).gdu = s.gdu := by simp [savesOrdered, closing]
  have hmsc : (savesOrdered s).msc = (closing s).msc := by simp [savesOrdered]
  have hidle := idle_iff (savesOrdered s)
  have hshown {t : State} (hp : t.msc.peerText = (closing s).msc.peerText) (hl : t.msc.lampTest = (closing s).msc.lampTest) :
      t.msc.peerText = none ∧ t.msc.lampTest ≠ .running := by
    refine ⟨hp, ?_⟩
    rw [hl]
    simp only [closing, State.setMsc_msc]
    split_ifs with h
    · simp
    · exact h
  rw [endCourtesy_cases hcourtesy h] at hexec
  generalize savesOrdered s = w at *
  by_cases hw : w.stc.idle = true
  · rw [if_pos hw] at hexec
    have hbegin := touches_beginPark w
    have hto : Touches [.power, .gdu, .msc] w (refresh (beginPark w)) := (hbegin.mono (by simp)).refresh (by simp)
    have hempty : SaveEmpty (refresh (beginPark w)) := by
      rw [SaveEmpty, (hto .stc (by simp) : (refresh (beginPark w)).stc = w.stc)]
      exact hidle.mp hw
    have hpark : (refresh (beginPark w)).power = { w.power with endPhase := .parking, saveWait := none } := by
      rw [(refresh_frame _).1]
      rfl
    obtain ⟨hpeer, hlamp⟩ := hshown (t := refresh (beginPark w)) (by rw [refresh_msc_kept]; exact congrArg (·.peerText) hmsc)
      (by rw [refresh_msc_kept]; exact congrArg (·.lampTest) hmsc)
    have hsame : WarningsSame w (refresh (beginPark w)) := by
      constructor
      case spoiled | memory => rw [hpark]
      all_goals simp
    refine ⟨_, hexec, hto, hsame, hpeer, hlamp, ?_, ?_, ?_, fun hne => absurd hempty hne, fun _ => parkOrdered_beginPark hgdu⟩
    all_goals rw [hpark, hpower]
    · rfl
    · rfl
    · exact hcourtesy
  · rw [if_neg hw] at hexec
    have hto : Touches [.power, .gdu, .msc] w (refresh w) := (Touches.refl _ w).refresh (by simp)
    obtain ⟨hpeer, hlamp⟩ := hshown (t := refresh w) (by rw [refresh_msc_kept]; exact congrArg (·.peerText) hmsc)
      (by rw [refresh_msc_kept]; exact congrArg (·.lampTest) hmsc)
    have hkept : (refresh w).gdu = s.gdu ∧ (refresh w).power = (closing s).power := by
      rw [(refresh_frame w).1, (refresh_frame w).2.2.2.2.1]
      exact ⟨hgdu, hpower⟩
    have hsame : WarningsSame w (refresh w) := by constructor <;> simp
    refine ⟨_, hexec, hto, hsame, hpeer, hlamp, ?_, ?_, ?_, fun _ => hkept, fun hempty => ?_⟩
    · rw [hkept.2]
      rfl
    · rw [hkept.2]
      rfl
    · rw [hkept.2]
      exact hcourtesy
    · rw [SaveEmpty, (hto .stc (by simp) : (refresh w).stc = w.stc)] at hempty
      exact absurd (hidle.mpr hempty) hw

theorem touches_savesOrdered (s : State) :
    Touches [.power, .link, .odo, .stc, .wnu, .sru, .clock, .msc, .seq, .draw] s (savesOrdered s) ∧
      (savesOrdered s).clock = { s.clock with lastOff := s.clock.stamp } := by
  have hclock : (saveService (saveOdometer (silenceWarnings (closing s)))).clock = s.clock := by simp [closing]
  have hto : Touches [.power, .link, .odo, .stc, .wnu, .sru, .clock, .msc, .seq, .draw] s
      (saveService (saveOdometer (silenceWarnings (closing s)))) :=
    (((touches_closing s).mono (by simp)).trans ((touches_silenceWarnings _).mono (by simp))).trans
      (((touches_saveOdometer _).mono (by simp)).trans ((saveService_spec _).1.mono (by simp)))
  unfold savesOrdered
  generalize saveService (saveOdometer (silenceWarnings (closing s))) = z at *
  refine ⟨hto.trans fun b hb => ?_, by rw [State.setClock_clock, hclock]⟩
  cases b
  case clock => simp at hb
  all_goals rfl

/-- Settles O55: the warnings, the save and the drive at the end of COURTESY, and the park at a save that is complete or
has run out of its time. -/
theorem courtesyEndsInSaving : Obligations.CourtesyEndsInSaving := by
  unfold Obligations.CourtesyEndsInSaving
  intro s hcourtesy ordered empty hmoving
  refine ⟨fun c hphase hc => ?_, fun hphase hwait => ?_⟩
  · intro saves leaving oil interval j amount cold
    have hexec : exec c s = done (endCourtesy s) := by
      have hin : s.inCourtesy = true := by simp [State.inCourtesy, hcourtesy, hphase]
      rcases hc with ⟨rfl, ht⟩ | ⟨rfl, ht⟩ <;> exact if_pos ⟨hin, ht⟩
    obtain ⟨t, ht, hto, hsame, hpeer, hlamp, htimer, hcap, hstate, hbusy, hpark⟩ := answers_endCourtesy hexec hcourtesy hmoving
    obtain ⟨hsilent, hmarks, hasMade, hlisted, hleft, hothers, htold, hinv⟩ :=
      (warningsEnded_savesOrdered s).seen ⟨rfl, rfl, rfl, rfl, rfl, rfl⟩ hsame
    obtain ⟨hdrive, hitems, hwith, hcommits, hwriting, hnothing⟩ :=
      (saveOrdered_savesOrdered s).congr (hto .sru (by simp)) (hto .odo (by simp)) (hto .stc (by simp))
    obtain ⟨htouch, hclock⟩ := touches_savesOrdered s
    have hoffered (hne : t.wnu.list ≠ s.wnu.list) : WarningsOffered s t := fun h0 hroom =>
      ⟨_, warningsFrame_spec (hinv h0).1, htold.2 (WarningsRoom.of_roomFor hroom) hne⟩
    refine ⟨t, ht, (htouch.mono (by simp)).trans (hto.mono (by simp)), htimer, hcap, hstate, hsilent.1, hsilent.2, hasMade,
      hlisted, hleft, hothers, hoffered, hmarks.1, hmarks.2, hpeer, hlamp, (hto .clock (by simp)).trans hclock, hdrive.1,
      hdrive.2, fun hc => ?_, fun hc => ?_, fun i hi => ?_, hwith, hcommits, hwriting, hbusy, hpark, hnothing⟩
    · have hoil : t.item .engineOil = _ := (hitems .engineOil).trans (congrArg (State.item · .engineOil) (applyPenalty_of_cold hc))
      rw [State.item_setItem_same] at hoil
      rw [hoil]
      obtain ⟨d, -, -, -, -, -, hawaiting, -, -⟩ := hc
      exact ⟨rfl, hawaiting, rfl, rfl, lessPenalty_le _ _, fun h => if_pos h⟩
    · rw [hitems, applyPenalty_of_not hc]
    · rw [hitems]
      by_cases hc : ShortAndCold s
      · rw [applyPenalty_of_cold hc, State.item_setItem_other _ _ hi]
      · rw [applyPenalty_of_not hc]
  · have hexec : exec .saveWaitExpiry s = done (finishPark (beginPark s)) := if_pos ⟨hcourtesy, hphase, hwait⟩
    rw [finishPark_beginPark hmoving] at hexec
    refine ⟨_, hexec, ((touches_beginPark s).mono (by simp)).refresh (by simp), ?_, parkOrdered_beginPark rfl⟩
    rw [(refresh_frame _).1]
    rfl

end Sys2Proof.Machine
end

section
/-! CLAIM. The end of a store unit and of a job (R108, R111, R112, R150, R154, R183). -/

namespace Sys2Proof.Machine

open Sys2Proof

variable {s t x y : State} {a : ActiveJob} {u : Nat × List Byte} {j : Job} {n : Nat}

/-! ## The port takes the next job (R111) -/

theorem stcBegin_odo_free (hopen : s.stc.portOpen = true) (hfree : s.stc.active = none) :
    (stcBegin s).odo = if s.stc.waitOdometer.isSome then { s.odo with commit := .writing } else s.odo := by
  unfold stcBegin
  dsimp only
  rw [hopen, hfree]
  rcases s.stc.waitOdometer with _ | w
  · rcases s.stc.waitService with _ | ⟨e, es⟩
    · cases s.stc.waitConfiguration <;> rfl
    · rfl
  · rfl

theorem stcBegin_portOpen (s : State) : (stcBegin s).stc.portOpen = s.stc.portOpen := by
  unfold stcBegin
  dsimp only
  (repeat' split) <;> rfl

/-- With the port open, what begins leaves nothing that waits while no job is in progress (R111). -/
theorem stcBegin_idle (hopen : s.stc.portOpen = true) :
    (stcBegin s).stc.idle = true ↔ (stcBegin s).stc.active = none := by
  have hidle (h : (stcBegin s).stc.idle = true) : (stcBegin s).stc.active = none := ((idle_iff _).mp h).2.1
  refine ⟨hidle, fun h => ?_⟩
  cases hactive : s.stc.active with
  | some a =>
    rw [stcBegin_of_busy (by simp [hactive]), hactive] at h
    exact absurd h (by simp)
  | none =>
    obtain ⟨hodometer, hservice, hconfiguration, hnone⟩ := storeBegins_stcBegin hopen hactive
    rcases hw : s.stc.waitOdometer with _ | w
    · by_cases hs : s.stc.waitService = []
      · cases hc : s.stc.waitConfiguration with
        | true =>
          rw [hconfiguration hw hs hc] at h
          exact absurd h (by simp)
        | false =>
          rw [hnone hw hs hc]
          simp [StoreController.idle, hopen, hactive, hw, hs, hc]
      · rw [hservice hw hs] at h
        exact absurd h (by simp)
    · rw [hodometer w hw] at h
      exact absurd h (by simp)

/-! ## STORE_FAULT (R112) -/

/-- What a change of STORE_FAULT touches. -/
theorem touches_setStoreFault (v : Bool) (s : State) : Touches [.link, .stc, .wnu, .seq, .draw] s (setStoreFault v s) := by
  intro b hb
  unfold setStoreFault
  cases b
  case link | stc | wnu | seq | draw => simp at hb
  all_goals
    split_ifs <;> simp [Agree]

theorem offersKey_setStoreFault (v : Bool) (s : State) : OffersKey warningsKey s (setStoreFault v s) := by
  unfold setStoreFault
  split_ifs
  · exact OffersKey.of_txQueue rfl
  · exact OffersKey.trans (t := s.setStc { s.stc with fault := v }) (OffersKey.of_txQueue rfl) (warnSteps_offersKey.evalWarnings _ _)

/-- The blocks that the working out of STORE_FAULT reads besides are the same. -/
structure FaultSources (s t : State) : Prop where
  spoiled : t.power.patternSpoiled = s.power.patternSpoiled
  memory : t.power.patternMemory = s.power.patternMemory
  signals : t.signals = s.signals
  input : t.input = s.input
  settings : t.settings = s.settings

theorem FaultSources.trans (h : FaultSources s t) (h' : FaultSources t x) : FaultSources s x :=
  ⟨h'.spoiled.trans h.spoiled, h'.memory.trans h.memory, h'.signals.trans h.signals, h'.input.trans h.input,
    h'.settings.trans h.settings⟩

theorem FaultSources.of_touches (h : Touches [.link, .gdu, .trc, .odo, .stc, .wnu, .sru, .clock, .msc, .rqs, .store, .seq, .draw] s t) :
    FaultSources s t where
  spoiled := congrArg PowerUnit.patternSpoiled (h .power (by simp))
  memory := congrArg PowerUnit.patternMemory (h .power (by simp))
  signals := h .signals (by simp)
  input := h .input (by simp)
  settings := h .settings (by simp)

theorem FaultSources.definition (h : FaultSources s t) : t.definition = s.definition := by
  funext n
  simp only [State.definition, PowerUnit.definition, h.spoiled, h.memory]

/-- A change of STORE_FAULT, seen from the end of the command that makes it as R124 to R126 see it. -/
theorem warnings_setStoreFault {v : Bool} (hbefore : Touches [.rqs, .store] s x) (hsources : FaultSources s t)
    (hwnu : t.wnu = (setStoreFault v x).wnu) (hstc : t.stc.fault = v)
    (hqueue : RoomFor s 0x62 → ListOffered (setStoreFault v x) → ListOffered t) :
    (s.powered = true → t.stc.fault ≠ s.stc.fault → WarningsMoved [.storeFault] [] s t) ∧
      (t.stc.fault = s.stc.fault → ∀ n, Unmoved n s t) := by
  have hxstc : x.stc = s.stc := hbefore .stc (by simp)
  have hxwnu : x.wnu = s.wnu := hbefore .wnu (by simp)
  have hxpower : x.power = s.power := hbefore .power (by simp)
  have hxlink : x.link = s.link := hbefore .link (by simp)
  rw [hstc]
  refine ⟨fun hpowered hchange => ?_, fun hsame n => ?_⟩
  · have heq : setStoreFault v x = evalWarnings [.storeFault] (x.setStc { x.stc with fault := v }) :=
      if_neg fun h => hchange (by rw [← h, hxstc])
    have hstart : WarnBefore s (x.setStc { x.stc with fault := v }) :=
      WarnBefore.of_wnu hxwnu (by exact congrArg Link.txQueue hxlink) (by exact congrArg PowerUnit.patternSpoiled hxpower)
    have hpowered' : (x.setStc { x.stc with fault := v }).powered = true := by
      have : (x.setStc { x.stc with fault := v }).power = s.power := hxpower
      rwa [State.powered, State.awake, this]
    have hshown : MovesShown [.storeFault] [] s (setStoreFault v x) := by
      rw [heq]
      exact ((Settled.of_before hstart).evalTogether (ws := [.storeFault]) hpowered' (raisedOk_nil _) (by simp) (by simp)
        (by simp) (by simp) (by simp)).toMovesShown
    have hfault : FaultSources s (setStoreFault v x) :=
      FaultSources.of_touches ((hbefore.mono (by simp)).trans ((touches_setStoreFault v x).mono (by simp)))
    refine (hshown.after (fun n => Elsewhere.of_wnu hwnu n) (fun n hn was => ?_) ?_ hqueue fun hinv => ?_).warningsMoved.1
    · refine holds_of_marks (by simp_all) ?_ ?_ ?_ ?_ ?_ ?_ ?_ ?_
      · rw [hsources.spoiled, hfault.spoiled]
      · rw [hsources.memory, hfault.memory]
      · rw [hsources.signals, hfault.signals]
      · rw [hsources.input, hfault.input]
      · rw [hstc, setStoreFault_stc]
      · rw [hwnu]
      · rw [hwnu]
      · rw [hsources.settings, hfault.settings]
    · rw [hsources.definition, hfault.definition]
    · refine hinv.congr (by rw [hwnu]) (by rw [hwnu]) ?_
      rw [AsMade, AsMade, hsources.spoiled, hfault.spoiled]
      exact id
  · have heq : setStoreFault v x = x := if_pos (by rw [hxstc, hsame])
    rw [heq] at hwnu
    exact (Elsewhere.of_wnu (hwnu.trans hxwnu) n).unmoved

/-! ## The reports (R108, R112, R150, R154) -/

theorem cleanItem_item (s : State) (e : ServiceEntry) (i : ServiceItem) :
    ((cleanItem s e).item i).record = (s.item i).record ∧
      ((s.item i).dirty = false → ((cleanItem s e).item i).dirty = false) ∧
      (e.item = i → (s.item i).record = e.record → ((cleanItem s e).item i).dirty = false) := by
  unfold cleanItem
  by_cases hi : i = e.item
  · subst hi
    by_cases he : (s.item e.item).record = e.record
    · simp [he]
    · simp [he]
  · by_cases he : (s.item e.item).record = e.record
    · simp [he, State.item_setItem_other _ _ hi, Ne.symm hi]
    · simp [he, Ne.symm hi]

/-- The items of verified entries are clean, if their records are still what was written (R154). -/
theorem serviceReport_item (es : List ServiceEntry) (s : State) :
    (∀ i, ((serviceReport es s).item i).record = (s.item i).record ∧
      ((s.item i).dirty = false → ((serviceReport es s).item i).dirty = false)) ∧
      ∀ e ∈ es, (s.item e.item).record = e.record → ((serviceReport es s).item e.item).dirty = false := by
  induction es generalizing s with
  | nil => exact ⟨fun i => ⟨rfl, id⟩, fun e he => absurd he List.not_mem_nil⟩
  | cons x es ih =>
    obtain ⟨hrest, hclean⟩ := ih (cleanItem s x)
    refine ⟨fun i => ?_, fun e he hrecord => ?_⟩
    · obtain ⟨hrec, hdirty, -⟩ := cleanItem_item s x i
      obtain ⟨hrec', hdirty'⟩ := hrest i
      exact ⟨hrec'.trans hrec, fun h => hdirty' (hdirty h)⟩
    · obtain ⟨hrec, -, hcleaned⟩ := cleanItem_item s x e.item
      rcases List.mem_cons.mp he with rfl | he
      · exact (hrest e.item).2 (hcleaned rfl hrecord)
      · exact hclean e he (hrec.trans hrecord)

theorem touches_serviceReport (es : List ServiceEntry) (s : State) : Touches [.sru] s (serviceReport es s) := by
  intro b hb
  cases b
  case sru => simp at hb
  all_goals simp [Agree]

/-- The answer to a RESET SERVICE (R150, R190). -/
theorem touches_reportReset (es : List ServiceEntry) (n : Nat) (s : State) :
    Touches [.link, .rqs, .seq] s (reportReset es n s) := by
  intro b hb
  cases b
  case link | rqs | seq => simp at hb
  all_goals simp [Agree]

theorem reportReset_rqs (es : List ServiceEntry) (n : Nat) (s : State) :
    (reportReset es n s).rqs = { s.rqs with inService := (reportReset es n s).rqs.inService } := by
  unfold reportReset answerReset
  (repeat' split) <;> simp

/-- A RESET SERVICE that is carried and in service is answered, and nothing else is done (R150). -/
theorem reportReset_cases (es : List ServiceEntry) (n : Nat) (s : State) :
    reportReset es n s = s ∨
      ∃ r, s.rqs.inService = some r ∧
        reportReset es n s =
          respond r.id r.requester [0x00, if (es.take n).any (·.carriesReset) then 0x00 else 0x01]
            (s.setRqs { s.rqs with inService := none }) := by
  by_cases hany : es.any (·.carriesReset) = true
  · have heq : reportReset es n s = answerReset ((es.take n).any (·.carriesReset)) s := if_pos hany
    rw [heq]
    cases hr : s.rqs.inService with
    | none => exact .inl (by simp only [answerReset, hr])
    | some r => exact .inr ⟨r, rfl, by simp only [answerReset, hr]⟩
  · exact .inl (if_neg hany)

/-- A report touches the block that handed the job, and the link where it answers a request. -/
theorem touches_reportJob (j : Job) (n : Nat) (verified : Bool) (s : State) :
    Touches [.link, .odo, .stc, .sru, .rqs, .seq] s (reportJob j n verified s) := by
  intro b hb
  cases b
  case link | odo | stc | sru | rqs | seq => simp at hb
  all_goals simp [Agree]

/-- A report that is not the odometer's leaves the store and the odometer alone. -/
theorem reportJob_of_not_odometer (h : j.isOdometer = false) (n : Nat) (verified : Bool) (s : State) :
    (reportJob j n verified s).stc = s.stc ∧ (reportJob j n verified s).odo = s.odo ∧
      (reportJob j n verified s).rqs.staging = s.rqs.staging ∧ (reportJob j n verified s).rqs.lastError = s.rqs.lastError := by
  cases j with
  | odometer w mark slot => exact Bool.noConfusion h
  | configuration image => exact ⟨rfl, rfl, rfl, rfl⟩
  | service es =>
    have hservice := touches_serviceReport (es.take n) s
    have hreset := touches_reportReset es n (serviceReport (es.take n) s)
    have hrqs := reportReset_rqs es n (serviceReport (es.take n) s)
    rw [(hservice .rqs (by simp) : (serviceReport (es.take n) s).rqs = s.rqs)] at hrqs
    refine ⟨(hreset .stc (by simp)).trans (hservice .stc (by simp)), (hreset .odo (by simp)).trans (hservice .odo (by simp)), ?_, ?_⟩
    · exact (congrArg RequestServer.staging hrqs).trans rfl
    · exact (congrArg RequestServer.lastError hrqs).trans rfl

/-! ## The end of an odometer job (R108, R110, R111) -/

/-- A commit that starts with the port free is written at once. -/
theorem commitStart_free (hopen : s.stc.portOpen = true) (hfree : s.stc.active = none) :
    (commitStart s).odo = { s.odo with commit := .writing } ∧
      (commitStart s).stc =
        { s.stc with
          waitOdometer := none
          active :=
            some { job := .odometer s.odo.jobValue s.odo.restored s.stc.writePos, unit := 0, repeated := false } } := by
  unfold commitStart
  set y := (s.setStc { s.stc with waitOdometer := some { value := s.odo.jobValue, mark := s.odo.restored } }).setOdo
    { s.odo with commit := .waiting } with hy
  obtain ⟨hodometer, -⟩ := storeBegins_stcBegin (s := y) hopen hfree
  exact ⟨(stcBegin_odo_free (s := y) hopen hfree).trans (if_pos rfl), hodometer _ rfl⟩

/-- The port after an odometer job that was verified: a new commit is written at once, or the next job begins. -/
theorem odometer_verified (w : Nat) (mark : Bool) (slot : Nat) (hopen : x.stc.portOpen = true) (hfree : x.stc.active = none)
    (hnone : x.stc.waitOdometer = none) :
    let t := stcBegin (reportJob (.odometer w mark slot) n true x)
    let left := x.odo.pending - (w - x.odo.committed)
    t.odo.committed = w ∧ t.odo.verified = some w ∧ t.odo.pending = left ∧ t.stc.writePos = (slot + 1) % 16 ∧
      t.stc.fault = x.stc.fault ∧
      ((x.odo.saveMark = true ∧ 0 < left) ∨ 1000 * x.settings.commitKm ≤ left →
        t.odo.commit = .writing ∧
          ∃ v, JobHolds t.odo v ∧
            t.stc =
              { x.stc with
                writePos := (slot + 1) % 16
                active := some { job := .odometer v x.odo.restored ((slot + 1) % 16), unit := 0, repeated := false } }) ∧
      (x.odo.saveMark = false ∨ left = 0 → left < 1000 * x.settings.commitKm →
        t.odo.commit = .clear ∧ StoreBegins { x.stc with writePos := (slot + 1) % 16 } x.rqs.staging t.stc) := by
  intro t left
  set y := (x.setStc { x.stc with writePos := (slot + 1) % 16 }).setOdo (x.odo.verify w) with hy
  have hleft : y.odo.pending = left := rfl
  have hcases : reportJob (.odometer w mark slot) n true x =
      if (x.odo.saveMark = true ∧ 0 < y.odo.pending) ∨ y.commitMetres ≤ y.odo.pending then commitStart y else y := rfl
  have hmetres : y.commitMetres = 1000 * x.settings.commitKm := Nat.mul_comm _ _
  rw [hleft, hmetres] at hcases
  by_cases hc : (x.odo.saveMark = true ∧ 0 < left) ∨ 1000 * x.settings.commitKm ≤ left
  · obtain ⟨hodo, hstc⟩ := commitStart_free (s := y) hopen hfree
    have ht : t = commitStart y := by
      have : t = stcBegin (commitStart y) := by rw [← if_pos (c := _) (t := commitStart y) (e := y) hc, ← hcases]
      rw [this]
      exact stcBegin_of_busy (by simp [hstc])
    rw [ht, hodo, hstc]
    refine ⟨rfl, rfl, rfl, rfl, rfl, fun _ => ⟨rfl, y.odo.jobValue, ?_, ?_⟩, fun h1 h2 => ?_⟩
    · exact Odometer.jobHolds_jobValue y.odo
    · simp [hy, hnone, Odometer.verify]
    · rcases hc with ⟨hsave, hpos⟩ | hc
      · rcases h1 with h1 | h1
        · exact absurd (hsave.symm.trans h1) (by simp)
        · omega
      · omega
  · have ht : t = stcBegin y := by rw [← if_neg (c := _) (t := commitStart y) (e := y) hc, ← hcases]
    have hodo : (stcBegin y).odo = y.odo := (stcBegin_odo_free (s := y) hopen hfree).trans (if_neg (by simp [hy, hnone]))
    rw [ht, hodo]
    refine ⟨rfl, rfl, rfl, stcBegin_writePos y, stcBegin_fault y, fun h => absurd h hc, fun _ _ => ⟨rfl, ?_⟩⟩
    exact storeBegins_stcBegin (s := y) hopen hfree

/-- The port after an odometer job that failed (R108). -/
theorem odometer_failed (w : Nat) (mark : Bool) (slot : Nat) (hopen : x.stc.portOpen = true) (hfree : x.stc.active = none)
    (hnone : x.stc.waitOdometer = none) :
    let t := stcBegin (reportJob (.odometer w mark slot) n false x)
    t.odo = { x.odo with commit := .deferred, retryPoint := w + 1000 * x.settings.commitKm, saveMark := false } ∧
      StoreBegins { x.stc with writePos := (slot + 1) % 16 } x.rqs.staging t.stc := by
  intro t
  set y := (x.setStc { x.stc with writePos := (slot + 1) % 16 }).setOdo
    { x.odo with commit := .deferred, retryPoint := w + 1000 * x.settings.commitKm, saveMark := false } with hy
  have hmetres : (x.setStc { x.stc with writePos := (slot + 1) % 16 }).commitMetres = 1000 * x.settings.commitKm :=
    Nat.mul_comm _ _
  have ht : t = stcBegin y := by
    have : reportJob (.odometer w mark slot) n false x =
      odometerFailed w (x.setStc { x.stc with writePos := (slot + 1) % 16 }) := rfl
    rw [show t = stcBegin (reportJob (.odometer w mark slot) n false x) from rfl, this, odometerFailed, hmetres]
    rfl
  rw [ht]
  exact ⟨(stcBegin_odo_free (s := y) hopen hfree).trans (if_neg (by simp [hy, hnone])), storeBegins_stcBegin (s := y) hopen hfree⟩

/-! ## The end of a job (R111, R150, R183) -/

theorem reportJob_portOpen (j : Job) (n : Nat) (verified : Bool) (s : State) :
    (reportJob j n verified s).stc.portOpen = s.stc.portOpen := by
  cases hj : j.isOdometer with
  | false => rw [(reportJob_of_not_odometer hj n verified s).1]
  | true =>
    cases j with
    | service | configuration => exact Bool.noConfusion hj
    | odometer w mark slot =>
      unfold reportJob odometerVerified odometerFailed commitStart
      dsimp only
      split_ifs <;> simp [stcBegin_portOpen]

/-- The state in which no job is in progress. -/
def freed (x : State) : State := x.setStc { x.stc with active := none }

/-- The state in which the next job has begun behind the one that ended. -/
def jobEnded (j : Job) (n : Nat) (verified : Bool) (x : State) : State :=
  stcBegin (reportJob j n verified (freed x))

/-- A save that is complete with the job orders the park (R183). -/
theorem answers_endJob {c : Instr} {verified : Bool} (hexec : exec c s = done (endJob j n verified x)) (hpower : x.power = s.power)
    (hgdu : x.gdu = s.gdu) (hopen : x.stc.portOpen = true)
    (hmoving : s.power.state = .courtesy ∧ s.power.endPhase = .saving →
      ∃ g, ((s.gauge g).state = .tracking ∨ (s.gauge g).state = .sweep) ∧ 0 < (s.gauge g).position) :
    let saving := s.power.state = .courtesy ∧ s.power.endPhase = .saving
    ∃ t, Answers c s t ∧ Touches [.power, .gdu, .msc] (jobEnded j n verified x) t ∧
      t.power.patternSpoiled = s.power.patternSpoiled ∧ t.power.patternMemory = s.power.patternMemory ∧
      (saving → t.stc.active = none →
        t.power = { s.power with endPhase := .parking, saveWait := none } ∧ t.gdu.parkInForce = true ∧
          ∀ g, (s.gauge g).state = .tracking ∨ (s.gauge g).state = .sweep →
            0 < (s.gauge g).position → (t.gauge g).state = .parking) ∧
      (¬saving ∨ t.stc.active.isSome = true → t.power = s.power ∧ t.gdu = s.gdu) := by
  intro saving
  have hexec' : exec c s = done (finishSave (jobEnded j n verified x)) := hexec
  have hb : (jobEnded j n verified x).power = s.power ∧ (jobEnded j n verified x).gdu = s.gdu := by
    simp [jobEnded, freed, hpower, hgdu]
  have hidle : (jobEnded j n verified x).stc.idle = true ↔ (jobEnded j n verified x).stc.active = none :=
    stcBegin_idle (by rw [reportJob_portOpen]; exact hopen)
  generalize jobEnded j n verified x = b at *
  obtain ⟨hbpower, hbgdu⟩ := hb
  by_cases hc : b.power.state = .courtesy ∧ b.power.endPhase = .saving ∧ b.stc.idle = true
  · obtain ⟨hcourtesy, hphase, hfree⟩ := hc
    rw [hbpower] at hcourtesy hphase
    have hmoves := hmoving ⟨hcourtesy, hphase⟩
    have heq : finishSave b = beginPark b := by
      rw [finishSave, if_pos ⟨hbpower ▸ hcourtesy, hbpower ▸ hphase, hfree⟩, finishPark_beginPark]
      simpa only [State.gauge, hbgdu] using hmoves
    rw [heq] at hexec'
    have hto : Touches [.power, .gdu, .msc] b (refresh (beginPark b)) := ((touches_beginPark b).mono (by simp)).refresh (by simp)
    have hstc : (refresh (beginPark b)).stc = b.stc := hto .stc (by simp)
    have hpark : (refresh (beginPark b)).power = { s.power with endPhase := .parking, saveWait := none } := by
      rw [(refresh_frame _).1, ← hbpower]
      rfl
    obtain ⟨-, hforce, hgauges⟩ := parkOrdered_beginPark (x := b) (s := s) hbgdu
    refine ⟨_, hexec', hto, by rw [hpark], by rw [hpark], fun _ _ => ⟨hpark, hforce, fun g hm hp => ((hgauges g).1 hm hp).1⟩, ?_⟩
    rintro (hs | hactive)
    · exact absurd ⟨hcourtesy, hphase⟩ hs
    · rw [hstc, hidle.mp hfree] at hactive
      exact absurd hactive (by simp)
  · have heq : finishSave b = b := if_neg hc
    rw [heq] at hexec'
    have hto : Touches [.power, .gdu, .msc] b (refresh b) := (Touches.refl _ b).refresh (by simp)
    have hstc : (refresh b).stc = b.stc := hto .stc (by simp)
    have hpower' : (refresh b).power = s.power := by rw [(refresh_frame b).1, hbpower]
    refine ⟨_, hexec', hto, by rw [hpower'], by rw [hpower'], fun hs hactive => ?_, fun _ => ⟨hpower', ?_⟩⟩
    · rw [hstc] at hactive
      exact absurd ⟨hbpower ▸ hs.1, hbpower ▸ hs.2, hidle.mpr hactive⟩ hc
    · rw [(refresh_frame b).2.2.2.2.1, hbgdu]

/-! ## What the end of a job shows -/

/-- A job has ended with `n` of its units verified. -/
structure JobEnds (m : Memory) (j : Job) (n : Nat) (verified : Bool) (s t : State) : Prop where
  touches : Touches [.power, .link, .gdu, .odo, .stc, .wnu, .sru, .msc, .rqs, .store, .seq, .draw] s t
  store : t.store = m
  fault : t.stc.fault = !verified
  code : verified = false → t.rqs.lastError = 0x11
  service : ∀ es, j = .service es → ∀ e ∈ es.take n, (s.item e.item).record = e.record → (t.item e.item).dirty = false
  configuration : ∀ image, j = .configuration image → t.rqs.writeStatus = if verified then .written else .failed
  others : j.isOdometer = false →
    StoreBegins { s.stc with active := none, fault := !verified } s.rqs.staging t.stc ∧
      t.odo = if s.stc.waitOdometer.isSome then { s.odo with commit := .writing } else s.odo
  answers : ∀ es r, j = .service es → (∃ e ∈ es, e.carriesReset = true) → s.rqs.inService = some r → RoomFor s r.id →
    t.rqs.inService = none ∧
      Queued t
        { cls := 3, kind := .response, source := s.settings.address, target := some r.requester, id := r.id
          data := [0x00, if (es.take n).any (·.carriesReset) then 0x00 else 0x01] }
  warnings : s.powered = true → t.stc.fault ≠ s.stc.fault → WarningsMoved [.storeFault] [] s t
  unmoved : t.stc.fault = s.stc.fault → ∀ n, Unmoved n s t

/-! ## The answer and CLUSTER_WARNINGS in the queue (R14, R43, R190) -/

section
variable {id : Byte} {requester : Nat} {data : List Byte} {f : Frame}

theorem sameKey_warningsKey_of_target {e : TxEntry} {k : Nat} (h : e.frame.target = some k) :
    e.frame.sameKey warningsKey = false := by
  refine Bool.eq_false_iff.mpr fun hkey => ?_
  have := (Frame.sameKey_iff.mp hkey).2
  rw [h] at this
  exact absurd this (by simp [warningsKey])

/-- A response finds room behind CLUSTER_WARNINGS. -/
theorem queued_respond_after (hroom : RoomFor s id) (hoffers : OffersKey warningsKey s x) :
    Queued (respond id requester data x)
      { cls := 3, kind := .response, source := x.settings.address, target := some requester, id := id, data := data } := by
  obtain ⟨hlen, hnone⟩ := hroom
  have hslots := slots_le_succ warningsKey s.link.txQueue
  obtain ⟨hsame, hother, -⟩ := hoffers (by omega)
  have hx := length_le_slots warningsKey x.link.txQueue
  have hroom' := slots_le_succ (x.ownFrame 3 .response (some requester) id data) x.link.txQueue
  refine queued_offer_of_slots (f := x.ownFrame 3 .response (some requester) id data) (by omega) fun e he hkey => ?_
  obtain ⟨hid, htarget⟩ := Frame.sameKey_iff.mp hkey
  exact absurd hid (hnone e ((hother e (sameKey_warningsKey_of_target htarget)).mp he))

/-- A broadcast that waits goes on waiting where a response has room. -/
theorem queued_respond_other (hroom : x.link.txQueue.length ≤ 7) (hf : f.target = none) (hq : Queued x f) :
    Queued (respond id requester data x) f := by
  obtain ⟨e, he, rfl⟩ := hq
  have hslots := slots_le_succ (x.ownFrame 3 .response (some requester) id data) x.link.txQueue
  obtain ⟨-, hother, -⟩ := offersKey_offer (x.ownFrame 3 .response (some requester) id data) x (by omega)
  refine ⟨e, (hother e (Bool.eq_false_iff.mpr fun hkey => ?_)).mpr he, rfl⟩
  have := (Frame.sameKey_iff.mp hkey).2
  rw [hf] at this
  exact absurd this (by simp [State.ownFrame])

end

/-- The CLUSTER_WARNINGS that waits goes on to be the list where nothing of it changes. -/
theorem ListOffered.of_same (h : ListOffered s) (hqueue : t.link.txQueue = s.link.txQueue) (hlist : t.wnu.list = s.wnu.list)
    (hclass : t.classOf = s.classOf) (hsettings : t.settings = s.settings) : ListOffered t :=
  ListOffered.congr (by rwa [warningsFrame_congr hlist hclass hsettings]) hqueue

theorem warningsFrame_target (s : State) : (warningsFrame s).target = none := rfl

/-- A report leaves a broadcast that waits, where there was room for CLUSTER_WARNINGS. -/
theorem queued_reportJob {f : Frame} (j : Job) (n : Nat) (verified : Bool) (hroom : x.link.txQueue.length ≤ 7)
    (hf : f.target = none) (hq : Queued x f) : Queued (reportJob j n verified x) f := by
  have hsame {y : State} (h : y.link = x.link) : Queued y f := by rwa [Queued, h]
  cases j with
  | configuration image => exact hsame rfl
  | odometer w mark slot =>
    refine hsame ?_
    unfold reportJob
    dsimp only
    split_ifs
    · simp
    · rfl
  | service es =>
    change Queued (reportReset es n (serviceReport (es.take n) x)) f
    have hlink : (serviceReport (es.take n) x).link = x.link := touches_serviceReport _ _ .link (by simp)
    rcases reportReset_cases es n (serviceReport (es.take n) x) with heq | ⟨q, -, heq⟩ <;> rw [heq]
    · exact hsame hlink
    · exact queued_respond_other (by simpa [hlink] using hroom) hf (hsame hlink)

theorem reportJob_fault (j : Job) (n : Nat) (verified : Bool) (s : State) :
    (reportJob j n verified s).stc.fault = s.stc.fault ∧ (reportJob j n verified s).rqs.lastError = s.rqs.lastError := by
  cases hj : j.isOdometer with
  | false =>
    obtain ⟨hstc, -, -, hcode⟩ := reportJob_of_not_odometer hj n verified s
    exact ⟨by rw [hstc], hcode⟩
  | true =>
    cases j with
    | service | configuration => exact Bool.noConfusion hj
    | odometer w mark slot =>
      unfold reportJob odometerVerified odometerFailed commitStart
      dsimp only
      split_ifs <;> simp [stcBegin_fault]

/-- What the report and the next job's beginning make of a state in which STORE_FAULT has been set. -/
theorem jobEnds {x0 : State} {verified : Bool} (hx0 : Touches [.rqs, .store] s x0)
    (hrqs : x0.rqs = { s.rqs with lastError := x0.rqs.lastError }) (hcode : verified = false → x0.rqs.lastError = 0x11)
    (hopen : s.stc.portOpen = true)
    (ht : Touches [.power, .gdu, .msc] (jobEnded j n verified (setStoreFault (!verified) x0)) t)
    (hspoiled : t.power.patternSpoiled = s.power.patternSpoiled) (hmemory : t.power.patternMemory = s.power.patternMemory) :
    JobEnds x0.store j n verified s t := by
  set x := setStoreFault (!verified) x0 with hx
  set r := reportJob j n verified (freed x) with hr
  have htx0 := touches_setStoreFault (!verified) x0
  have hxstc : x.stc = { s.stc with fault := !verified } := by
    rw [hx, setStoreFault_stc, (hx0 .stc (by simp) : x0.stc = s.stc)]
  have htr := touches_reportJob j n verified (freed x)
  have htb : Touches [.odo, .stc] r (jobEnded j n verified x) := touches_stcBegin r
  have hsx : Touches [.rqs, .store, .link, .stc, .wnu, .seq, .draw] s x := (hx0.mono (by simp)).trans (htx0.mono (by simp))
  have hxx : Touches [.stc] x (freed x) := fun b hb => by
    cases b
    case stc => simp at hb
    all_goals rfl
  have hrt : Touches [.power, .gdu, .msc, .odo, .stc] r t := (htb.mono (by simp)).trans (ht.mono (by simp))
  have hxt : Touches [.power, .gdu, .msc, .odo, .stc, .link, .sru, .rqs, .seq] x t :=
    ((hxx.mono (by simp)).trans (htr.mono (by simp))).trans (hrt.mono (by simp))
  have htouch : Touches [.power, .link, .gdu, .odo, .stc, .wnu, .sru, .msc, .rqs, .store, .seq, .draw] s t :=
    (hsx.mono (by simp)).trans (hxt.mono (by simp))
  have hxrqs : (freed x).rqs = x0.rqs := htx0 .rqs (by simp)
  have hxsru : (freed x).sru = s.sru := hsx .sru (by simp)
  have htrqs : t.rqs = r.rqs := hrt .rqs (by simp)
  have htsru : t.sru = r.sru := hrt .sru (by simp)
  have htlink : t.link = r.link := hrt .link (by simp)
  have hbstc : t.stc = (jobEnded j n verified x).stc := ht .stc (by simp)
  have hbodo : t.odo = (jobEnded j n verified x).odo := ht .odo (by simp)
  have hitem (i : ServiceItem) : t.item i = r.item i := by rw [State.item, State.item, htsru]
  have hxitem (i : ServiceItem) : (freed x).item i = s.item i := by
    rw [State.item, State.item, hxsru]
  obtain ⟨hfault, hlast⟩ := reportJob_fault j n verified (freed x)
  have htfault : t.stc.fault = !verified := by
    rw [hbstc, jobEnded, stcBegin_fault, hfault]
    exact congrArg StoreController.fault hxstc
  have hxstc' : (freed x).stc = { s.stc with active := none, fault := !verified } := by
    unfold freed
    rw [State.setStc_stc, hxstc]
  have hoffers : OffersKey warningsKey s x :=
    OffersKey.trans (OffersKey.of_txQueue (congrArg Link.txQueue (hx0 .link (by simp)))) (offersKey_setStoreFault _ x0)
  have htwnu : t.wnu = x.wnu := hxt .wnu (by simp)
  have hsources : FaultSources s t := by
    refine ⟨hspoiled, hmemory, htouch .signals (by simp), htouch .input (by simp), htouch .settings (by simp)⟩
  have hvx : (freed x).link = x.link := rfl
  have hqueue (hroom : RoomFor s 0x62) (ho : ListOffered x) : ListOffered t := by
    have hlen : x.link.txQueue.length ≤ 7 := by
      have hslots := slots_le_succ warningsKey s.link.txQueue
      obtain ⟨hsame, -⟩ := hoffers (by have := hroom.1; omega)
      have := length_le_slots warningsKey x.link.txQueue
      have := hroom.1
      omega
    have hq : Queued r (warningsFrame x) :=
      queued_reportJob (x := freed x) j n verified hlen (warningsFrame_target x) ho
    refine ListOffered.congr (s := r) ?_ (by rw [htlink])
    rwa [warningsFrame_congr (t := t) (s := x) (by rw [htwnu]) ?_ (hxt .settings (by simp))]
    funext n
    have hpower : x.power = s.power := hsx .power (by simp)
    simp only [State.classOf, State.definition, PowerUnit.definition, hspoiled, hmemory, hpower]
  obtain ⟨hwarnings, hunmoved⟩ := warnings_setStoreFault hx0 hsources htwnu htfault hqueue
  refine ⟨htouch, (hxt .store (by simp)).trans (htx0 .store (by simp)), htfault, fun hf => ?code, ?service, ?configuration,
    fun hj => ?others, ?answers, hwarnings, hunmoved⟩
  case code => rw [htrqs, hlast, hxrqs, hcode hf]
  case service =>
    rintro es rfl e he hrecord
    have hclean := (serviceReport_item (es.take n) (freed x)).2 e he (by rwa [hxitem])
    have hreset : r.sru = (serviceReport (es.take n) (freed x)).sru :=
      touches_reportReset es n _ .sru (by simp)
    rw [hitem, State.item, hreset]
    exact hclean
  case configuration =>
    rintro image rfl
    rw [htrqs]
    rfl
  case others =>
    obtain ⟨hstc, hodo, hstaging, -⟩ := reportJob_of_not_odometer hj n verified (freed x)
    have hstc' : r.stc = { s.stc with active := none, fault := !verified } := hstc.trans hxstc'
    have hopen' : r.stc.portOpen = true := by rw [hstc']; exact hopen
    have hfree : r.stc.active = none := congrArg StoreController.active hstc'
    rw [hbstc, hbodo, jobEnded]
    refine ⟨?_, ?_⟩
    · have := storeBegins_stcBegin hopen' hfree
      rw [hstc', hstaging, hxrqs, hrqs] at this
      exact this
    · rw [stcBegin_odo_free hopen' hfree, hstc', hodo]
      have hxodo : (freed x).odo = s.odo := hsx .odo (by simp)
      rw [hxodo]
  case answers =>
    rintro es q rfl hcarries hservice hroom
    have hlink := touches_serviceReport (es.take n) (freed x)
    have hany : es.any (·.carriesReset) = true := by simpa using hcarries
    have hin : (serviceReport (es.take n) (freed x)).rqs.inService = some q := by
      rw [(hlink .rqs (by simp) : (serviceReport (es.take n) (freed x)).rqs = _), hxrqs, hrqs]
      exact hservice
    have heq : r = respond q.id q.requester [0x00, if (es.take n).any (·.carriesReset) then 0x00 else 0x01]
        ((serviceReport (es.take n) (freed x)).setRqs
          { (serviceReport (es.take n) (freed x)).rqs with inService := none }) := by
      change reportReset es n (serviceReport (es.take n) (freed x)) = _
      rw [reportReset, if_pos hany]
      simp only [answerReset, hin]
    have hoffers' : OffersKey warningsKey s ((serviceReport (es.take n) (freed x)).setRqs
        { (serviceReport (es.take n) (freed x)).rqs with inService := none }) :=
      hoffers.trans (OffersKey.of_txQueue (congrArg Link.txQueue (hlink .link (by simp) : _ = (freed x).link)))
    have hq := queued_respond_after (requester := q.requester)
      (data := [0x00, if (es.take n).any (·.carriesReset) then 0x00 else 0x01]) hroom hoffers'
    rw [← heq] at hq
    have hsettings : (serviceReport (es.take n) (freed x)).settings = s.settings :=
      (hlink .settings (by simp)).trans (hsx .settings (by simp))
    refine ⟨?_, ?_⟩
    · rw [htrqs, heq]
      rfl
    · rw [Queued, htlink, ← hsettings]
      exact hq

/-! ## The end of a unit (R112) -/

/-- While an odometer job is in progress, none waits (R107). -/
theorem waitOdometer_of_odometer (hinv : CommitInv s) (ha : s.stc.active = some a) (hj : a.job.isOdometer = true) :
    s.stc.waitOdometer = none := by
  obtain ⟨-, -, -, hwaiting, -, hwriting⟩ := hinv
  have hc : s.odo.commit = .writing := hwriting.mpr (by simp [ha, hj])
  rw [hc] at hwaiting
  simpa using hwaiting

/-- What STORE_UNIT_COMPLETE does with a unit in progress: the memory holds what was read back (R112). -/
theorem exec_storeUnitComplete {rb : List Byte} (hinv : StoreInv s) (ha : s.stc.active = some a) (hu : a.current = some u)
    (hlen : rb.length = u.2.length) :
    exec (.storeUnitComplete rb) s =
      done
        (if rb = u.2 then unitVerified a (s.setStore (s.store.writeBytes u.1 rb))
         else unitMismatched a (s.setStore (s.store.writeBytes u.1 rb))) := by
  have hle : u.1 + u.2.length ≤ 256 := unit_end_le (hinv.2.2 a ha) hu
  have hexec : exec (.storeUnitComplete rb) s = execStoreUnitComplete rb s := rfl
  obtain ⟨address, bytes⟩ := u
  rw [hexec]
  simp only [execStoreUnitComplete, ha, hu]
  rw [if_neg (by simpa using hlen), if_neg (by simpa using hle)]

/-- A job ends within the command: what its report, the next job and the Power Unit make of it. -/
theorem exists_jobEnds {c : Instr} {x0 : State} {verified : Bool}
    (hexec : exec c s = done (endJob j n verified (setStoreFault (!verified) x0))) (hx0 : Touches [.rqs, .store] s x0)
    (hrqs : x0.rqs = { s.rqs with lastError := x0.rqs.lastError }) (hcode : verified = false → x0.rqs.lastError = 0x11)
    (hopen : s.stc.portOpen = true) (hnone : j.isOdometer = true → s.stc.waitOdometer = none)
    (hmoving : s.power.state = .courtesy ∧ s.power.endPhase = .saving →
      ∃ g, ((s.gauge g).state = .tracking ∨ (s.gauge g).state = .sweep) ∧ 0 < (s.gauge g).position) :
    let saving := s.power.state = .courtesy ∧ s.power.endPhase = .saving
    ∃ t, Answers c s t ∧ JobEnds x0.store j n verified s t ∧
      (verified = true → ∀ w m slot, j = .odometer w m slot →
        let left := s.odo.pending - (w - s.odo.committed)
        t.odo.committed = w ∧ t.odo.verified = some w ∧ t.odo.pending = left ∧ t.stc.writePos = (slot + 1) % 16 ∧
          ((s.odo.saveMark = true ∧ 0 < left) ∨ 1000 * s.settings.commitKm ≤ left →
            t.odo.commit = .writing ∧
              ∃ v, JobHolds t.odo v ∧
                t.stc =
                  { s.stc with
                    fault := false, writePos := (slot + 1) % 16
                    active :=
                      some { job := .odometer v s.odo.restored ((slot + 1) % 16), unit := 0, repeated := false } }) ∧
          (s.odo.saveMark = false ∨ left = 0 → left < 1000 * s.settings.commitKm →
            t.odo.commit = .clear ∧
              StoreBegins { s.stc with active := none, fault := false, writePos := (slot + 1) % 16 } s.rqs.staging t.stc)) ∧
      (verified = false → ∀ w m slot, j = .odometer w m slot →
        t.odo = { s.odo with commit := .deferred, retryPoint := w + 1000 * s.settings.commitKm, saveMark := false } ∧
          StoreBegins { s.stc with active := none, fault := true, writePos := (slot + 1) % 16 } s.rqs.staging t.stc) ∧
      (saving → t.stc.active = none →
        t.power = { s.power with endPhase := .parking, saveWait := none } ∧ t.gdu.parkInForce = true ∧
          ∀ g, (s.gauge g).state = .tracking ∨ (s.gauge g).state = .sweep →
            0 < (s.gauge g).position → (t.gauge g).state = .parking) ∧
      (¬saving ∨ t.stc.active.isSome = true → t.power = s.power ∧ t.gdu = s.gdu) := by
  intro saving
  have htx0 := touches_setStoreFault (!verified) x0
  have hsx : Touches [.rqs, .store, .link, .stc, .wnu, .seq, .draw] s (setStoreFault (!verified) x0) :=
    (hx0.mono (by simp)).trans (htx0.mono (by simp))
  have hxstc : (freed (setStoreFault (!verified) x0)).stc = { s.stc with active := none, fault := !verified } := by
    unfold freed
    rw [State.setStc_stc, setStoreFault_stc, (hx0 .stc (by simp) : x0.stc = s.stc)]
  have hopen' : (setStoreFault (!verified) x0).stc.portOpen = true := by
    rw [setStoreFault_stc, (hx0 .stc (by simp) : x0.stc = s.stc)]
    exact hopen
  obtain ⟨t, ht, hto, hspoiled, hmemory, hpark, hstay⟩ :=
    answers_endJob hexec (hsx .power (by simp)) (hsx .gdu (by simp)) hopen' hmoving
  have hends := jobEnds hx0 hrqs hcode hopen hto hspoiled hmemory
  have hodo : (freed (setStoreFault (!verified) x0)).odo = s.odo := hsx .odo (by simp)
  have hsettings : (freed (setStoreFault (!verified) x0)).settings = s.settings := hsx .settings (by simp)
  have hstaging : (freed (setStoreFault (!verified) x0)).rqs.staging = s.rqs.staging := by
    have hfrqs : (freed (setStoreFault (!verified) x0)).rqs = x0.rqs := htx0 .rqs (by simp)
    rw [hfrqs, hrqs]
  have hfree : (freed (setStoreFault (!verified) x0)).stc.active = none := rfl
  have htodo : t.odo = (jobEnded j n verified (setStoreFault (!verified) x0)).odo := hto .odo (by simp)
  have htstc : t.stc = (jobEnded j n verified (setStoreFault (!verified) x0)).stc := hto .stc (by simp)
  refine ⟨t, ht, hends, ?_, ?_, hpark, hstay⟩
  · rintro rfl w m slot rfl
    have hspec := odometer_verified (n := n) (x := freed (setStoreFault (!true) x0)) w m slot hopen' hfree (by rw [hxstc]; exact hnone rfl)
    rw [hodo, hsettings, hstaging, hxstc] at hspec
    rw [htodo, htstc]
    obtain ⟨hcommitted, hverified, hpending, hpos, -, hagain, hclear⟩ := hspec
    exact ⟨hcommitted, hverified, hpending, hpos, hagain, hclear⟩
  · rintro rfl w m slot rfl
    have hspec := odometer_failed (n := n) (x := freed (setStoreFault (!false) x0)) w m slot hopen' hfree (by rw [hxstc]; exact hnone rfl)
    rw [hodo, hsettings, hstaging, hxstc] at hspec
    rw [htodo, htstc]
    exact hspec

/-- Settles O46: the branches of the end of a unit, and the report that the end of a job makes. -/
theorem storeUnitEnds : Obligations.StoreUnitEnds := by
  unfold Obligations.StoreUnitEnds
  refine ⟨fun s => ⟨fun hopen hfree => ⟨storeBegins_stcBegin hopen hfree, stcBegin_odo_free hopen hfree⟩, fun h => ?_⟩, ?_⟩
  · refine stcBegin_of_busy ?_
    rcases h with h | h
    · simp [h]
    · obtain ⟨a, ha⟩ := Option.isSome_iff_exists.mp h
      simp [ha]
  intro s a u rb hstore hcommit ha hu hlen hopen saving hmoving verified failed
  have hexec := exec_storeUnitComplete hstore ha hu hlen
  set s1 := s.setStore (s.store.writeBytes u.1 rb) with hs1
  have hs1t : Touches [.store] s s1 := fun b hb => by
    cases b
    case store => simp at hb
    all_goals rfl
  have hread {t : State} (h : t.store = s1.store) :
      (∀ x, x < u.1 ∨ u.1 + rb.length ≤ x → t.store.read x = s.store.read x) ∧
        (MemoryInv s → ∀ i, (h : i < rb.length) → t.store.read (u.1 + i) = rb[i]) := by
    rw [h]
    exact ⟨fun x hx => Memory.read_writeBytes_other hx, fun hm i hi => Memory.read_writeBytes_same hm hi⟩
  have hunit : a.unit < a.job.units.length := (hstore.2.2 a ha).1
  have hnone : a.job.isOdometer = true → s.stc.waitOdometer = none := waitOdometer_of_odometer hcommit ha
  by_cases hrb : rb = u.2
  · have hnotfailed : ¬failed := fun h => h.1 hrb
    rw [if_pos hrb] at hexec
    by_cases hnext : a.unit + 1 < a.job.units.length
    · have hnot : ¬verified := fun h => by have := h.2; omega
      set y := setStoreFault false s1 with hy
      set z := y.setStc { y.stc with active := some { a with unit := a.unit + 1, repeated := false } } with hz
      have heq : unitVerified a s1 = z := if_pos hnext
      rw [heq] at hexec
      have hsy : Touches [.link, .stc, .wnu, .store, .seq, .draw] s y :=
        (hs1t.mono (by simp)).trans ((touches_setStoreFault false s1).mono (by simp))
      have hyz : Touches [.stc] y z := fun b hb => by
        cases b
        case stc => simp at hb
        all_goals rfl
      have hyt : Touches [.stc, .msc] y (refresh z) := (hyz.mono (by simp)).refresh (by simp)
      have hst : Touches [.link, .stc, .wnu, .msc, .store, .seq, .draw] s (refresh z) :=
        (hsy.mono (by simp)).trans (hyt.mono (by simp))
      have hstc : (refresh z).stc =
          { s.stc with active := some { a with unit := a.unit + 1, repeated := false }, fault := false } := by
        have hystc : y.stc = { s.stc with fault := false } := setStoreFault_stc false s1
        rw [(refresh_frame z).2.2.2.2.2.2.2.1, hz, State.setStc_stc, hystc]
      obtain ⟨hsame, hback⟩ := hread (t := refresh z)
        ((hyt .store (by simp)).trans (touches_setStoreFault false s1 .store (by simp)))
      have hdefinition : (refresh z).classOf = y.classOf := State.classOf_of_power (hyt .power (by simp))
      have hwnu : (refresh z).wnu = y.wnu := hyt .wnu (by simp)
      obtain ⟨hwarnings, hunmoved⟩ := warnings_setStoreFault (v := false) (hs1t.mono (by simp))
        (FaultSources.of_touches (hst.mono (by simp))) hwnu (by rw [hstc]) fun _ ho =>
          ho.of_same (congrArg Link.txQueue (hyt .link (by simp))) (by rw [hwnu]) hdefinition (hyt .settings (by simp))
      exact ⟨refresh z, hexec, hst.mono (by simp), hsame, hback, fun h => absurd hrb h, fun _ _ =>
        ⟨hstc, hst .odo (by simp), hst .sru (by simp), hst .rqs (by simp), hst .power (by simp), hst .gdu (by simp)⟩,
        fun h => absurd h hnot, fun h => absurd h hnotfailed, fun h => absurd h (not_or.mpr ⟨hnot, hnotfailed⟩), hwarnings, hunmoved⟩
    · have hverified : verified := ⟨hrb, by omega⟩
      have heq : unitVerified a s1 = endJob a.job (a.unit + 1) true (setStoreFault (!true) s1) := if_neg hnext
      rw [heq] at hexec
      obtain ⟨t, ht, hends, hodometer, -, hpark, hstay⟩ := exists_jobEnds hexec (hs1t.mono (by simp)) rfl (by simp) hopen hnone hmoving
      obtain ⟨hsame, hback⟩ := hread hends.store
      have htake (es : List ServiceEntry) (hj : a.job = .service es) : es.take (a.unit + 1) = es := by
        refine List.take_of_length_le ?_
        have hlen := hverified.2
        rw [hj] at hlen
        simp only [Job.units, List.length_map] at hlen
        omega
      have hdecide : decide failed = !true := by simp [hnotfailed]
      refine ⟨t, ht, hends.touches, hsame, hback, fun h => absurd hrb h, fun _ h => absurd h hnext, fun _ => ⟨hends.fault,
        hodometer rfl, fun es hj e he => ?_, fun image hj => (hends.configuration image hj).trans (if_pos rfl)⟩,
        fun h => absurd h hnotfailed, fun _ => ⟨fun hj => ?_, fun es r hj hcarries hr hroom => ?_, hpark, hstay⟩, hends.warnings,
        hends.unmoved⟩
      · exact hends.service es hj e (by rwa [htake es hj])
      · rw [hdecide]
        exact hends.others hj
      · obtain ⟨hin, hq⟩ := hends.answers es r hj hcarries hr hroom
        rw [htake es hj, if_pos (by simpa using hcarries)] at hq
        exact ⟨hin, fun _ => hq, fun h => absurd h hnotfailed⟩
  · have hnot : ¬verified := fun h => hrb h.1
    rw [if_neg hrb] at hexec
    by_cases hrep : a.repeated = true
    · have hfailed : failed := ⟨hrb, hrep⟩
      have heq : unitMismatched a s1 = endJob a.job a.unit false (setStoreFault (!false) (recordCode 0x11 s1)) := if_pos hrep
      rw [heq] at hexec
      have hx0 : Touches [.rqs, .store] s (recordCode 0x11 s1) := (hs1t.mono (by simp)).trans fun b hb => by
        cases b
        case rqs => simp at hb
        all_goals rfl
      obtain ⟨t, ht, hends, -, hodometer, hpark, hstay⟩ := exists_jobEnds hexec hx0 rfl (fun _ => rfl) hopen hnone hmoving
      obtain ⟨hsame, hback⟩ := hread hends.store
      have hdecide : decide failed = !false := by simp [hfailed]
      refine ⟨t, ht, hends.touches, hsame, hback, fun _ h => absurd hrep (by simp [h]), fun h => absurd h hrb, fun h => absurd h hnot,
        fun _ => ⟨hends.fault, hends.code rfl, hodometer rfl, hends.service,
          fun image hj => (hends.configuration image hj).trans (if_neg (by simp))⟩,
        fun _ => ⟨fun hj => ?_, fun es r hj hcarries hr hroom => ?_, hpark, hstay⟩, hends.warnings, hends.unmoved⟩
      · rw [hdecide]
        exact hends.others hj
      · obtain ⟨hin, hq⟩ := hends.answers es r hj hcarries hr hroom
        refine ⟨hin, fun h => ?_, fun _ h => ?_⟩
        · rwa [if_pos (by simpa using h.resolve_left hnot)] at hq
        · rwa [if_neg (by simpa using h)] at hq
    · have hnotfailed : ¬failed := fun h => hrep h.2
      set z := s1.setStc { s1.stc with active := some { a with repeated := true } } with hz
      have heq : unitMismatched a s1 = z := if_neg hrep
      rw [heq] at hexec
      have hst : Touches [.stc, .store, .msc] s (refresh z) := Touches.refresh ((hs1t.mono (by simp)).trans fun b hb => by
        cases b
        case stc => simp at hb
        all_goals rfl) (by simp)
      have hstc : (refresh z).stc = { s.stc with active := some { a with repeated := true } } := by
        rw [(refresh_frame z).2.2.2.2.2.2.2.1]
        rfl
      obtain ⟨hsame, hback⟩ := hread (t := refresh z) (by simp [hz])
      refine ⟨refresh z, hexec, hst.mono (by simp), hsame, hback, fun _ _ =>
        ⟨hstc, hst .odo (by simp), hst .sru (by simp), hst .rqs (by simp), hst .power (by simp), hst .gdu (by simp)⟩,
        fun h => absurd h hrb, fun h => absurd h hnot, fun h => absurd h hnotfailed,
        fun h => absurd h (not_or.mpr ⟨hnot, hnotfailed⟩), fun _ h => absurd (by rw [hstc]) h,
        fun _ n => (Elsewhere.of_wnu (hst .wnu (by simp)) n).unmoved⟩

end Sys2Proof.Machine
end

section
/-! SUPPORT. What the trips and the service items take from the total (R103, R104, R147, R150), and the service evaluation
(R130). -/

namespace Sys2Proof.Machine

open Sys2Proof

variable {s t u v x : State}

/-! ## The trips that are reset (R86, R103, R104) -/

theorem TripComputer.trip_setTrip (c : TripComputer) (k x : Trip) (r : TripRecord) :
    (c.setTrip k r).trip x = if x = k then r else c.trip x := by
  cases k <;> cases x <;> rfl

/-- Trips that are reset where a test picks them, one after another. -/
theorem foldl_resetTrip (p : TripRecord → Bool) {l : List Trip} (hl : l.Nodup) (s : State) :
    let u := l.foldl (fun u k => if p (u.trc.trip k) then resetTrip k u else u) s
    Touches [.trc, .sru] s u ∧
      (∀ x, u.trc.trip x =
        if x ∈ l ∧ p (s.trc.trip x) = true then TripRecord.fresh (fit32 s.odo.total) s.clock.stamp else s.trc.trip x) ∧
      u.sru = { s.sru with drive := u.sru.drive } ∧ u.sru.drive.isSome = s.sru.drive.isSome := by
  induction l generalizing s with
  | nil => exact ⟨Touches.refl _ s, fun x => by simp, rfl, rfl⟩
  | cons k l ih =>
    intro u
    obtain ⟨hk, hl⟩ := List.nodup_cons.mp hl
    set y := if p (s.trc.trip k) then resetTrip k s else s with hy
    have hfirst : Touches [.trc, .sru] s y ∧
        (∀ x, y.trc.trip x =
          if x = k ∧ p (s.trc.trip k) = true then TripRecord.fresh (fit32 s.odo.total) s.clock.stamp else s.trc.trip x) ∧
        y.sru = { s.sru with drive := y.sru.drive } ∧ y.sru.drive.isSome = s.sru.drive.isSome := by
      rw [hy]
      by_cases hp : p (s.trc.trip k) = true
      · rw [if_pos hp, resetTrip_eq]
        refine ⟨fun b hb => ?_, fun x => ?_, ?_, ?_⟩
        · cases b
          case trc | sru => simp at hb
          all_goals rfl
        · simp [TripComputer.trip_setTrip, hp]
        · simp only [State.setSru_sru]
          split_ifs <;> rfl
        · simp only [State.setSru_sru]
          split_ifs <;> simp
      · rw [if_neg hp]
        exact ⟨Touches.refl _ s, fun x => by simp [hp], rfl, rfl⟩
    obtain ⟨htouch, htrip, hsru, hdrive⟩ := hfirst
    obtain ⟨htouch', htrip', hsru', hdrive'⟩ := ih hl y
    have hodo : y.odo = s.odo := htouch .odo (by simp)
    have hclock : y.clock = s.clock := htouch .clock (by simp)
    refine ⟨htouch.trans htouch', fun x => ?_, ?_, hdrive'.trans hdrive⟩
    · refine (htrip' x).trans ?_
      rw [hodo, hclock, htrip]
      by_cases hx : x = k
      · subst hx
        simp [hk]
      · simp [hx]
    · refine hsru'.trans ?_
      rw [hsru]
      rfl

theorem resetTrips_spec (p : TripRecord → Bool) (s : State) :
    Touches [.trc, .sru] s (resetTrips p s) ∧
      (∀ x, (resetTrips p s).trc.trip x =
        if p (s.trc.trip x) then TripRecord.fresh (fit32 s.odo.total) s.clock.stamp else s.trc.trip x) ∧
      (resetTrips p s).sru = { s.sru with drive := (resetTrips p s).sru.drive } ∧
      (resetTrips p s).sru.drive.isSome = s.sru.drive.isSome := by
  obtain ⟨htouch, htrip, hsru, hdrive⟩ := foldl_resetTrip p (l := [Trip.a, .b, .journey]) (by decide) s
  refine ⟨htouch, fun x => (htrip x).trans ?_, hsru, hdrive⟩
  have hx : x ∈ [Trip.a, .b, .journey] := by cases x <;> decide
  simp [hx]

/-! ## The items, one after another (R147) -/

/-- Items that each take contents of their own, which read no other item. -/
theorem foldl_item {f : State → ServiceItem → State} {F : State → ServiceItem → ServiceState}
    (hsame : ∀ s i, (f s i).item i = F s i) (hother : ∀ s i j, j ≠ i → (f s i).item j = s.item j)
    (hF : ∀ s i j, j ≠ i → F (f s i) j = F s j) {l : List ServiceItem} (hl : l.Nodup) (s : State) (j : ServiceItem) :
    (l.foldl f s).item j = if j ∈ l then F s j else s.item j := by
  induction l generalizing s with
  | nil => simp
  | cons i l ih =>
    obtain ⟨hi, hl⟩ := List.nodup_cons.mp hl
    rw [List.foldl_cons, ih hl]
    by_cases hj : j = i
    · subst hj
      simp [hi, hsame]
    · simp [hj, hother _ _ _ hj, hF _ _ _ hj]

theorem mem_serviceItems (i : ServiceItem) : i ∈ ServiceItem.all := by cases i <;> decide

/-- An item as R147 repairs it at a displayed km. -/
def repaired (km : Nat) (s : State) (i : ServiceItem) : ServiceState :=
  if (s.item i).awaiting then { record := resetRecord s i km, awaiting := false, dirty := true }
  else
    { s.item i with
      record := repairedRecord s.settings i km (s.item i).record
      dirty := (s.item i).dirty || repairedRecord s.settings i km (s.item i).record != (s.item i).record }

theorem repairItem_eq (km : Nat) (s : State) (i : ServiceItem) : repairItem km s i = s.setItem i (repaired km s i) := by
  by_cases h : (s.item i).awaiting = true
  · have hitem : repairItem km s i = resetItem i km s := if_pos h
    rw [hitem, repaired, if_pos h]
    rfl
  · rw [repaired, if_neg h]
    exact if_neg h

/-- The items as the hand-over repairs them. -/
theorem foldl_repairItem (km : Nat) (s : State) :
    let u := ServiceItem.all.foldl (repairItem km) s
    Touches [.sru] s u ∧ u.sru = { s.sru with items := u.sru.items } ∧ ∀ i, u.item i = repaired km s i := by
  have hframe (l : List ServiceItem) (s : State) : Touches [.sru] s (l.foldl (repairItem km) s) ∧
      (l.foldl (repairItem km) s).sru = { s.sru with items := (l.foldl (repairItem km) s).sru.items } := by
    induction l generalizing s with
    | nil => exact ⟨Touches.refl _ s, rfl⟩
    | cons i l ih =>
      obtain ⟨htouch, hsru⟩ := ih (repairItem km s i)
      rw [repairItem_eq] at htouch hsru
      refine ⟨Touches.trans (fun b hb => ?_) (by rw [List.foldl_cons, repairItem_eq]; exact htouch), ?_⟩
      · cases b
        case sru => simp at hb
        all_goals rfl
      · rw [List.foldl_cons, repairItem_eq, hsru]
        rfl
  obtain ⟨htouch, hsru⟩ := hframe ServiceItem.all s
  refine ⟨htouch, hsru, fun i => ?_⟩
  have hitem := foldl_item (f := repairItem km) (F := repaired km) (fun s i => by rw [repairItem_eq, State.item_setItem_same])
    (fun s i j hj => by rw [repairItem_eq, State.item_setItem_other _ _ hj])
    (fun s i j hj => by
      rw [repairItem_eq]
      unfold repaired
      rw [State.item_setItem_other _ _ hj]
      rfl) (l := ServiceItem.all) (by decide) s i
  rw [hitem, if_pos (mem_serviceItems i)]

/-! ## The hand-over of the displayed km (R147, R150) -/

/-- While no odometer job waits, a service job that is handed over leaves the odometer alone. -/
theorem stcBegin_odo_of_none (h : s.stc.waitOdometer = none) :
    (stcBegin s).odo = s.odo ∧ (stcBegin s).stc.waitOdometer = none := by
  cases hport : s.stc.portOpen && s.stc.active.isNone with
  | false => rw [stcBegin_of_busy hport]; exact ⟨rfl, h⟩
  | true =>
    rw [Bool.and_eq_true, Option.isNone_iff_eq_none] at hport
    refine ⟨(stcBegin_odo_free hport.1 hport.2).trans (if_neg (by simp [h])), ?_⟩
    obtain ⟨-, hservice, hconfiguration, hnone⟩ := storeBegins_stcBegin hport.1 hport.2
    by_cases hs : s.stc.waitService = []
    · cases hc : s.stc.waitConfiguration with
      | true => rw [hconfiguration h hs hc]; exact h
      | false => rw [hnone h hs hc]; exact h
    · rw [hservice h hs]
      exact h

theorem handService_odo_of_none (reset : Option ServiceItem) (h : s.stc.waitOdometer = none) :
    (handService reset s).odo = s.odo ∧ (handService reset s).stc.waitOdometer = none :=
  stcBegin_odo_of_none (s := s.setStc { s.stc with waitService := serviceJob reset s }) h

/-- The displayed km has been handed over to the items of a state. -/
structure KmHandedOver (km : Nat) (s t : State) : Prop where
  touches : Touches [.odo, .stc, .sru] s t
  heldReset : t.sru.heldReset = none
  drive : t.sru.drive = s.sru.drive
  oilReset : t.sru.oilReset = true ↔
    s.sru.oilReset = true ∨ (s.sru.heldReset = some .engineOil ∧ s.sru.drive.isSome = true)
  held : ∀ i, s.sru.heldReset = some i → t.item i = { record := ResetRecord s i km, awaiting := false, dirty := true }
  others : ∀ i, s.sru.heldReset ≠ some i → t.item i = repaired km s i
  fault : t.stc.fault = s.stc.fault
  odo : s.stc.waitOdometer = none → t.odo = s.odo ∧ t.stc.waitOdometer = none

theorem handService_fault (reset : Option ServiceItem) (s : State) : (handService reset s).stc.fault = s.stc.fault :=
  stcBegin_fault (s.setStc { s.stc with waitService := serviceJob reset s })

theorem serviceHandOver_spec (km : Nat) (s : State) : KmHandedOver km s (serviceHandOver km s) := by
  obtain ⟨htouch, hsru, hitems⟩ := foldl_repairItem km s
  set y := ServiceItem.all.foldl (repairItem km) s
  obtain ⟨z, hz, hdone⟩ : ∃ z, (z = y ∨ z = handService none y) ∧
      serviceHandOver km s = (match z.sru.heldReset with
        | none => z
        | some i => serviceReset i km (z.setSru { z.sru with heldReset := none })) := by
    refine ⟨_, ?_, rfl⟩
    split_ifs
    · exact .inl rfl
    · exact .inr rfl
  have hzy : Touches [.odo, .stc] y z := by
    rcases hz with rfl | rfl
    · exact Touches.refl _ _
    · exact touches_handService none y
  have hsz : Touches [.odo, .stc, .sru] s z := (htouch.mono (by simp)).trans (hzy.mono (by simp))
  have hzsru : z.sru = { s.sru with items := y.sru.items } := (hzy .sru (by simp)).trans hsru
  have hzitem (i : ServiceItem) : z.item i = repaired km s i := by
    rw [← hitems i, State.item, State.item, (hzy .sru (by simp) : z.sru = y.sru)]
  have hzfault : z.stc.fault = s.stc.fault := by
    have hy : y.stc = s.stc := htouch .stc (by simp)
    rcases hz with rfl | rfl
    · rw [hy]
    · rw [handService_fault, hy]
  have hzodo (h : s.stc.waitOdometer = none) : z.odo = s.odo ∧ z.stc.waitOdometer = none := by
    have hy : y.stc = s.stc := htouch .stc (by simp)
    have hyodo : y.odo = s.odo := htouch .odo (by simp)
    rcases hz with rfl | rfl
    · rw [hy, hyodo]
      exact ⟨rfl, h⟩
    · rw [← hyodo]
      exact handService_odo_of_none none (by rw [hy]; exact h)
  have hheld : z.sru.heldReset = s.sru.heldReset := by rw [hzsru]
  rw [hdone, hheld]
  cases hr : s.sru.heldReset with
  | none =>
    refine ⟨hsz, by rw [hheld, hr], by rw [hzsru], by rw [hzsru]; simp [hr], fun i hi => absurd (hr.symm.trans hi) (by simp),
      fun i _ => hzitem i, hzfault, hzodo⟩
  | some i =>
    set w := z.setSru { z.sru with heldReset := none } with hw
    have hzw : Touches [.sru] z w := fun b hb => by
      cases b
      case sru => simp at hb
      all_goals rfl
    obtain ⟨hitem, -, hothers, hoil⟩ := serviceReset_spec i km w
    have hwt := touches_serviceReset i km w
    have hwsru : w.sru = { s.sru with items := y.sru.items, heldReset := none } := by
      rw [hw, State.setSru_sru, hzsru]
    have hkept : (serviceReset i km w).sru.heldReset = none ∧ (serviceReset i km w).sru.drive = s.sru.drive := by
      have hmarked : (serviceReset i km w).sru = (markOilReset i (resetItem i km w)).sru := by simp [serviceReset]
      rw [hmarked, markOilReset]
      split_ifs <;> simp [resetItem, State.setItem, hwsru]
    have hstw : Touches [.odo, .stc, .sru] s w := hsz.trans (hzw.mono (by simp))
    refine ⟨hstw.trans hwt, hkept.1, hkept.2, ?_, fun j hj => ?_, fun j hj => ?_, ?_, fun h => ?_⟩
    · rw [hoil, hwsru, hr]
      simp
    · cases Option.some.inj (hr.symm.trans hj)
      rw [hitem]
      have hsettings : w.settings = s.settings := hstw .settings (by simp)
      have hclock : w.clock = s.clock := hstw .clock (by simp)
      rw [ResetRecord, ResetRecord, hsettings, hclock]
    · have hne : j ≠ i := fun he => hj (by rw [he, hr])
      rw [hothers j hne, ← hzitem j]
      rfl
    · exact (handService_fault _ _).trans ((show (markOilReset i (resetItem i km w)).stc.fault = z.stc.fault by simp [hw]).trans hzfault)
    · obtain ⟨hodo, hwait⟩ := hzodo h
      have hm : (markOilReset i (resetItem i km w)).odo = z.odo ∧ (markOilReset i (resetItem i km w)).stc = z.stc := by
        simp [hw]
      have hmade := handService_odo_of_none (s := markOilReset i (resetItem i km w)) (some i) (by rw [hm.2]; exact hwait)
      rw [hm.1, hodo] at hmade
      exact hmade

/-! ## The service evaluation (R130) -/

/-- Two states agree on what the statuses of the items and the conditions of the service warnings go by. -/
structure SameService (s t : State) : Prop where
  items : t.sru.items = s.sru.items
  clock : t.clock = s.clock
  settings : t.settings = s.settings
  resolved : t.odo.resolved = s.odo.resolved
  total : t.odo.total = s.odo.total
  signals : t.signals = s.signals
  spoiled : t.power.patternSpoiled = s.power.patternSpoiled
  memory : t.power.patternMemory = s.power.patternMemory

theorem SameService.trans (h : SameService s t) (h' : SameService t u) : SameService s u :=
  ⟨h'.items.trans h.items, h'.clock.trans h.clock, h'.settings.trans h.settings, h'.resolved.trans h.resolved,
    h'.total.trans h.total, h'.signals.trans h.signals, h'.spoiled.trans h.spoiled, h'.memory.trans h.memory⟩

theorem SameService.statusCode (h : SameService s t) (i : ServiceItem) : StatusCode t i = StatusCode s i := by
  have hitem : t.item i = s.item i := by rw [State.item, State.item, h.items]
  rw [StatusCode, StatusCode, KmLeft, KmLeft, DaysLeft, DaysLeft, hitem, h.clock, h.settings, h.resolved, h.total]

theorem SameService.calls (h : SameService s t) {n : Warning} {p : Prop} : Calls n p t ↔ Calls n p s := by
  have hheld (l : List Nat) : t.heldCondition n .inactive l = s.heldCondition n .inactive l :=
    heldCondition_congr h.memory (by rw [h.settings]) (fun g => by simp [State.signal, h.signals]) _ l
  simp only [Calls, AsMade, h.statusCode, h.spoiled, hheld]

theorem anyDue_iff : anyDue s = true ↔ ∃ i, 2 ≤ StatusCode s i := by
  simp only [anyDue, List.any_eq_true, itemStatus_code, decide_eq_true_eq, mem_serviceItems, true_and]

theorem anySoon_iff : anySoon s = true ↔ ∃ i, StatusCode s i = 1 := by
  have hsoon (x : ServiceStatus) : (x == .dueSoon) = true ↔ x.code = 1 := by cases x <;> decide
  simp only [anySoon, List.any_eq_true, hsoon, itemStatus_code, mem_serviceItems, true_and]

theorem serviceCondition_iff {n : Warning} {table : Bool} {p : Prop} (h : table = true ↔ p) :
    serviceCondition n table s = true ↔ Calls n p s := by
  have hcodes : ServiceItem.all.map (fun i => (itemStatus s i).code) =
      [StatusCode s .engineOil, StatusCode s .inspection, StatusCode s .transmissionFluid,
        StatusCode s .sparkAndFilters] := by
    simp only [itemStatus_code]
    rfl
  rw [serviceCondition, hcodes, Calls, ← h, AsMade]
  cases s.power.patternSpoiled <;> simp

theorem serviceDue_raised : Warning.serviceDue ∈ raisedService s ↔
    Calls .serviceDue (∃ i, 2 ≤ StatusCode s i) s ∧ (s.wnu.record .serviceDue).state = .inactive := by
  rw [← serviceCondition_iff anyDue_iff]
  simp [raisedService]

theorem serviceSoon_raised : Warning.serviceSoon ∈ raisedService s ↔
    Calls .serviceSoon (∃ i, StatusCode s i = 1) s ∧ (s.wnu.record .serviceSoon).state = .inactive := by
  rw [← serviceCondition_iff anySoon_iff]
  simp [raisedService]

/-- The service evaluation of the items as they stand, seen from before and after. -/
theorem MovesShown.serviceEvaluated {ks : List Warning} (h : MovesShown ks (raisedService v) s t) (hv : SameService v t)
    (hdue : .serviceDue ∉ ks) (hsoon : .serviceSoon ∉ ks)
    (hstate : ∀ n ∈ [Warning.serviceDue, .serviceSoon], (v.wnu.record n).state = (s.wnu.record n).state) :
    ServiceEvaluated s t := by
  obtain ⟨hmoved, hraised⟩ := h.warningsMoved
  have hshown {n : Warning} (hn : n ∈ raisedService v) (hservice : n = .serviceDue ∨ n = .serviceSoon) :
      Announced n s t ∧ (t.wnu.record n).display = some 8000 := by
    obtain ⟨hannounced, moment, hrec⟩ := hraised n hn
    refine ⟨hannounced, ?_⟩
    rw [RecordIs] at hrec
    rw [hrec]
    exact if_pos hservice
  have hquiet {n : Warning} (hks : n ∉ ks) (hn : n ∉ raisedService v) : Unmoved n s t := (hmoved n).2 hks hn
  have hduecall : Calls .serviceDue (∃ i, 2 ≤ StatusCode t i) t ↔ Calls .serviceDue (∃ i, 2 ≤ StatusCode v i) v := by
    simp only [hv.calls, hv.statusCode]
  have hsooncall : Calls .serviceSoon (∃ i, StatusCode t i = 1) t ↔ Calls .serviceSoon (∃ i, StatusCode v i = 1) v := by
    simp only [hv.calls, hv.statusCode]
  refine ⟨fun hst => ⟨fun hc => ?_, fun hc => ?_⟩, fun hst => ⟨fun hc => ?_, fun hc => ?_⟩, fun n hn hst => ?_⟩
  · exact hshown (serviceDue_raised.mpr ⟨hduecall.mp hc, (hstate _ (by simp)).trans hst⟩) (.inl rfl)
  · exact hquiet hdue fun hin => hc (hduecall.mpr (serviceDue_raised.mp hin).1)
  · exact hshown (serviceSoon_raised.mpr ⟨hsooncall.mp hc, (hstate _ (by simp)).trans hst⟩) (.inr rfl)
  · exact hquiet hsoon fun hin => hc (hsooncall.mpr (serviceSoon_raised.mp hin).1)
  · simp only [List.mem_cons, List.not_mem_nil, or_false] at hn
    rcases hn with rfl | rfl
    · exact hquiet hdue fun hin => hst ((hstate _ (by simp)).symm.trans (serviceDue_raised.mp hin).2)
    · exact hquiet hsoon fun hin => hst ((hstate _ (by simp)).symm.trans (serviceSoon_raised.mp hin).2)

end Sys2Proof.Machine
end

section
/-! SUPPORT. The hand-over of the displayed km with the raise of ODO_RESTORED on either side of it (R116, R130, R133, R147). -/

namespace Sys2Proof.Machine

open Sys2Proof

variable {s s0 t u v : State} {ks raised : List Warning}

/-! ## The figures (R106, R147, R150) -/

/-- The displayed km stands, and the items have taken it. -/
structure KmTaken (s t : State) : Prop where
  odo : t.odo = { s.odo with resolved := true }
  heldReset : t.sru.heldReset = none
  oilReset : t.sru.oilReset = true ↔
    s.sru.oilReset = true ∨ (s.sru.heldReset = some .engineOil ∧ s.sru.drive.isSome = true)
  held : ∀ i, s.sru.heldReset = some i →
    t.item i = { record := ResetRecord s i (KmOf s.odo.total), awaiting := false, dirty := true }
  others : ∀ i, s.sru.heldReset ≠ some i → t.item i = repaired (KmOf s.odo.total) s i

/-- It does not go by what else happens before and after it. -/
theorem KmTaken.between (h : KmTaken u v) (hodo : u.odo = s.odo) (hsru : u.sru = s.sru) (hclock : u.clock = s.clock)
    (hsettings : u.settings = s.settings) (hodo' : t.odo = v.odo) (hsru' : t.sru = v.sru) : KmTaken s t := by
  have hitem (i : ServiceItem) : u.item i = s.item i := by rw [State.item, State.item, hsru]
  have hitem' (i : ServiceItem) : t.item i = v.item i := by rw [State.item, State.item, hsru']
  obtain ⟨odo, heldReset, oilReset, held, others⟩ := h
  refine ⟨by rw [hodo', odo, hodo], by rw [hsru', heldReset], by rw [hsru', oilReset, hsru], fun i hi => ?_, fun i hi => ?_⟩
  · rw [hitem', held i (by rwa [hsru]), hodo, ResetRecord, ResetRecord, hclock, hsettings]
  · rw [hitem', others i (by rwa [hsru]), hodo]
    rw [repaired, repaired, hitem, resetRecord, resetRecord, hclock, hsettings]

/-- The displayed km handed over to the items. -/
def kmHanded (s : State) : State := serviceHandOver (KmOf s.odo.total) (s.setOdo { s.odo with resolved := true })

theorem touches_kmHanded (s : State) : Touches [.odo, .stc, .sru] s (kmHanded s) := by
  refine Touches.trans (fun b hb => ?_) (serviceHandOver_spec _ _).touches
  cases b
  case odo => simp at hb
  all_goals rfl

theorem kmTaken_kmHanded (h : s.stc.waitOdometer = none) : KmTaken s (kmHanded s) := by
  obtain ⟨-, hheld, -, hoil, hitem, hothers, -, hodo⟩ := serviceHandOver_spec (KmOf s.odo.total)
    (s.setOdo { s.odo with resolved := true })
  exact ⟨(hodo h).1, hheld, hoil, hitem, hothers⟩

/-- The service warnings that the hand-over raises in a state. -/
def kmRaised (s : State) : List Warning := if s.power.state = .run then raisedService s else []

theorem raisedOk_kmRaised (s : State) : RaisedOk (kmRaised s) s := by
  unfold kmRaised
  split_ifs
  · exact raisedOk_raisedService s
  · exact raisedOk_nil s

/-- With nothing to raise and nothing to work out nothing happens. -/
theorem evalTogether_nil (s : State) : evalTogether [] [] s = s := by
  unfold evalTogether
  split_ifs <;> rfl

theorem handOverKm_eq (s : State) : handOverKm s = evalTogether (kmRaised (kmHanded s)) [] (kmHanded s) := by
  have hmade : handOverKm s =
      if (kmHanded s).power.state = .run then evalTogether (raisedService (kmHanded s)) [] (kmHanded s) else kmHanded s := rfl
  rw [hmade, kmRaised]
  split_ifs
  · rfl
  · exact (evalTogether_nil _).symm

theorem touches_evalTogether (raised ws : List Warning) (s : State) :
    Touches [.link, .wnu, .seq, .draw] s (evalTogether raised ws s) := by
  intro b hb
  cases b
  case link | wnu | seq | draw => simp at hb
  all_goals simp [Agree]

/-! ## The warnings -/

theorem Settled.beside (h : Settled ks raised s0 t) (hks : ∀ n ∈ ks, n = .odoRestored) (htouch : Touches [.odo, .stc, .sru, .draw] t u)
    (hfault : u.stc.fault = t.stc.fault) : Settled ks raised s0 u := by
  have hpower : u.power = t.power := htouch .power (by simp)
  have hwnu : u.wnu = t.wnu := htouch .wnu (by simp)
  have hlink : u.link = t.link := htouch .link (by simp)
  have hsettings : u.settings = t.settings := htouch .settings (by simp)
  have hinput : u.input = t.input := htouch .input (by simp)
  have hdef : u.definition = t.definition := by
    funext n
    simp only [State.definition, hpower]
  refine h.after (fun n => Elsewhere.of_wnu hwnu n) (fun n hn was => ?_) hdef
    (OfferKept.of_same (by rw [hlink]) (by rw [hwnu]) ?_ hsettings) (fun hinv => ?_)
  · rw [hks n hn]
    exact holds_of_marks (by simp) (by rw [hpower]) (by rw [hpower]) (htouch .signals (by simp)) (by rw [hinput]) hfault
      (by rw [hwnu]) (by rw [hwnu]) hsettings
  · funext n
    rw [State.classOf, State.classOf, hdef]
  · exact hinv.congr (by rw [hwnu]) (by rw [hwnu]) (by rw [AsMade, AsMade, hpower]; exact id)

/-- The hand-over raises its service warnings behind what has been worked out before it. -/
theorem Settled.handOverKm (h : Settled ks [] s0 s) (hks : ∀ n ∈ ks, n = .odoRestored) (hpowered : s.powered = true) :
    Settled ks (kmRaised (kmHanded s)) s0 (handOverKm s) := by
  have htouch := touches_kmHanded s
  have hw : Settled ks [] s0 (kmHanded s) := h.beside hks (htouch.mono (by simp))
    (serviceHandOver_spec (KmOf s.odo.total) (s.setOdo { s.odo with resolved := true })).fault
  have hpower : (kmHanded s).power = s.power := htouch .power (by simp)
  have hraised := raisedOk_kmRaised (kmHanded s)
  rw [handOverKm_eq]
  have hdone := hw.evalTogether (ws := []) (by rwa [State.powered, State.awake, hpower]) hraised List.nodup_nil (by simp)
    (fun n hn hr => ?_) (by simp) (by simp)
  · simpa using hdone
  · rw [hks n hn] at hr
    rcases (hraised.2 _ hr).1 with h' | h' <;> exact Warning.noConfusion h'

/-- The raise of ODO_RESTORED works its condition out, behind the hand-over or before it. -/
theorem Settled.raiseRestored (h : Settled [] raised s0 s) (hraised : .odoRestored ∉ raised) (hpowered : s.powered = true) :
    Settled [.odoRestored] raised s0 (raiseRestored s) := by
  have helse (n : Warning) : Elsewhere n s (s.setWnu { s.wnu with odoRestored := true }) :=
    Elsewhere.of_eq (s := s) (t := s.setWnu { s.wnu with odoRestored := true }) rfl rfl rfl n
  have hmarked : Settled [] raised s0 (s.setWnu { s.wnu with odoRestored := true }) :=
    h.after helse (by simp) rfl (OfferKept.of_same rfl rfl rfl rfl) id
  have hdone := hmarked.evalTogether (ws := [.odoRestored]) (raised := []) hpowered (raisedOk_nil _) (by simp) (by simp)
    (by simp) (fun n hn => ⟨List.not_mem_nil, fun hmem => hraised (List.mem_singleton.mp hmem ▸ hn)⟩) (by simp)
  rwa [List.nil_append, List.append_nil] at hdone

/-! ## Both, in either order (R133) -/

/-- A raise and a hand-over, from a state whose part is powered; `w` is the state in which the service warnings that it
raises are determined. -/
structure HandedAndRaised (restored : Bool) (s0 s w t : State) : Prop where
  km : KmTaken s t
  touches : Touches [.link, .odo, .stc, .wnu, .sru, .seq, .draw] s t
  settled : Settled (if restored then [.odoRestored] else []) (kmRaised w) s0 t
  before : SameService w t
  states : ∀ n, n ≠ .odoRestored → (w.wnu.record n).state = (s0.wnu.record n).state
  power : w.power = s.power
  queue : OffersKey warningsKey s t
  mark : t.wnu.odoRestored = (s.wnu.odoRestored || restored)

theorem SameService.of_touches (h : Touches [.link, .stc, .wnu, .msc, .seq, .draw] s t) : SameService s t := by
  have hpower : t.power = s.power := h .power (by simp)
  have hsru : t.sru = s.sru := h .sru (by simp)
  have hodo : t.odo = s.odo := h .odo (by simp)
  exact ⟨by rw [hsru], h .clock (by simp), h .settings (by simp), by rw [hodo], by rw [hodo], h .signals (by simp),
    by rw [hpower], by rw [hpower]⟩

theorem touches_handOverKm (s : State) : Touches [.link, .odo, .stc, .wnu, .sru, .seq, .draw] s (handOverKm s) := by
  rw [handOverKm_eq]
  exact ((touches_kmHanded s).mono (by simp)).trans ((touches_evalTogether _ _ _).mono (by simp))

theorem kmTaken_handOverKm (h : s.stc.waitOdometer = none) : KmTaken s (handOverKm s) := by
  have htouch := touches_evalTogether (kmRaised (kmHanded s)) [] (kmHanded s)
  rw [handOverKm_eq]
  exact (kmTaken_kmHanded h).between rfl rfl rfl rfl (htouch .odo (by simp)) (htouch .sru (by simp))

theorem offersKey_handOverKm (s : State) : OffersKey warningsKey s (handOverKm s) := by
  have hlink : (kmHanded s).link = s.link := touches_kmHanded s .link (by simp)
  rw [handOverKm_eq]
  exact OffersKey.trans (OffersKey.of_txQueue (by rw [hlink])) (warnSteps_offersKey.evalTogether _ _ _)

theorem touches_raiseRestored (s : State) : Touches [.link, .wnu, .seq, .draw] s (raiseRestored s) := by
  refine Touches.trans (fun b hb => ?_) (touches_evalWarnings [.odoRestored] _)
  cases b
  case wnu => simp at hb
  all_goals rfl

theorem offersKey_raiseRestored (s : State) : OffersKey warningsKey s (raiseRestored s) :=
  OffersKey.trans (t := s.setWnu { s.wnu with odoRestored := true }) (OffersKey.of_txQueue rfl)
    (warnSteps_offersKey.evalWarnings [.odoRestored] _)

theorem raiseRestored_mark (s : State) : (raiseRestored s).wnu.odoRestored = true := by
  have h := onlyMoves_evalTogether [] [.odoRestored] (s.setWnu { s.wnu with odoRestored := true })
  rw [raiseRestored, evalWarnings, h]
  rfl

theorem handOverKm_mark (s : State) : (handOverKm s).wnu.odoRestored = s.wnu.odoRestored := by
  have h := onlyMoves_evalTogether (kmRaised (kmHanded s)) [] (kmHanded s)
  have hwnu : (kmHanded s).wnu = s.wnu := touches_kmHanded s .wnu (by simp)
  rw [handOverKm_eq, h, ← hwnu]

theorem touches_nextDraw (s : State) : Touches [.draw] s s.nextDraw := by
  intro b hb
  cases b
  case draw => simp at hb
  all_goals simp [Agree]

theorem handedAndRaised (restored : Bool) (hbefore : WarnBefore s0 s) (hpowered : s.powered = true)
    (hwait : s.stc.waitOdometer = none) : ∃ w, HandedAndRaised restored s0 s w (handOverAndRaise restored s) := by
  have hdraw := touches_nextDraw s
  have hsettled : Settled [] [] s0 s := Settled.of_before hbefore
  have hfresh : Settled [] [] s0 s.nextDraw := hsettled.beside (by simp) (hdraw.mono (by simp)) rfl
  have hlast (x : State) : SameService (kmHanded x) (handOverKm x) := by
    rw [handOverKm_eq]
    exact SameService.of_touches ((touches_evalTogether _ _ _).mono (by simp))
  have hwnu (x : State) : (kmHanded x).wnu = x.wnu := touches_kmHanded x .wnu (by simp)
  have hpower (x : State) : (kmHanded x).power = x.power := touches_kmHanded x .power (by simp)
  have hstates : ∀ n, ((kmHanded s).wnu.record n).state = (s0.wnu.record n).state := fun n => by
    rw [hwnu, hbefore.record]
  unfold handOverAndRaise
  cases restored with
  | false =>
    exact ⟨kmHanded s, kmTaken_handOverKm hwait, touches_handOverKm s, hsettled.handOverKm (by simp) hpowered, hlast s,
      fun n _ => hstates n, hpower s, offersKey_handOverKm s, by simp [handOverKm_mark]⟩
  | true =>
    rw [if_pos rfl]
    have hkey : OffersKey warningsKey s s.nextDraw := OffersKey.of_txQueue rfl
    by_cases hfirst : Config.raiseBeforeHandOver s.draw = true
    · rw [if_pos hfirst]
      have hraise := touches_raiseRestored s.nextDraw
      have hto : Touches [.link, .wnu, .seq, .draw] s (Machine.raiseRestored s.nextDraw) := (hdraw.mono (by simp)).trans hraise
      have hr := hfresh.raiseRestored List.not_mem_nil (by exact hpowered)
      have hpow : (Machine.raiseRestored s.nextDraw).power = s.power := hto .power (by simp)
      have hstc : (Machine.raiseRestored s.nextDraw).stc = s.stc := hto .stc (by simp)
      refine ⟨kmHanded (Machine.raiseRestored s.nextDraw), ?_, (hto.mono (by simp)).trans (touches_handOverKm _),
        hr.handOverKm (by simp) (by rwa [State.powered, State.awake, hpow]), hlast _, fun n hn => ?_, (hpower _).trans hpow,
        (hkey.trans (offersKey_raiseRestored _)).trans (offersKey_handOverKm _), ?_⟩
      · exact (kmTaken_handOverKm (by rw [hstc, hwait])).between (hto .odo (by simp)) (hto .sru (by simp))
          (hto .clock (by simp)) (hto .settings (by simp)) rfl rfl
      · rw [hwnu]
        exact (hr.others n (by simpa using hn) List.not_mem_nil).state
      · rw [handOverKm_mark, raiseRestored_mark, Bool.or_true]
    · rw [if_neg hfirst]
      have hto : Touches [.link, .odo, .stc, .wnu, .sru, .seq, .draw] s (handOverKm s.nextDraw) :=
        (hdraw.mono (by simp)).trans (touches_handOverKm _)
      have hraise := touches_raiseRestored (handOverKm s.nextDraw)
      have hk := hfresh.handOverKm (by simp) (by exact hpowered)
      have hpow : (handOverKm s.nextDraw).power = s.power := hto .power (by simp)
      have hservice : Warning.odoRestored ∉ kmRaised (kmHanded s.nextDraw) := fun hr => by
        rcases ((raisedOk_kmRaised _).2 _ hr).1 with h' | h' <;> exact Warning.noConfusion h'
      refine ⟨kmHanded s.nextDraw, ?_, hto.trans (hraise.mono (by simp)),
        hk.raiseRestored hservice (by rwa [State.powered, State.awake, hpow]), ?_, fun n hn => ?_, hpower _,
        (hkey.trans (offersKey_handOverKm _)).trans (offersKey_raiseRestored _), ?_⟩
      · exact (kmTaken_handOverKm (s := s.nextDraw) hwait).between rfl rfl rfl rfl (hraise .odo (by simp)) (hraise .sru (by simp))
      · rw [handOverKm_eq] at hraise ⊢
        exact SameService.of_touches (((touches_evalTogether _ _ _).mono (by simp)).trans (hraise.mono (by simp)))
      · rw [hwnu]
        exact congrArg WarningRecord.state (hbefore.record n)
      · rw [raiseRestored_mark, Bool.or_true]

end Sys2Proof.Machine
end

section
/-! CLAIM. The odometer's resolution by the echo of the Body station, or without it (R103, R104, R116). -/

namespace Sys2Proof.Machine

open Sys2Proof

variable {s t u v y : State} {f : Frame} {rest : List Frame} {echo : Option Nat}

/-! ## The trips (R103, R104) -/

/-- The test by which a trip is reset as the odometer is resolved. -/
def State.resetsTrip (s : State) (r : TripRecord) : Bool :=
  if s.power.kind = .cold then r.awaiting else TripRecord.spoiled s.odo.total r

theorem tripsResolved_eq (s : State) : tripsResolved s = resetTrips s.resetsTrip s := by
  unfold tripsResolved State.resetsTrip
  cases s.power.kind <;> rfl

/-! ## What ends the resolution (R41, R107) -/

/-- CLUSTER_DISTANCE is offered in a COURTESY that has not had it, and a commit starts if one is called for. -/
structure ResolutionEnds (commits : Prop) (s t : State) : Prop where
  touches : Touches [.link, .odo, .stc, .msc, .seq] s t
  odo : t.odo = { s.odo with commit := t.odo.commit, courtesyOffered := t.odo.courtesyOffered }
  fault : t.stc.fault = s.stc.fault
  roster : t.link.roster = s.link.roster
  queue : OffersIds [0x60] 1 s t
  commit : commits → t.odo.commit = .waiting ∨ t.odo.commit = .writing
  free : ¬commits → t.odo.commit = s.odo.commit
  offered : s.power.state = .courtesy → s.odo.courtesyOffered = false →
    t.odo.courtesyOffered = true ∧
      (s.link.txQueue.length < 8 → (∀ e ∈ s.link.txQueue, e.frame.id ≠ 0x60) → Queued t (distanceFrame t))

theorem distanceFrame_congr (htotal : t.odo.total = s.odo.total) (hsignals : t.signals = s.signals)
    (hsettings : t.settings = s.settings) : distanceFrame t = distanceFrame s := by
  simp only [distanceFrame, State.ownFrame, speedBytes, State.signal, htotal, hsignals, hsettings]

theorem offerCourtesyDistance_ends (s : State) : ResolutionEnds False s (offerCourtesyDistance s) := by
  unfold offerCourtesyDistance
  split_ifs with h
  · set x := s.setOdo { s.odo with courtesyOffered := true } with hx
    have honly : OnlyOffers x (offerDistance x) := onlyOffers_offer _ x
    refine ⟨fun b hb => ?_, by simp [hx], by simp [hx], by rw [honly.1]; rfl, ?_, False.elim, fun _ => by simp [hx],
      fun _ _ => ⟨by simp [hx], fun hlen hnone => ?_⟩⟩
    · cases b
      case link | odo | stc | msc | seq => simp at hb
      all_goals simp [Agree, hx]
    · exact offersIds_offer (distanceFrame x) x
    · have hframe : distanceFrame (offerDistance x) = distanceFrame x := distanceFrame_congr (by simp) (by simp) (by simp)
      rw [hframe]
      exact queued_offer (f := distanceFrame x) (s := x) hlen hnone
  · refine ⟨Touches.refl _ s, rfl, rfl, rfl, (OffersIds.of_txQueue rfl).mono (by simp) (by simp), False.elim, fun _ => rfl,
      fun hstate hnot => absurd ⟨hstate, ?_⟩ h⟩
    simp [hnot]

theorem ResolutionEnds.committed {commits : Prop} (h : ResolutionEnds False s t) (hc : commits) :
    ResolutionEnds commits s (refresh (commitStart t)) := by
  have htouch : Touches [.odo, .stc, .msc] t (refresh (commitStart t)) := by
    intro b hb
    cases b
    case odo | stc | msc => simp at hb
    all_goals simp [Agree]
  have hodo : (refresh (commitStart t)).odo = { t.odo with commit := (commitStart t).odo.commit } := by
    exact (touches_refresh _ .odo (by simp)).trans (odo_commitStart t)
  have hlink : (refresh (commitStart t)).link = t.link := htouch .link (by simp)
  refine ⟨h.touches.trans (htouch.mono (by simp)), ?_, ?_, by rw [hlink, h.roster], ?_, fun _ => ?_, fun hn => absurd hc hn,
    fun hstate hnot => ?_⟩
  · rw [hodo, h.odo]
  · have hfault : (refresh (commitStart t)).stc.fault = t.stc.fault := by
      rw [(refresh_frame _).2.2.2.2.2.2.2.1]
      exact stcBegin_fault _
    rw [hfault, h.fault]
  · exact (h.queue.trans (OffersIds.of_txQueue (by rw [hlink]))).mono (by simp) (by simp)
  · rw [hodo]
    exact commitStart_commit t
  · obtain ⟨hoffered, hq⟩ := h.offered hstate hnot
    refine ⟨by rw [hodo, ← hoffered], fun hlen hnone => ?_⟩
    have hq' := hq hlen hnone
    unfold Queued at hq' ⊢
    rw [hlink, distanceFrame_congr (by rw [hodo]; rfl) (htouch .signals (by simp)) (htouch .settings (by simp))]
    exact hq'

theorem ResolutionEnds.uncommitted {commits : Prop} (h : ResolutionEnds False s t) (hc : ¬commits) :
    ResolutionEnds commits s (refresh t) := by
  have htouch := touches_refresh t
  have hodo : (refresh t).odo = t.odo := htouch .odo (by simp)
  have hlink : (refresh t).link = t.link := htouch .link (by simp)
  have hstc : (refresh t).stc = t.stc := htouch .stc (by simp)
  refine ⟨h.touches.trans (htouch.mono (by simp)), by rw [hodo, ← h.odo], by rw [hstc, h.fault], by rw [hlink, h.roster],
    ?_, fun hy => absurd hy hc, fun _ => ?_, fun hstate hnot => ?_⟩
  · exact (h.queue.trans (OffersIds.of_txQueue (by rw [hlink]))).mono (by simp) (by simp)
  · rw [hodo, h.free id]
  · obtain ⟨hoffered, hq⟩ := h.offered hstate hnot
    refine ⟨by rw [hodo, hoffered], fun hlen hnone => ?_⟩
    have hq' := hq hlen hnone
    unfold Queued at hq' ⊢
    rw [hlink, distanceFrame_congr (by rw [hodo]) (htouch .signals (by simp)) (htouch .settings (by simp))]
    exact hq'

/-! ## The resolution (R116) -/

/-- The odometer takes its resolved value. -/
def based (r : Nat × Bool) (s : State) : State :=
  s.setOdo
    { s.odo with
      committed := r.1, verified := some r.1, echoWait := none
      restored := s.odo.restored || r.2 }

/-- What follows that, up to the offer of CLUSTER_DISTANCE. -/
def resolvedTo (r : Nat × Bool) (s : State) : State := handOverAndRaise r.2 (tripsResolved (based r s))

/-- The resolution calls for a commit. -/
def State.resolutionCommits (s : State) (r : Nat × Bool) : Prop :=
  r.2 = true ∨ s.odo.baseCommit = true ∨ 1000 * s.settings.commitKm ≤ s.odo.pending

/-- The resolution, from a state in which no odometer job waits. -/
structure ResolvedBy (r : Nat × Bool) (s0 s x w v t : State) : Prop where
  trips : Touches [.trc, .sru] (based r s) x
  trip : ∀ k, x.trc.trip k =
    if (based r s).resetsTrip (s.trc.trip k) then TripRecord.fresh (fit32 (r.1 + s.odo.pending)) s.clock.stamp
    else s.trc.trip k
  drive : x.sru = { s.sru with drive := x.sru.drive }
  isSome : x.sru.drive.isSome = s.sru.drive.isSome
  handed : HandedAndRaised r.2 s0 x w v
  ends : ResolutionEnds (s.resolutionCommits r) v t

theorem resolvedBy {s0 : State} (hbefore : WarnBefore s0 s) (hpowered : s.powered = true)
    (hwait : s.stc.waitOdometer = none) :
    ∃ x w v, ResolvedBy (resolved s.settings.commitKm s.odo.base echo) s0 s x w v (refresh (resolveOdometer echo s)) := by
  set r := resolved s.settings.commitKm s.odo.base echo with hr
  obtain ⟨htouch, htrip, hsru, hsome⟩ := resetTrips_spec (based r s).resetsTrip (based r s)
  rw [← tripsResolved_eq] at htouch htrip hsru hsome
  set x := tripsResolved (based r s) with hx
  have hpower : x.power = s.power := htouch .power (by simp)
  have hstc : x.stc = s.stc := htouch .stc (by simp)
  have hlink : x.link = s.link := htouch .link (by simp)
  have hwnu : x.wnu = s.wnu := htouch .wnu (by simp)
  have hbefore' : WarnBefore s0 x :=
    ⟨by rw [hwnu, hbefore.records], by rw [hwnu, hbefore.list], by rw [hwnu, hbefore.counts],
      by rw [hpower, hbefore.spoiled], fun h => (hbefore.room h).after (OffersKey.of_txQueue (by rw [hlink]))⟩
  obtain ⟨w, hhanded⟩ := handedAndRaised r.2 hbefore' (by rwa [State.powered, State.awake, hpower]) (by rw [hstc, hwait])
  refine ⟨x, w, handOverAndRaise r.2 x, htouch, htrip, hsru, hsome, hhanded, ?_⟩
  set v := handOverAndRaise r.2 x with hv
  have hends := offerCourtesyDistance_ends v
  have hmade : resolveOdometer echo s =
      if r.2 ∨ s.odo.baseCommit ∨ (offerCourtesyDistance v).commitMetres ≤ (offerCourtesyDistance v).odo.pending then
        commitStart (offerCourtesyDistance v) else offerCourtesyDistance v := rfl
  have hsettings : (offerCourtesyDistance v).settings = s.settings :=
    (hends.touches .settings (by simp)).trans ((hhanded.touches .settings (by simp)).trans (htouch .settings (by simp)))
  have hpending : (offerCourtesyDistance v).odo.pending = s.odo.pending := by
    rw [hends.odo, hhanded.km.odo, (htouch .odo (by simp) : x.odo = (based r s).odo)]
    rfl
  have hcommits : (r.2 ∨ s.odo.baseCommit ∨
      (offerCourtesyDistance v).commitMetres ≤ (offerCourtesyDistance v).odo.pending) ↔ s.resolutionCommits r := by
    rw [State.commitMetres, hsettings, hpending, Nat.mul_comm]
    rfl
  rw [hmade]
  by_cases hc : s.resolutionCommits r
  · rw [if_pos (hcommits.mpr hc)]
    exact hends.committed hc
  · rw [if_neg (hcommits.not.mpr hc)]
    exact hends.uncommitted hc

section

variable {r : Nat × Bool} {s0 x w : State} (h : ResolvedBy r s0 s x w v t)

include h

theorem ResolvedBy.odo : t.odo =
    { s.odo with
      committed := r.1, verified := some r.1, echoWait := none, restored := s.odo.restored || r.2, resolved := true
      commit := t.odo.commit, courtesyOffered := t.odo.courtesyOffered } := by
  have hx : x.odo = (based r s).odo := h.trips .odo (by simp)
  rw [h.ends.odo, h.handed.km.odo, hx]
  rfl

theorem ResolvedBy.total : t.odo.total = r.1 + s.odo.pending := by
  rw [h.odo]
  rfl

theorem ResolvedBy.touches : Touches [.link, .trc, .odo, .stc, .wnu, .sru, .msc, .seq, .draw] s t := by
  have hbased : Touches [.odo] s (based r s) := by
    intro b hb
    cases b
    case odo => simp at hb
    all_goals rfl
  exact (((hbased.mono (by simp)).trans (h.trips.mono (by simp))).trans (h.handed.touches.mono (by simp))).trans
    (h.ends.touches.mono (by simp))

theorem ResolvedBy.sru : t.sru = v.sru := h.ends.touches .sru (by simp)

/-- The trips, as R103 and R104 resolve them. -/
theorem ResolvedBy.trip_eq (k : Trip) : t.trc.trip k =
    if s.power.kind = .cold then
      if (s.trc.trip k).awaiting then TripRecord.fresh (fit32 t.odo.total) s.clock.stamp else s.trc.trip k
    else if TripRecord.spoiled t.odo.total (s.trc.trip k) then TripRecord.fresh (fit32 t.odo.total) s.clock.stamp
    else s.trc.trip k := by
  have htrc : t.trc = x.trc := (h.ends.touches .trc (by simp)).trans (h.handed.touches .trc (by simp))
  have htest : (based r s).resetsTrip (s.trc.trip k) =
      if s.power.kind = .cold then (s.trc.trip k).awaiting else TripRecord.spoiled (r.1 + s.odo.pending) (s.trc.trip k) := rfl
  rw [htrc, h.trip, h.total, htest]
  split_ifs <;> rfl

/-- The items, as R147 and R150 leave them. -/
theorem ResolvedBy.item_held {i : ServiceItem} (hi : s.sru.heldReset = some i) :
    t.item i = { record := ResetRecord s i (KmOf t.odo.total), awaiting := false, dirty := true } := by
  have hitem : t.item i = v.item i := by rw [State.item, State.item, h.sru]
  have hheld : x.sru.heldReset = s.sru.heldReset := by rw [h.drive]
  have hodo : x.odo = (based r s).odo := h.trips .odo (by simp)
  have hclock : x.clock = s.clock := h.trips .clock (by simp)
  have hsettings : x.settings = s.settings := h.trips .settings (by simp)
  rw [hitem, h.handed.km.held i (hheld.trans hi), h.total, hodo, ResetRecord, ResetRecord, hclock, hsettings]
  rfl

theorem ResolvedBy.item_other {i : ServiceItem} (hi : s.sru.heldReset ≠ some i) :
    t.item i = repaired (KmOf t.odo.total) s i := by
  have hitem : t.item i = v.item i := by rw [State.item, State.item, h.sru]
  have hheld : x.sru.heldReset = s.sru.heldReset := by rw [h.drive]
  have hsame : x.item i = s.item i := by rw [State.item, State.item, h.drive]
  have hodo : x.odo = (based r s).odo := h.trips .odo (by simp)
  have hclock : x.clock = s.clock := h.trips .clock (by simp)
  have hsettings : x.settings = s.settings := h.trips .settings (by simp)
  rw [hitem, h.handed.km.others i (hheld ▸ hi), h.total, hodo, repaired, repaired, hsame, resetRecord, resetRecord, hclock,
    hsettings]
  rfl

/-- What the warnings have made of the transmit queue. -/
theorem ResolvedBy.queue (hroom : s.link.txQueue.length ≤ 6) : v.link.txQueue.length ≤ 7 ∧
    ∀ e : TxEntry, e.frame.id ≠ 0x62 → (e ∈ v.link.txQueue ↔ e ∈ s.link.txQueue) := by
  have hx : x.link = s.link := h.trips .link (by simp)
  obtain ⟨hlen, hmem⟩ := h.handed.queue.offersIds (by rw [hx]; omega)
  rw [hx] at hlen hmem
  exact ⟨by omega, fun e he => hmem e (by simpa [warningsKey] using he)⟩

/-- The warnings of the resolution stand. -/
theorem ResolvedBy.shown (hqueue : s.link.txQueue = s0.link.txQueue) :
    MovesShown (if r.2 then [.odoRestored] else []) (kmRaised w) s0 t := by
  have hends := h.ends
  have hshown : WarnShown v t := WarnShown.of_touches (hends.touches.mono (by simp)) hends.fault hends.roster
  have hwnu : t.wnu = v.wnu := hends.touches .wnu (by simp)
  have hpower : t.power = v.power := hends.touches .power (by simp)
  refine h.handed.settled.toMovesShown.after hshown.elsewhere (fun n _ was => holds_congr hshown.sources n was)
    hshown.sources.definition (fun hroom ho => ?_) (fun hinv => ?_)
  · have hframe : warningsFrame t = warningsFrame v :=
      warningsFrame_congr hshown.list hshown.sources.classOf hshown.settings
    have hlen := (h.queue (hqueue ▸ hroom.1)).1
    rw [ListOffered, hframe]
    exact hends.queue.queued (by omega) (fun hid => absurd (List.mem_singleton.mp hid) (show (0x62 : Byte) ≠ 0x60 by decide)) ho
  · exact hinv.congr (by rw [hwnu]) (by rw [hwnu]) (by rw [AsMade, AsMade, hpower]; exact id)

theorem ResolvedBy.serviceEvaluated (hqueue : s.link.txQueue = s0.link.txQueue) (hrun : s.power.state = .run) : ServiceEvaluated s0 t := by
  have hx : x.power = s.power := h.trips .power (by simp)
  have hraised : kmRaised w = raisedService w := if_pos (by rw [h.handed.power, hx, hrun])
  have hshown := h.shown hqueue
  rw [hraised] at hshown
  have hends : SameService v t := by
    have hodo := h.ends.odo
    have hpower : t.power = v.power := h.ends.touches .power (by simp)
    exact ⟨by rw [h.sru], h.ends.touches .clock (by simp), h.ends.touches .settings (by simp), by rw [hodo],
      by rw [hodo]; rfl, h.ends.touches .signals (by simp), by rw [hpower], by rw [hpower]⟩
  refine hshown.serviceEvaluated (h.handed.before.trans hends) ?_ ?_ fun n hn => h.handed.states n ?_
  · split_ifs <;> simp
  · split_ifs <;> simp
  · rintro rfl
    simp at hn

/-- CLUSTER_DISTANCE in a COURTESY that has not had it (R41). -/
theorem ResolvedBy.distance (hqueue : s.link.txQueue = s0.link.txQueue) (hstate : s.power.state = .courtesy)
    (hnot : s.odo.courtesyOffered = false) :
    t.odo.courtesyOffered = true ∧ (RoomFor s0 0x60 → ∃ f, DistanceFrame t f ∧ Queued t f) := by
  have hx : x.power = s.power := h.trips .power (by simp)
  have hpower : v.power = x.power := h.handed.touches .power (by simp)
  have hodo : x.odo = (based r s).odo := h.trips .odo (by simp)
  obtain ⟨hoffered, hq⟩ := h.ends.offered (by rw [hpower, hx, hstate]) (by rw [h.handed.km.odo, hodo]; exact hnot)
  refine ⟨hoffered, fun hroom => ⟨distanceFrame t, distanceFrame_spec t, ?_⟩⟩
  obtain ⟨hlen, hmem⟩ := h.queue (hqueue ▸ hroom.1)
  refine hq (by omega) fun e he hid => ?_
  exact hroom.2 e (hqueue ▸ (hmem e (by rw [hid]; decide)).mp he) hid

end

theorem resetRecord_eq (s : State) (i : ServiceItem) (km : Nat) : resetRecord s i km = ResetRecord s i km := rfl

/-- A trip that is not spoiled is within the total, and otherwise not (R104). -/
theorem spoiled_iff (total : Nat) (r : TripRecord) :
    TripRecord.spoiled total r = true ↔ total < r.startOdometer ∨ total - r.startOdometer < r.distance := by
  simp [TripRecord.spoiled]

/-- An item as the hand-over repairs it (R147). -/
theorem repaired_awaiting {km : Nat} {i : ServiceItem} (h : (s.item i).awaiting = true) :
    repaired km s i = { record := ResetRecord s i km, awaiting := false, dirty := true } := if_pos h

theorem repaired_of_not_awaiting {km : Nat} {i : ServiceItem} (h : (s.item i).awaiting = false) :
    repaired km s i =
      { record := repairedRecord s.settings i km (s.item i).record, awaiting := false
        dirty := (s.item i).dirty || decide (repairedRecord s.settings i km (s.item i).record ≠ (s.item i).record) } := by
  have hne (a b : ServiceRecord) : (a != b) = decide (a ≠ b) := by
    rw [Bool.eq_iff_iff, bne_iff_ne, decide_eq_true_iff]
  rw [repaired, if_neg (by simp [h]), hne, ← h]

/-- Settles O27: the resolution goes through the trips, the hand-over with the raise on either side of it, the offer and
the commit. -/
theorem resolutionSetsTheOdometer : Obligations.ResolutionSetsTheOdometer := by
  unfold Obligations.ResolutionSetsTheOdometer
  refine ⟨fun s c echo hinv hwait hcmd => ?resolved, fun s f rest hon hnot => ?discarded⟩
  case discarded =>
    have hexec : exec .odoEcho s = done (popped rest s) := by
      refine congrArg done ((dispatch_of_handsOn hon _).trans (if_neg ?_))
      rintro ⟨h1, h2, h3⟩
      have h1' : s.odo.echoWait.isSome = true := h1
      rcases hnot with h | h | h
      · simp [h] at h1'
      · exact h h2
      · exact h h3
    exact ⟨_, hexec, ((popped_touches rest s).mono (by simp)).refresh (by simp), (refresh_frame _).2.1⟩
  case resolved =>
    obtain ⟨hclear, -, hecho, hwaiting, -, -⟩ := hinv
    obtain ⟨hres, hawake⟩ := hecho hwait
    have hnone : s.stc.waitOdometer = none := by
      have hcommit := hclear hres
      have hnot : ¬s.stc.waitOdometer.isSome = true := fun h => by
        rw [hwaiting.mpr h] at hcommit
        exact CommitState.noConfusion hcommit
      simpa using hnot
    obtain ⟨y, hy, hqueue, hexec⟩ : ∃ y, Touches [.link] s y ∧ y.link.txQueue = s.link.txQueue ∧
        exec c s = .next (refresh (resolveOdometer echo y)) := by
      rcases hcmd with ⟨f, rest, hon, hsource, hlen, rfl, rfl⟩ | ⟨rfl, rfl⟩
      · exact ⟨popped rest s, popped_touches rest s, rfl,
          congrArg done ((dispatch_of_handsOn hon _).trans (if_pos ⟨hwait, hsource, hlen⟩))⟩
      · exact ⟨s, Touches.refl _ s, rfl, if_pos ⟨hawake, hwait⟩⟩
    have hpower : y.power = s.power := hy .power (by simp)
    have hodo : y.odo = s.odo := hy .odo (by simp)
    have hsettings : y.settings = s.settings := hy .settings (by simp)
    have hsru : y.sru = s.sru := hy .sru (by simp)
    have htrc : y.trc = s.trc := hy .trc (by simp)
    have hclock : y.clock = s.clock := hy .clock (by simp)
    have hwnu : y.wnu = s.wnu := hy .wnu (by simp)
    have hstc : y.stc = s.stc := hy .stc (by simp)
    have hpowered : y.powered = true := by simp [State.powered, State.awake, hpower] at hawake ⊢; tauto
    obtain ⟨x, w, v, h⟩ := resolvedBy (echo := echo)
      (WarnBefore.of_wnu (s0 := s) hwnu hqueue (by rw [hpower])) hpowered (by rw [hstc, hnone])
    rw [hsettings, hodo] at h
    generalize hr : resolved s.settings.commitKm s.odo.base echo = r at h
    generalize refresh (resolveOdometer echo y) = t at h hexec
    intro value
    have hvalue : value = r := by
      rw [← hr]
      simp only [value]
      unfold resolved adopts
      simp only [Nat.mul_comm s.settings.commitKm 1000]
      rcases s.odo.base with _ | b <;> rcases echo with _ | e <;> simp only [decide_eq_true_eq]
    clear_value value
    subst hvalue
    have htotal := h.total
    have hshown := h.shown hqueue
    obtain ⟨hmoved, -⟩ := hshown.warningsMoved
    have hcommits : y.resolutionCommits value ↔
        value.2 = true ∨ s.odo.baseCommit = true ∨ 1000 * s.settings.commitKm ≤ s.odo.pending := by
      rw [State.resolutionCommits, hodo, hsettings]
    have htouch := (hy.mono (by simp)).trans h.touches
    refine ⟨t, hexec, htouch, ?_, ?_, ?_, ?_, ?_, ?_, fun hc => h.ends.commit (hcommits.mpr hc), fun h1 h2 h3 => ?free, ?trips,
      ?items, fun hv => ?restored, fun hv => ?plain, fun hrun => h.serviceEvaluated hqueue (by rw [hpower, hrun]),
      fun hc hn => h.distance hqueue (by rw [hpower, hc]) (by rw [hodo, hn])⟩
    case free =>
      have hc : ¬y.resolutionCommits value := by
        rw [hcommits]
        rintro (hc | hc | hc)
        · simp [h1] at hc
        · simp [h2] at hc
        · omega
      have hx : x.odo = (based value y).odo := h.trips .odo (by simp)
      rw [h.ends.free hc, h.handed.km.odo, hx]
      exact (congrArg Odometer.commit hodo).trans (hclear hres)
    case trips =>
      refine ⟨fit32 t.odo.total, held32_fit32 _, fun k => ?_⟩
      have htrip := h.trip_eq k
      rw [hpower, htrc, hclock] at htrip
      refine ⟨fun hk => ?_, fun hk hspoiled => ?_, fun hk hwithin => ?_⟩
      · rw [htrip, if_pos hk]
        rfl
      · rw [htrip, if_neg hk, if_pos ((spoiled_iff _ _).mpr hspoiled)]
        rfl
      · rw [htrip, if_neg hk, if_neg]
        rw [spoiled_iff]
        omega
    case items =>
      have hitem (i : ServiceItem) : y.item i = s.item i := by rw [State.item, State.item, hsru]
      have hreset (i : ServiceItem) (km : Nat) : ResetRecord y i km = ResetRecord s i km := by
        rw [ResetRecord, ResetRecord, hsettings, hclock]
      have hx : x.sru.oilReset = s.sru.oilReset ∧ x.sru.heldReset = s.sru.heldReset ∧
          x.sru.drive.isSome = s.sru.drive.isSome := by
        rw [h.isSome, h.drive, hsru]
        exact ⟨rfl, rfl, rfl⟩
      refine ⟨by rw [h.sru, h.handed.km.heldReset], ?_, fun i => ⟨fun hi => ?_, fun hi ha => ?_⟩⟩
      · rw [h.sru, h.handed.km.oilReset, hx.1, hx.2.1, hx.2.2]
      · by_cases hheld : y.sru.heldReset = some i
        · rw [h.item_held hheld, hreset]
        · have ha : (y.item i).awaiting = true := by
            rw [hitem]
            exact hi.resolve_left (hsru ▸ hheld)
          rw [h.item_other hheld, repaired_awaiting ha, hreset]
      · rw [h.item_other (hsru ▸ hi), repaired_of_not_awaiting (by rw [hitem, ha]), hitem, hsettings]
        rfl
    case restored =>
      have hmark : t.wnu.odoRestored = true := by
        have hw : t.wnu = v.wnu := h.ends.touches .wnu (by simp)
        rw [hw, h.handed.mark, hv, Bool.or_true]
      have hmove := (hmoved .odoRestored).1 (by simp [hv])
      refine ⟨hmark, hmove, fun hmade hst => ?_⟩
      have hmade' := (asMade_of_touches htouch hmade (by simp) (by simp)).1
      have hholds : Holds .odoRestored (s.wnu.record .odoRestored).state t := holds_of_table hmade' hmark
      refine (hmove.1 hst).2.1 hholds ?_
      rw [definition_asMade hmade']
      rfl
    case plain =>
      have hx : x.wnu = s.wnu := (h.trips .wnu (by simp)).trans hwnu
      have hw : t.wnu = v.wnu := h.ends.touches .wnu (by simp)
      refine ⟨by rw [hw, h.handed.mark, hv, Bool.or_false, hx], (hmoved .odoRestored).2 (by simp [hv]) fun hr => ?_⟩
      rcases ((raisedOk_kmRaised w).2 _ hr).1 with h' | h' <;> exact Warning.noConfusion h'
    all_goals rw [h.odo]
    · exact hodo ▸ rfl
    · exact hodo ▸ rfl


end Sys2Proof.Machine
end

section
/-! SUPPORT. The entries to RUN and COURTESY (R41, R87, R98, R130, R152, R181, R182): what every block does before the conditions
that read the power state are worked out. -/

namespace Sys2Proof.Machine

open Sys2Proof

variable {s s0 t u v y : State} {ks raised : List Warning}

/-! ## The range (R98) -/

/-- A trigger works out the range, and touches nothing but it. -/
theorem recomputeRange_spec (s : State) :
    Touches [.trc] s (recomputeRange s) ∧
      (recomputeRange s).trc = { s.trc with range := (recomputeRange s).trc.range } ∧
      RangeWorkedOut s.trc.range (recomputeRange s) := by
  by_cases h : (s.signal .fuelLevel).state = .fresh ∧ ∃ v, (s.signal .fuelLevel).value = some v
  · obtain ⟨hstate, v, hvalue⟩ := h
    rw [recomputeRange_of_fresh hstate hvalue]
    refine ⟨fun b hb => ?_, rfl, rangeWorkedOut_of_fresh (v := v) hstate hvalue rfl⟩
    cases b
    case trc => simp at hb
    all_goals rfl
  · have hsame : recomputeRange s = s := by
      unfold recomputeRange
      dsimp only
      split
      · exact absurd ⟨‹_›, _, ‹_›⟩ h
      · rfl
    rw [hsame]
    exact ⟨Touches.refl _ s, rfl, fun v hs hv => absurd ⟨hs, v, hv⟩ h, fun _ => rfl⟩

/-- It is worked out from FUEL_LEVEL, the window and the default consumption alone. -/
theorem RangeWorkedOut.congr {held : Option HeldRange} (h : RangeWorkedOut held s) (hsignals : t.signals = s.signals)
    (hsettings : t.settings = s.settings) (hwindow : t.trc.window = s.trc.window) (hrange : t.trc.range = s.trc.range) :
    RangeWorkedOut held t := by
  have hsignal : t.signal .fuelLevel = s.signal .fuelLevel := by rw [State.signal, State.signal, hsignals]
  unfold RangeWorkedOut at h ⊢
  rw [hsignal, hsettings, hwindow, hrange]
  exact h

/-! ## The journey and the drive (R87, R152) -/

theorem journeyRuleResets_iff (s : State) :
    JourneyRuleResets s ↔ s.trc.journeyRuleDue = true ∧ journeyRuleResets s = true := by
  unfold JourneyRuleResets journeyRuleResets elapsed
  cases s.trc.journeyRuleDue <;> cases s.clock.valid <;> rcases s.trc.journeyStamp with _ | st <;> simp

/-- The journey rule has been applied, and a drive is open. -/
structure DriveOpened (s t : State) : Prop where
  touches : Touches [.trc, .sru] s t
  trc : t.trc =
    { s.trc with
      journeyRuleDue := false
      journeyStamp := if s.trc.journeyRuleDue then none else s.trc.journeyStamp
      journey := t.trc.journey }
  reset : JourneyRuleResets s → t.trc.journey = TripRecord.fresh (fit32 s.odo.total) s.clock.stamp
  kept : ¬JourneyRuleResets s → t.trc.journey = s.trc.journey
  sru : t.sru = { s.sru with drive := t.sru.drive }
  opened : s.sru.drive = none →
    t.sru.drive = some { baseline := t.trc.journey.distance, carried := 0, warm := s.coolantWarm }
  carried : ∀ d, s.sru.drive = some d → JourneyRuleResets s → t.sru.drive = some (d.carry s.trc.journey.distance)
  same : ∀ d, s.sru.drive = some d → ¬JourneyRuleResets s → t.sru.drive = some d

theorem openDrive_spec (s : State) :
    openDrive s = s.setSru
      { s.sru with
        drive := some (s.sru.drive.getD { baseline := s.trc.journey.distance, carried := 0, warm := s.coolantWarm }) } := by
  unfold openDrive
  rcases h : s.sru.drive with _ | d
  · rfl
  · have : s.sru = { s.sru with drive := some d } := by rw [← h]
    rw [Option.getD_some, ← this]
    rfl

theorem journeyRule_eq (s : State) :
    journeyRule s = (s.setTrc
      { s.trc with
        journeyRuleDue := false
        journeyStamp := if s.trc.journeyRuleDue then none else s.trc.journeyStamp
        journey :=
          if s.trc.journeyRuleDue && journeyRuleResets s then TripRecord.fresh (fit32 s.odo.total) s.clock.stamp
          else s.trc.journey }).setSru
      { s.sru with
        drive :=
          if s.trc.journeyRuleDue && journeyRuleResets s then s.sru.drive.map (fun d => d.carry s.trc.journey.distance)
          else s.sru.drive } := by
  unfold journeyRule
  cases hdue : s.trc.journeyRuleDue with
  | false =>
    have htrc : s.trc = { s.trc with journeyRuleDue := false } := by rw [← hdue]
    simp only [Bool.false_and, Bool.false_eq_true, if_false]
    rw [← htrc]
    rfl
  | true =>
    dsimp only
    cases hresets : journeyRuleResets s with
    | false => simp only [Bool.true_and, Bool.false_eq_true, if_false, if_true]; rfl
    | true =>
      simp only [Bool.true_and, if_true]
      rw [resetTrip_eq, if_pos rfl]
      rfl

theorem driveOpened (s : State) : DriveOpened s (openDrive (journeyRule s)) := by
  have hiff := journeyRuleResets_iff s
  rw [← Bool.and_eq_true] at hiff
  rw [openDrive_spec, journeyRule_eq]
  refine ⟨fun b hb => ?_, rfl, fun h => ?_, fun h => ?_, rfl, fun h => ?_, fun d hd h => ?_, fun d hd h => ?_⟩
  · cases b
    case trc | sru => simp at hb
    all_goals rfl
  · exact if_pos (hiff.mp h)
  · exact if_neg (hiff.not.mp h)
  · simp only [State.setSru_sru, State.setSru_trc, State.setTrc_trc, h, Option.map_none, ite_self, Option.getD_none]
    rfl
  · simp only [State.setSru_sru, hd, hiff.mp h, if_true, Option.map_some, Option.getD_some]
  · simp only [State.setSru_sru, hd, if_neg (hiff.not.mp h), Option.getD_some]

/-! ## The park withdrawn (R82) -/

/-- A gauge as it resumes when the park is withdrawn. -/
def resumed (s : State) (g : GaugeId) : Gauge :=
  match (s.gauge g).state with
  | .parking => { s.gauge g with state := .tracking, target := s.targetOf g }
  | .parked => { (s.gauge g).stop with state := .tracking, target := s.targetOf g }.examine s.settings.deadband
  | _ => s.gauge g

theorem resumeGauge_eq (s : State) (g : GaugeId) : resumeGauge s g = s.setGauge g (resumed s g) := by
  unfold resumeGauge resumed
  cases h : (s.gauge g).state <;> simp only [h, State.setGauge_gauge]

theorem resumed_setGauge (s : State) (g h : GaugeId) (r : Gauge) (hne : h ≠ g) :
    resumed (s.setGauge g r) h = resumed s h := by
  have hgauge : (s.setGauge g r).gauge h = s.gauge h := State.gauge_setGauge_other _ _ hne
  have htarget : (s.setGauge g r).targetOf h = s.targetOf h := targetOf_congr rfl rfl rfl (by rw [hgauge])
  unfold resumed
  rw [hgauge, htarget]
  rfl

theorem withdrawPark_spec (s : State) :
    Touches [.gdu] s (withdrawPark s) ∧ (withdrawPark s).gdu.parkInForce = false ∧
      (s.gdu.parkInForce = false → (withdrawPark s).gdu = s.gdu) ∧
      (s.gdu.parkInForce = true → ∀ g, (withdrawPark s).gauge g = resumed s g) := by
  unfold withdrawPark
  cases hpark : s.gdu.parkInForce with
  | false => exact ⟨Touches.refl _ s, hpark, fun _ => rfl, fun h => Bool.noConfusion h⟩
  | true =>
    set x := s.setGdu { s.gdu with parkInForce := false } with hx
    have hfun : resumeGauge = fun x g => x.setGauge g (resumed x g) := funext fun x => funext fun g => resumeGauge_eq x g
    obtain ⟨htouch, hforce, hgauge⟩ := foldl_setGauge_all (F := resumed) resumed_setGauge x
    have hxs : Touches [.gdu] s x := by
      intro b hb
      cases b
      case gdu => simp at hb
      all_goals rfl
    rw [if_pos rfl, hfun]
    exact ⟨hxs.trans htouch, hforce, fun h => Bool.noConfusion h, fun _ g => hgauge g⟩

/-- A gauge that resumes (R74, R82). -/
theorem resumed_parking {g : GaugeId} (h : (s.gauge g).state = .parking) :
    resumed s g = { s.gauge g with state := .tracking, target := s.targetOf g } := by simp only [resumed, h]

theorem resumed_parked {g : GaugeId} (h : (s.gauge g).state = .parked) :
    resumed s g =
      { s.gauge g with
        state := .tracking, target := s.targetOf g, ramp := 0
        motion :=
          if ((s.gauge g).position - s.targetOf g) + (s.targetOf g - (s.gauge g).position) ≤ s.settings.deadband then .atRest
          else if (s.gauge g).position < s.targetOf g then .movingUp else .movingDown } := by
  simp only [resumed, h]
  by_cases hgap : ((s.gauge g).position - s.targetOf g) + (s.targetOf g - (s.gauge g).position) ≤ s.settings.deadband
  · rw [if_pos hgap]
    exact if_pos hgap
  · rw [if_neg hgap]
    exact if_neg hgap

theorem resumed_other {g : GaugeId} (h : (s.gauge g).state ≠ .parking) (h' : (s.gauge g).state ≠ .parked) :
    resumed s g = s.gauge g := by
  unfold resumed
  split
  · exact absurd ‹_› h
  · exact absurd ‹_› h'
  · rfl

/-! ## The entry to RUN (R41, R43, R44, R82, R87, R98, R138, R152, R181) -/

/-- The power record of an entry to RUN. -/
def PowerUnit.inRun (p : PowerUnit) : PowerUnit :=
  { p with
    state := .run, courtesyTimer := none, courtesyCap := none, endPhase := .none, saveWait := none, pendingWake := false }

/-- What is done before the journey rule at an entry to RUN. -/
def runBegun (s : State) : State :=
  let s2 := withdrawPark (s.setPower s.power.inRun)
  let s3 := s2.setOdo { s2.odo with distTimer := some 500 }
  recomputeRange (s3.setTrc { s3.trc with rearTimer := some 2000 })

/-- What is done before the conditions that read the power state are worked out at an entry to RUN. -/
def runReady (s : State) : State :=
  let s5 := openDrive (journeyRule (runBegun s))
  s5.setWnu
    { s5.wnu.allowTone with
      linkWindow := some 3000, beltWindow := some 60000, broadcastTimer := some 2000 }

theorem enterRun_eq (s : State) :
    enterRun s = evalTogether (runReady s).serviceRaises readsPower (runReady s) := rfl

/-- A RUN entry is ready to work out its conditions. -/
structure RunReadied (s t : State) : Prop where
  touches : Touches [.power, .gdu, .odo, .trc, .wnu, .sru] s t
  power : t.power = s.power.inRun
  odo : t.odo = { s.odo with distTimer := some 500 }
  wnu : t.wnu =
    { s.wnu.allowTone with linkWindow := some 3000, beltWindow := some 60000, broadcastTimer := some 2000 }
  trc : t.trc =
    { s.trc with
      rearTimer := some 2000, journeyRuleDue := false
      journeyStamp := if s.trc.journeyRuleDue then none else s.trc.journeyStamp
      journey := t.trc.journey, range := t.trc.range }
  reset : JourneyRuleResets s → t.trc.journey = TripRecord.fresh (fit32 s.odo.total) s.clock.stamp
  kept : ¬JourneyRuleResets s → t.trc.journey = s.trc.journey
  sru : t.sru = { s.sru with drive := t.sru.drive }
  opened : s.sru.drive = none →
    t.sru.drive = some { baseline := t.trc.journey.distance, carried := 0, warm := s.coolantWarm }
  carried : ∀ d, s.sru.drive = some d → JourneyRuleResets s → t.sru.drive = some (d.carry s.trc.journey.distance)
  same : ∀ d, s.sru.drive = some d → ¬JourneyRuleResets s → t.sru.drive = some d
  range : RangeWorkedOut s.trc.range t
  gdu : t.gdu = (withdrawPark (s.setPower s.power.inRun)).gdu

/-- The journey rule goes by its mark, its stamp, the clock and the configured gap (R87). -/
theorem JourneyRuleResets.congr (hdue : t.trc.journeyRuleDue = s.trc.journeyRuleDue)
    (hstamp : t.trc.journeyStamp = s.trc.journeyStamp) (hclock : t.clock = s.clock) (hsettings : t.settings = s.settings) :
    JourneyRuleResets t ↔ JourneyRuleResets s := by
  simp only [JourneyRuleResets, hdue, hstamp, hclock, hsettings]

theorem runBegun_spec (s : State) :
    Touches [.power, .gdu, .odo, .trc] s (runBegun s) ∧ (runBegun s).power = s.power.inRun ∧
      (runBegun s).odo = { s.odo with distTimer := some 500 } ∧
      (runBegun s).trc = { s.trc with rearTimer := some 2000, range := (runBegun s).trc.range } ∧
      RangeWorkedOut s.trc.range (runBegun s) ∧ (runBegun s).gdu = (withdrawPark (s.setPower s.power.inRun)).gdu := by
  set x := s.setPower s.power.inRun with hx
  have hpark := (withdrawPark_spec x).1
  set y := withdrawPark x
  set z := (y.setOdo { y.odo with distTimer := some 500 }).setTrc { y.trc with rearTimer := some 2000 } with hz
  obtain ⟨htouch, htrc, hrange⟩ := recomputeRange_spec z
  have hmade : runBegun s = recomputeRange z := rfl
  have hyodo : y.odo = s.odo := hpark .odo (by simp)
  have hytrc : y.trc = s.trc := hpark .trc (by simp)
  have hypower : y.power = s.power.inRun := hpark .power (by simp)
  have hsz : Touches [.power, .gdu, .odo, .trc] s z := by
    have hyz : Touches [.odo, .trc] y z := by
      intro b hb
      cases b
      case odo | trc => simp at hb
      all_goals rfl
    have hsx : Touches [.power] s x := by
      intro b hb
      cases b
      case power => simp at hb
      all_goals rfl
    exact ((hsx.mono (by simp)).trans (hpark.mono (by simp))).trans (hyz.mono (by simp))
  have hzrange : z.trc.range = s.trc.range := by
    rw [hz, State.setTrc_trc, hytrc]
  rw [hmade]
  refine ⟨hsz.trans (htouch.mono (by simp)), (htouch .power (by simp)).trans hypower, ?_, ?_, hzrange ▸ hrange,
    htouch .gdu (by simp)⟩
  · have h : (recomputeRange z).odo = z.odo := htouch .odo (by simp)
    rw [h, ← hyodo]
    rfl
  · rw [htrc, hz, State.setTrc_trc, hytrc]

theorem runReadied (s : State) : RunReadied s (runReady s) := by
  obtain ⟨htouch, hpower, hodo, htrc, hrange, hgdu⟩ := runBegun_spec s
  set x := runBegun s
  have hx := driveOpened x
  set y := openDrive (journeyRule x)
  have hmade : runReady s = y.setWnu { y.wnu.allowTone with linkWindow := some 3000, beltWindow := some 60000, broadcastTimer := some 2000 } :=
    rfl
  have hset : Touches [.wnu] y (runReady s) := by
    rw [hmade]
    intro b hb
    cases b
    case wnu => simp at hb
    all_goals rfl
  have hclock : x.clock = s.clock := htouch .clock (by simp)
  have hsettings : x.settings = s.settings := htouch .settings (by simp)
  have hsru : x.sru = s.sru := htouch .sru (by simp)
  have hsignals : x.signals = s.signals := htouch .signals (by simp)
  have hjourney : x.trc.journey = s.trc.journey := by rw [htrc]
  have htotal : x.odo.total = s.odo.total := by rw [hodo]; rfl
  have hwarm : x.coolantWarm = s.coolantWarm := by rw [State.coolantWarm, State.coolantWarm, State.signal, State.signal, hsignals]
  have hresets : JourneyRuleResets x ↔ JourneyRuleResets s :=
    JourneyRuleResets.congr (by rw [htrc]) (by rw [htrc]) hclock hsettings
  have hytrc : (runReady s).trc = y.trc := hset .trc (by simp)
  have hysru : (runReady s).sru = y.sru := hset .sru (by simp)
  have hywnu : y.wnu = s.wnu := (hx.touches .wnu (by simp)).trans (htouch .wnu (by simp))
  have hyrange : y.trc.range = x.trc.range ∧ y.trc.window = x.trc.window := by
    rw [hx.trc]
    exact ⟨rfl, rfl⟩
  refine
    { touches := ((htouch.mono (by simp)).trans (hx.touches.mono (by simp))).trans (hset.mono (by simp))
      power := ((hset .power (by simp)).trans (hx.touches .power (by simp))).trans hpower
      odo := ((hset .odo (by simp)).trans (hx.touches .odo (by simp))).trans hodo
      wnu := by rw [hmade, State.setWnu_wnu, hywnu]
      trc := ?_
      reset := fun h => by rw [hytrc, hx.reset (hresets.mpr h), htotal, hclock]
      kept := fun h => by rw [hytrc, hx.kept (hresets.not.mpr h), hjourney]
      sru := by rw [hysru, hx.sru, hsru]
      opened := fun h => by rw [hysru, hytrc, hx.opened (hsru ▸ h), hwarm]
      carried := fun d hd h => by rw [hysru, hx.carried d (hsru ▸ hd) (hresets.mpr h), hjourney]
      same := fun d hd h => by rw [hysru, hx.same d (hsru ▸ hd) (hresets.not.mpr h)]
      range := ?_
      gdu := ((hset .gdu (by simp)).trans (hx.touches .gdu (by simp))).trans hgdu }
  · have h1 := hx.trc
    rw [htrc] at h1
    rw [hytrc, h1]
  · refine hrange.congr ?_ ?_ (by rw [hytrc, hyrange.2]) (by rw [hytrc, hyrange.1])
    · exact (hset .signals (by simp)).trans (hx.touches .signals (by simp))
    · exact (hset .settings (by simp)).trans (hx.touches .settings (by simp))

/-! ## The conditions of an entry (R122, R123) -/

/-- Between two states nothing has changed that KEY_IN goes by, nor any warning. -/
structure Readied (s t : State) : Prop where
  wnu : t.wnu =
    { s.wnu with
      tone := t.wnu.tone, chimes := t.wnu.chimes, linkWindow := t.wnu.linkWindow, beltWindow := t.wnu.beltWindow
      broadcastTimer := t.wnu.broadcastTimer }
  spoiled : t.power.patternSpoiled = s.power.patternSpoiled
  memory : t.power.patternMemory = s.power.patternMemory
  signals : t.signals = s.signals
  filters : t.input.filters = s.input.filters
  stc : t.stc = s.stc
  settings : t.settings = s.settings

theorem Readied.definition (h : Readied s t) : t.definition = s.definition := by
  funext n
  simp only [State.definition, PowerUnit.definition, h.spoiled, h.memory]

theorem Settled.readied (h : Settled ks [] s0 s) (hks : ∀ n ∈ ks, n = .keyIn) (hr : Readied s t)
    (hroom : RoomFor s0 0x62 → WarningsRoom t)
    (hqueue : RoomFor s0 0x62 → ∀ f : Frame, f.id = 0x62 → Queued s f → Queued t f) : Settled ks [] s0 t where
  toMovesShown := by
    have hwnu := hr.wnu
    have hlist : t.wnu.list = s.wnu.list := by rw [hwnu]
    refine h.toMovesShown.after (fun n => Elsewhere.of_eq (by rw [hwnu]) hlist (by rw [hwnu]) n) (fun n hn was => ?_)
      hr.definition (fun hroom ho => ?_) fun hinv => ?_
    · rw [hks n hn]
      exact holds_of_marks (by simp) hr.spoiled hr.memory hr.signals hr.filters (by rw [hr.stc]) (by rw [hwnu])
        (by rw [hwnu]) hr.settings
    · have hclass : t.classOf = s.classOf := by
        funext n
        rw [State.classOf, State.classOf, hr.definition]
      rw [ListOffered, warningsFrame_congr hlist hclass hr.settings]
      exact hqueue hroom _ rfl ho
    · exact hinv.congr (by rw [hwnu]) hlist (by rw [AsMade, AsMade, hr.spoiled]; exact id)
  room := hroom

theorem readsPower_ok : readsPower.Nodup ∧ (∀ n ∈ readsPower, n ≠ .serviceDue ∧ n ≠ .serviceSoon) ∧ .keyIn ∈ readsPower := by
  decide

/-- The conditions that read the power state, worked out at an entry, where KEY_IN may have been worked out before. -/
theorem Settled.enters (h : Settled ks [] s0 s) (hks : ∀ n ∈ ks, n = .keyIn) (hpowered : s.powered = true)
    (hraised : RaisedOk raised s) : MovesShown (ks ++ readsPower) raised s0 (refresh (Machine.evalTogether raised readsPower s)) ∧
      WarningsMoved readsPower [.serviceDue, .serviceSoon] s0 (refresh (Machine.evalTogether raised readsPower s)) ∧
      ∀ n, n ∉ readsPower → n ∉ raised → Unmoved n s0 (refresh (Machine.evalTogether raised readsPower s)) := by
  obtain ⟨hnodup, hservice, hkey⟩ := readsPower_ok
  have hraisedOk : ∀ n ∈ raised, n = .serviceDue ∨ n = .serviceSoon := fun n hn => (hraised.2 n hn).1
  have hfree : ∀ n ∈ ks, n ∉ raised := fun n hn hr => by
    rw [hks n hn] at hr
    rcases hraisedOk _ hr with h' | h' <;> exact Warning.noConfusion h'
  have hdone := h.evalTogether hpowered hraised hnodup hservice hfree (by simp) (fun n hn _ => by rw [hks n hn]; rfl)
  set u := Machine.evalTogether raised readsPower s
  have hshown := warnAfter_refresh u
  have hmade : MovesShown (ks ++ readsPower) raised s0 (refresh u) :=
    hdone.toMovesShown.after hshown.elsewhere (fun n _ was => holds_congr hshown.sources n was) hshown.sources.definition
      (fun _ ho => ListOffered.congr (by rwa [warningsFrame_congr hshown.list hshown.sources.classOf hshown.settings])
        (by simp)) (fun hinv => hinv.congr (by simp) (by simp) (by simp [AsMade]))
  have hmoved := hmade.warningsMoved.1
  have hout {n : Warning} (hn : n ∉ readsPower) : n ∉ ks ++ readsPower := fun hin => by
    rcases List.mem_append.mp hin with hin | hin
    · exact hn (hks n hin ▸ hkey)
    · exact hn hin
  refine ⟨hmade, fun n => ⟨fun hn => (hmoved n).1 (List.mem_append_right _ hn), fun hn hfree => ?_⟩,
    fun n hn hr => (hmoved n).2 (hout hn) hr⟩
  refine (hmoved n).2 (hout hn) fun hr => hfree ?_
  rcases hraisedOk n hr with rfl | rfl <;> simp

/-! ## The two entries (R181, R182) -/

/-- A state at the entry to RUN or COURTESY stands for one before the command that enters it. -/
structure EntersFrom (ks : List Warning) (s y : State) : Prop where
  settled : Settled ks [] s y
  keys : ∀ n ∈ ks, n = .keyIn
  trc : y.trc = s.trc
  sru : y.sru = { s.sru with items := y.sru.items }
  clock : y.clock = s.clock
  settings : y.settings = s.settings
  resolved : y.odo.resolved = s.odo.resolved
  queue : OffersKey warningsKey s y

/-- The entry to RUN with the evaluation behind it. -/
theorem touches_enterRun (s : State) :
    Touches [.power, .link, .gdu, .odo, .trc, .wnu, .sru, .msc, .seq, .draw] s (refresh (enterRun s)) := by
  rw [enterRun_eq]
  exact (((runReadied s).touches.mono (by simp)).trans ((touches_evalTogether _ _ _).mono (by simp))).trans
    ((touches_refresh _).mono (by simp))

/-- What an entry to RUN leaves behind its conditions as it was before them. -/
theorem enterRun_kept (s : State) : Touches [.link, .wnu, .msc, .seq, .draw] (runReady s) (refresh (enterRun s)) := by
  rw [enterRun_eq]
  exact ((touches_evalTogether _ _ _).mono (by simp)).trans ((touches_refresh _).mono (by simp))

theorem readied_runReady (s : State) : Readied s (runReady s) := by
  have h := runReadied s
  have hinput : (runReady s).input = s.input := h.touches .input (by simp)
  refine ⟨?_, by rw [h.power]; rfl, by rw [h.power]; rfl, h.touches .signals (by simp), by rw [hinput],
    h.touches .stc (by simp), h.touches .settings (by simp)⟩
  rw [h.wnu, s.wnu.allowTone_eq]

theorem EntersFrom.runEntered {ks : List Warning} (h : EntersFrom ks s y) : RunEntered s (refresh (enterRun y)) := by
  have hready := runReadied y
  have hkept := enterRun_kept y
  have hlink : (runReady y).link = y.link := hready.touches .link (by simp)
  have hraisedOk := raisedOk_serviceRaises (runReady y)
  have hsettled := h.settled.readied h.keys (readied_runReady y)
    (fun hroom => (h.settled.room hroom).after (OffersKey.of_txQueue (by rw [hlink])))
    (fun _ f _ hq => by unfold Queued at hq ⊢; rwa [hlink])
  have hpowered : (runReady y).powered = true := by rw [State.powered, State.awake, hready.power]; rfl
  obtain ⟨hshown, hmoved, hother⟩ := hsettled.enters h.keys hpowered hraisedOk
  rw [← enterRun_eq] at hshown hmoved hother
  have honly : OnlyMoves (runReady y) (refresh (enterRun y)) := by
    have h1 := onlyMoves_evalTogether (runReady y).serviceRaises readsPower (runReady y)
    rw [← enterRun_eq] at h1
    exact h1.trans (by simp [OnlyMoves])
  have hresets : JourneyRuleResets y ↔ JourneyRuleResets s :=
    JourneyRuleResets.congr (by rw [h.trc]) (by rw [h.trc]) h.clock h.settings
  generalize refresh (enterRun y) = t at hkept hshown hmoved hother honly
  have htrc : t.trc = (runReady y).trc := hkept .trc (by simp)
  have hsru : t.sru = (runReady y).sru := hkept .sru (by simp)
  have hodo : t.odo = (runReady y).odo := hkept .odo (by simp)
  have hsignals : t.signals = (runReady y).signals := hkept .signals (by simp)
  have hdrive : y.sru.drive = s.sru.drive := by rw [h.sru]
  have htotal : t.odo.total = y.odo.total := by rw [hodo, hready.odo]; rfl
  have hresolved : (runReady y).odo.resolved = s.odo.resolved := by rw [hready.odo]; exact h.resolved
  refine ⟨by rw [hodo, hready.odo], by rw [honly, hready.wnu], by rw [honly, hready.wnu], by rw [honly, hready.wnu], ?_,
    fun hr => ⟨fit32 t.odo.total, held32_fit32 _, ?_⟩, fun hr => ?_, ?_, fun hd => ?_, fun d hd => ⟨fun hr => ?_, fun hr => ?_⟩,
    ?_, hmoved, fun hres => ?_, fun hres => ?_⟩
  · have h1 := hready.trc
    rw [h.trc] at h1
    rw [htrc, h1]
  · rw [htrc, hready.reset (hresets.mpr hr), htotal, h.clock]
    rfl
  · rw [htrc, hready.kept (hresets.not.mpr hr), h.trc]
  · rw [hsru, hready.sru, h.sru]
  · refine ⟨y.coolantWarm, by rw [hsru, htrc, hready.opened (hdrive.trans hd)], ?_⟩
    have hsignal : t.signal .coolantT = y.signal .coolantT := by
      rw [State.signal, State.signal, hsignals, (hready.touches .signals (by simp) : (runReady y).signals = y.signals)]
    rw [hsignal, State.coolantWarm, test_iff]
    simp
  · rw [hsru, hready.carried d (hdrive.trans hd) (hresets.mpr hr), h.trc]
    rfl
  · rw [hsru, hready.same d (hdrive.trans hd) (hresets.not.mpr hr)]
  · have hrange := hready.range
    rw [h.trc] at hrange
    exact hrange.congr hsignals (hkept .settings (by simp)) (by rw [htrc]) (by rw [htrc])
  · have hraised : (runReady y).serviceRaises = raisedService (runReady y) := if_pos (hresolved.trans hres)
    rw [hraised] at hshown
    have hnot {n : Warning} (hn : n = .serviceDue ∨ n = .serviceSoon) : n ∉ ks ++ readsPower := fun hin => by
      rcases List.mem_append.mp hin with hin | hin
      · rw [h.keys n hin] at hn
        rcases hn with hn | hn <;> exact Warning.noConfusion hn
      · rcases hn with rfl | rfl <;> exact absurd hin (by decide)
    refine hshown.serviceEvaluated (SameService.of_touches (hkept.mono (by simp))) (hnot (.inl rfl)) (hnot (.inr rfl))
      fun n hn => (hsettled.others n (fun hk => ?_) List.not_mem_nil).state
    rw [h.keys n hk] at hn
    exact absurd hn (by decide)
  · have hraised : (runReady y).serviceRaises = [] := if_neg (by simp [hresolved, hres])
    rw [hraised] at hother
    exact ⟨hother _ (by decide) List.not_mem_nil, hother _ (by decide) List.not_mem_nil⟩

/-! ## A frame beside CLUSTER_WARNINGS (R14) -/

/-- A queue of six has room for CLUSTER_WARNINGS and another frame. -/
theorem RoomFor.slots_le {i : Byte} (h : RoomFor s i) : slots warningsKey s.link.txQueue ≤ 7 :=
  (slots_le_succ _ _).trans (by have := h.1; omega)

/-- Behind a frame of another id the entries of CLUSTER_WARNINGS stand. -/
theorem mem_offer_of_warningsKey {f : Frame} (hid : f.id ≠ 0x62) (hslots : slots warningsKey s.link.txQueue ≤ 7) {e : TxEntry}
    (he : e.frame.sameKey warningsKey = true) : e ∈ (offer f s).link.txQueue ↔ e ∈ s.link.txQueue := by
  have hlen : s.link.txQueue.length ≤ 7 := (length_le_slots _ _).trans hslots
  obtain ⟨-, hother, -⟩ := offersKey_offer f s ((slots_le_succ f s.link.txQueue).trans (by omega))
  refine hother e (Bool.eq_false_iff.mpr fun hf => hid ?_)
  exact (Frame.sameKey_iff.mp hf).1.symm.trans (Frame.sameKey_iff.mp he).1

theorem slots_offer_le {f : Frame} (hid : f.id ≠ 0x62) (hslots : slots warningsKey s.link.txQueue ≤ 7) :
    slots warningsKey (offer f s).link.txQueue ≤ 8 := by
  have hlen : s.link.txQueue.length ≤ 7 := (length_le_slots _ _).trans hslots
  have hroom := slots_le_succ f s.link.txQueue
  have heq := (offersKey_offer f s (hroom.trans (by omega))).1
  have hany : (offer f s).link.txQueue.any (fun e => e.frame.sameKey warningsKey) =
      s.link.txQueue.any (fun e => e.frame.sameKey warningsKey) := by
    rw [Bool.eq_iff_iff, List.any_eq_true, List.any_eq_true]
    exact ⟨fun ⟨e, he, hk⟩ => ⟨e, (mem_offer_of_warningsKey hid hslots hk).mp he, hk⟩,
      fun ⟨e, he, hk⟩ => ⟨e, (mem_offer_of_warningsKey hid hslots hk).mpr he, hk⟩⟩
  have hlen' := length_le_slots f (offer f s).link.txQueue
  rw [heq] at hlen'
  unfold slots at hslots ⊢
  rw [hany]
  split_ifs at hslots ⊢ <;> omega

/-- A frame of another id that joins leaves room for CLUSTER_WARNINGS, where there was more. -/
theorem warningsRoom_offer {f : Frame} (hid : f.id ≠ 0x62) (hslots : slots warningsKey s.link.txQueue ≤ 7)
    (hwait : ∀ e ∈ s.link.txQueue, e.frame.sameKey warningsKey = true → e.underAttempt = false) :
    WarningsRoom (offer f s) :=
  ⟨slots_offer_le hid hslots, fun e he hk => hwait e ((mem_offer_of_warningsKey hid hslots hk).mp he) hk⟩

theorem OffersKey.queued {k f : Frame} (h : OffersKey k s t) (hroom : slots k s.link.txQueue ≤ 8) (hid : f.id ≠ k.id)
    (hq : Queued s f) : Queued t f := by
  obtain ⟨e, he, rfl⟩ := hq
  exact ⟨e, ((h hroom).2.1 e (Bool.eq_false_iff.mpr fun hk => hid (Frame.sameKey_iff.mp hk).1)).mpr he, rfl⟩

/-! ## The entry to COURTESY (R41, R43, R44, R169, R170, R182) -/

/-- The power record of an entry to COURTESY. -/
def PowerUnit.inCourtesy (p : PowerUnit) (seconds : Nat) : PowerUnit :=
  { p with
    state := .courtesy, courtesyTimer := some (1000 * seconds), courtesyCap := some 300000, endPhase := .none }

/-- What is done before the offer of CLUSTER_DISTANCE at an entry to COURTESY. -/
def courtesyBegun (s : State) : State :=
  let s2 := (s.setPower (s.power.inCourtesy s.settings.courtesyS)).setOdo
    { s.odo with distTimer := none, courtesyOffered := s.odo.resolved }
  let s3 := s2.setTrc { s2.trc with rearTimer := none }
  let s4 := s3.setWnu { s3.wnu with broadcastTimer := none }
  s4.setMsc { s4.msc with review := none, reviewTimer := none, clockSet := none }

/-- What is done before the conditions that read the power state are worked out at an entry to COURTESY. -/
def courtesyReady (s : State) : State :=
  if s.odo.resolved then offerDistance (courtesyBegun s) else courtesyBegun s

theorem enterCourtesy_eq (s : State) : enterCourtesy s = evalTogether [] readsPower (courtesyReady s) := rfl

theorem touches_courtesyBegun (s : State) : Touches [.power, .odo, .trc, .wnu, .msc] s (courtesyBegun s) := by
  intro b hb
  cases b
  case power | odo | trc | wnu | msc => simp at hb
  all_goals rfl

theorem touches_courtesyReady (s : State) : Touches [.link, .seq] (courtesyBegun s) (courtesyReady s) := by
  unfold courtesyReady
  split_ifs
  · intro b hb
    cases b
    case link | seq => simp at hb
    all_goals simp [Agree]
  · exact Touches.refl _ _

theorem readied_courtesyReady (s : State) : Readied s (courtesyReady s) := by
  have h := touches_courtesyReady s
  have hinput : (courtesyReady s).input = s.input := h .input (by simp)
  have hpower : (courtesyReady s).power = s.power.inCourtesy s.settings.courtesyS := h .power (by simp)
  have hwnu : (courtesyReady s).wnu = { s.wnu with broadcastTimer := none } := h .wnu (by simp)
  exact ⟨by rw [hwnu], by rw [hpower]; rfl, by rw [hpower]; rfl, h .signals (by simp), by rw [hinput], h .stc (by simp),
    h .settings (by simp)⟩

/-- What an entry to COURTESY leaves behind its conditions as it was before them. -/
theorem enterCourtesy_kept (s : State) :
    Touches [.link, .wnu, .msc, .seq, .draw] (courtesyReady s) (refresh (enterCourtesy s)) := by
  rw [enterCourtesy_eq]
  exact ((touches_evalTogether _ _ _).mono (by simp)).trans ((touches_refresh _).mono (by simp))

theorem touches_enterCourtesy (s : State) :
    Touches [.power, .link, .odo, .trc, .wnu, .msc, .seq, .draw] s (refresh (enterCourtesy s)) :=
  (((touches_courtesyBegun s).mono (by simp)).trans ((touches_courtesyReady s).mono (by simp))).trans
    ((enterCourtesy_kept s).mono (by simp))

theorem EntersFrom.courtesyEntered {ks : List Warning} (h : EntersFrom ks s y) :
    CourtesyEntered s (refresh (enterCourtesy y)) := by
  have hkept := enterCourtesy_kept y
  have hready := touches_courtesyReady y
  have hid (x : State) : (distanceFrame x).id ≠ 0x62 := show (0x60 : Byte) ≠ 0x62 by decide
  have hslots {i : Byte} (hroom : RoomFor s i) : slots warningsKey (courtesyBegun y).link.txQueue ≤ 7 :=
    (h.queue (hroom.slots_le.trans (by decide))).1.trans_le hroom.slots_le
  have hsettled := h.settled.readied h.keys (readied_courtesyReady y) (fun hroom => ?room) (fun hroom f hf hq => ?waits)
  case room =>
    have hwait := (h.settled.room hroom).2
    unfold courtesyReady
    split_ifs
    · exact warningsRoom_offer (s := courtesyBegun y) (hid _) (hslots hroom) hwait
    · exact ⟨(hslots hroom).trans (by decide), hwait⟩
  case waits =>
    unfold courtesyReady
    split_ifs
    · have hlen : (courtesyBegun y).link.txQueue.length ≤ 7 := (length_le_slots _ _).trans (hslots hroom)
      exact (offersIds_offer (distanceFrame (courtesyBegun y)) (courtesyBegun y)).queued (by omega)
        (fun hin => hid _ ((List.mem_singleton.mp hin).symm.trans hf)) hq
    · exact hq
  have hpowered : (courtesyReady y).powered = true := by
    have hpower : (courtesyReady y).power = (courtesyBegun y).power := hready .power (by simp)
    rw [State.powered, State.awake, hpower]
    rfl
  obtain ⟨-, hmoved, hother⟩ := hsettled.enters h.keys hpowered (raisedOk_nil _)
  rw [← enterCourtesy_eq] at hmoved hother
  have honly : OnlyMoves (courtesyReady y) (refresh (enterCourtesy y)) := by
    have h1 := onlyMoves_evalTogether [] readsPower (courtesyReady y)
    rw [← enterCourtesy_eq] at h1
    exact h1.trans (by simp [OnlyMoves])
  have hoffers : OffersKey warningsKey (courtesyReady y) (refresh (enterCourtesy y)) := by
    have h1 : OffersKey warningsKey (courtesyReady y) (enterCourtesy y) := warnSteps_offersKey.evalTogether _ _ _
    exact h1.trans (OffersKey.of_txQueue (by simp))
  have hmsc : (enterCourtesy y).msc = (courtesyBegun y).msc :=
    (touches_evalTogether [] readsPower (courtesyReady y) .msc (by simp)).trans (hready .msc (by simp))
  have hreview := refresh_msc_kept (enterCourtesy y)
  rw [hmsc] at hreview
  generalize refresh (enterCourtesy y) = t at hkept hmoved hother honly hoffers hreview
  have hodo : t.odo = (courtesyBegun y).odo := (hkept .odo (by simp)).trans (hready .odo (by simp))
  have htrc : t.trc = (courtesyBegun y).trc := (hkept .trc (by simp)).trans (hready .trc (by simp))
  have hsru : t.sru = y.sru := (hkept .sru (by simp)).trans (hready .sru (by simp))
  have hwnu : (courtesyReady y).wnu = (courtesyBegun y).wnu := hready .wnu (by simp)
  refine ⟨by rw [hodo]; rfl, ?_, by rw [honly, hwnu]; rfl, ?_, by rw [hsru, h.sru], by rw [hreview]; rfl, by rw [hreview]; rfl,
    by rw [hreview]; rfl, fun n => ⟨(hmoved n).1, fun hn _ => hother n hn List.not_mem_nil⟩, fun hres hroom => ?_⟩
  · rw [hodo, ← h.resolved]
    rfl
  · rw [htrc, ← h.trc]
    rfl
  · have hmade : courtesyReady y = offer (distanceFrame (courtesyBegun y)) (courtesyBegun y) := if_pos (h.resolved.trans hres)
    have hframe : distanceFrame t = distanceFrame (courtesyBegun y) :=
      distanceFrame_congr (by rw [hodo]) ((hkept .signals (by simp)).trans (hready .signals (by simp)))
        ((hkept .settings (by simp)).trans (hready .settings (by simp)))
    refine ⟨distanceFrame t, distanceFrame_spec t, ?_⟩
    obtain ⟨hlen, hmem⟩ := h.queue.offersIds (by have := hroom.1; omega)
    have hnone : ∀ e ∈ (courtesyBegun y).link.txQueue, e.frame.id ≠ 0x60 := fun e he hi =>
      hroom.2 e ((hmem e (by rw [hi]; decide)).mp he) hi
    rw [hframe]
    refine hoffers.queued ?_ (hid _) ?_ <;> rw [hmade]
    · exact slots_offer_le (hid _) (hslots hroom)
    · exact queued_offer (Nat.lt_of_le_of_lt hlen (by have := hroom.1; omega)) hnone

end Sys2Proof.Machine
end

section
/-! SUPPORT. The end of STARTING by the filtered ignition level (R70 to R72, R138, R180). -/

namespace Sys2Proof.Machine

open Sys2Proof

variable {s s0 t u v y : State} {ks : List Warning}

/-! ## What leaves STARTING -/

/-- The gate as STARTING leaves it. -/
def openGate : SpeedGate :=
  { isOpen := true, edges := 0, firstUs := 0, lastUs := 0, sinceEdge := none, computed := none }

/-- The state in which STARTING has been left, before the entry to RUN or COURTESY. -/
def startLeft (contacts : BitVec 6) (s : State) : State :=
  leaveStarting contacts
    (s.setPower { s.power with state := if s.ignitionOn then .run else .courtesy, step := .none })

theorem endStarting_eq (contacts : BitVec 6) (s : State) :
    endStarting contacts s =
      if s.ignitionOn then enterRun (startLeft contacts s) else enterCourtesy (startLeft contacts s) := rfl

/-- What leaves STARTING. -/
structure StartLeft (contacts : BitVec 6) (s t : State) : Prop where
  touches : Touches [.power, .link, .input, .gdu, .odo, .wnu] s t
  power : t.power = { s.power with state := if s.ignitionOn then .run else .courtesy, step := .none }
  link : t.link = { s.link with tx := if s.link.tx = .idle ∧ s.link.txQueue ≠ [] then .waitingIdle else s.link.tx }
  input : t.input = { s.input with gate := openGate }
  odo : t.odo = { s.odo with echoWait := some 2000 }
  wnu : t.wnu = s.wnu.allowTone
  park : t.gdu.parkInForce = s.gdu.parkInForce
  gauge : ∀ g, t.gauge g = homed s.settings.sweepEnable false contacts s g

theorem startLeft_spec (contacts : BitVec 6) (s : State) : StartLeft contacts s (startLeft contacts s) := by
  set x := (s.setPower { s.power with state := if s.ignitionOn then .run else .courtesy, step := .none }).setLink
    { s.link with tx := if s.link.tx = .idle ∧ s.link.txQueue ≠ [] then .waitingIdle else s.link.tx } with hx
  have hfun : homeGauge s.settings.sweepEnable false contacts =
      fun x g => x.setGauge g (homed s.settings.sweepEnable false contacts x g) :=
    funext fun x => funext fun g => homeGauge_eq _ _ contacts x g
  obtain ⟨htouch, hpark, hgauge⟩ := foldl_setGauge_all
    (F := homed s.settings.sweepEnable false contacts) (fun s g h r hne => homed_setGauge _ _ contacts s r hne) x
  rw [← hfun] at htouch hpark hgauge
  set z := GaugeId.all.foldl (homeGauge s.settings.sweepEnable false contacts) x with hz
  have hmade : startLeft contacts s =
      ((z.setOdo { z.odo with echoWait := some 2000 }).setInput { z.input with gate := openGate }).setWnu z.wnu.allowTone := rfl
  have hodo : z.odo = s.odo := htouch .odo (by simp)
  have hinput : z.input = s.input := htouch .input (by simp)
  have hwnu : z.wnu = s.wnu := htouch .wnu (by simp)
  rw [hmade]
  refine ⟨fun b hb => ?_, htouch .power (by simp), htouch .link (by simp), by rw [← hinput]; rfl, by rw [← hodo]; rfl,
    by rw [← hwnu]; rfl, hpark, hgauge⟩
  have hzx := htouch b
  cases b
  case power | link | input | gdu | odo | wnu => simp at hb
  all_goals exact hzx (by simp)

theorem readied_startLeft (contacts : BitVec 6) (s : State) : Readied s (startLeft contacts s) := by
  have h := startLeft_spec contacts s
  exact ⟨by rw [h.wnu, s.wnu.allowTone_eq], by rw [h.power], by rw [h.power], h.touches .signals (by simp), by rw [h.input],
    h.touches .stc (by simp), h.touches .settings (by simp)⟩

theorem EntersFrom.startLeft (h : EntersFrom ks s y) (contacts : BitVec 6) : EntersFrom ks s (startLeft contacts y) := by
  have hleft := startLeft_spec contacts y
  have hqueue : (Machine.startLeft contacts y).link.txQueue = y.link.txQueue := by rw [hleft.link]
  have hsru : (Machine.startLeft contacts y).sru = y.sru := hleft.touches .sru (by simp)
  have hkey : OffersKey warningsKey y (Machine.startLeft contacts y) := OffersKey.of_txQueue hqueue
  refine ⟨h.settled.readied h.keys (readied_startLeft contacts y) (fun hroom => (h.settled.room hroom).after hkey)
      (fun _ f _ hq => by unfold Queued at hq ⊢; rwa [hqueue]), h.keys, (hleft.touches .trc (by simp)).trans h.trc, ?_,
    (hleft.touches .clock (by simp)).trans h.clock, (hleft.touches .settings (by simp)).trans h.settings, ?_, h.queue.trans hkey⟩
  · rw [hsru, h.sru]
  · rw [hleft.odo]
    exact h.resolved

/-! ## The tone (R138) -/

theorem WarningUnit.startHead_tone (w : WarningUnit) : w.startHead.tone ≠ .silent := by
  unfold WarningUnit.startHead
  split <;> simp

theorem WarningUnit.allowTone_tone (w : WarningUnit) : w.allowTone.tone ≠ .silent := by
  unfold WarningUnit.allowTone
  split_ifs with h
  · exact w.startHead_tone
  · exact h

theorem WarningUnit.preempt_tone {w : WarningUnit} (h : w.tone ≠ .silent) (cur : ChimeRequest) (src : ChimeSource) :
    (w.preempt cur src).tone ≠ .silent := by
  unfold WarningUnit.preempt
  dsimp only
  split
  · exact h
  · simp

theorem WarningUnit.giveChime_tone {w : WarningUnit} (h : w.tone ≠ .silent) (r : ChimeRequest) :
    (w.giveChime r).1.tone ≠ .silent := by
  unfold WarningUnit.giveChime
  dsimp only
  split
  · split_ifs
    · simp
    · exact WarningUnit.preempt_tone (w := { w with chimes := (chimeJoin r w.chimes).1 }) h _ _
    · exact h
  · exact WarningUnit.startHead_tone _
  · exact h
  · exact h

theorem WarningUnit.stopSounding_tone {w : WarningUnit} (h : w.tone ≠ .silent) (src : ChimeSource) (stops : Pattern → Bool) :
    (w.stopSounding src stops).tone ≠ .silent := by
  unfold WarningUnit.stopSounding WarningUnit.endPattern
  split
  · split_ifs
    · simp
    · exact h
  · exact h

/-- The warnings leave a tone that is allowed allowed. -/
theorem toneSteps_notSilent : ToneSteps (fun s t => s.wnu.tone ≠ .silent → t.wnu.tone ≠ .silent) where
  same h _ hs := h ▸ hs
  trans h h' hs := h' (h hs)
  give _ r _ _ hs := WarningUnit.giveChime_tone hs r
  cancel s n stops hs :=
    WarningUnit.stopSounding_tone (w := { s.wnu with chimes := chimeRemove (.warning n) s.wnu.chimes }) hs _ stops

/-! ## The transmitter (R8, R14) -/

/-- The transmitter waits for idle exactly while an entry waits. -/
def TakenUp (s : State) : Prop := s.link.tx = if s.link.txQueue = [] then .idle else .waitingIdle

/-- Where sending is allowed the transmitter goes on to take up what joins the queue. -/
def TakesUp (s t : State) : Prop := t.power = s.power ∧ (s.sendingAllowed = true → TakenUp s → TakenUp t)

theorem txInsert_ne_nil (e : TxEntry) (q : List TxEntry) : txInsert e q ≠ [] :=
  List.ne_nil_of_mem (mem_txInsert.mpr (.inl rfl))

/-- An offer never empties the queue. -/
theorem txOffer_ne_nil (f : Frame) (m : Nat) {q : List TxEntry} (h : q ≠ []) : (txOffer f m q).1 ≠ [] := by
  unfold txOffer
  split_ifs
  · simpa [txReplace] using h
  · exact txInsert_ne_nil _ _
  · split
    · exact h
    · split_ifs
      · exact txInsert_ne_nil _ _
      · exact h

theorem txOffer_nil (f : Frame) (m : Nat) : (txOffer f m []).1 = [freshEntry f m] := rfl

theorem takesUp_offer (f : Frame) (s : State) : TakesUp s (offer f s) := by
  refine ⟨by simp, fun hallowed h => ?_⟩
  unfold TakenUp at h ⊢
  rw [offer_txQueue, offer_link]
  by_cases hq : s.link.txQueue = []
  · rw [if_pos hq] at h
    simp [hq, txOffer_nil, h, hallowed]
  · rw [if_neg hq] at h
    have hne := txOffer_ne_nil f s.moment hq
    have hne' := txOffer_ne_nil f s.seq hq
    simp [hne, hne', h]

theorem TakesUp.refl (s : State) : TakesUp s s := ⟨rfl, fun _ h => h⟩

theorem TakesUp.trans (h : TakesUp s t) (h' : TakesUp t u) : TakesUp s u := by
  refine ⟨h'.1.trans h.1, fun hallowed ht => h'.2 ?_ (h.2 hallowed ht)⟩
  rwa [State.sendingAllowed, State.awake, h.1]

theorem TakesUp.of_link (hpower : t.power = s.power) (hlink : t.link = s.link) : TakesUp s t :=
  ⟨hpower, fun _ h => by unfold TakenUp at h ⊢; rwa [hlink]⟩

theorem warnSteps_takesUp : WarnSteps TakesUp where
  refl := TakesUp.refl
  trans := TakesUp.trans
  setWnu _ _ := TakesUp.of_link rfl rfl
  nextMoment _ := TakesUp.of_link rfl rfl
  nextDraw _ := TakesUp.of_link rfl rfl
  offerWarnings s := takesUp_offer _ s


/-! ## The entries, as far as the tone, the transmitter and the gauges go -/

theorem enterRun_tone (s : State) : (refresh (enterRun s)).wnu.tone ≠ .silent := by
  have hwnu : (refresh (enterRun s)).wnu = (enterRun s).wnu := touches_refresh _ .wnu (by simp)
  rw [hwnu, enterRun_eq]
  refine toneSteps_notSilent.evalTogether _ readsPower (runReady s) ?_
  rw [(runReadied s).wnu]
  exact s.wnu.allowTone_tone

theorem enterCourtesy_tone (h : s.wnu.tone ≠ .silent) : (refresh (enterCourtesy s)).wnu.tone ≠ .silent := by
  have hwnu : (refresh (enterCourtesy s)).wnu = (enterCourtesy s).wnu := touches_refresh _ .wnu (by simp)
  have hready : (courtesyReady s).wnu = { s.wnu with broadcastTimer := none } := touches_courtesyReady s .wnu (by simp)
  rw [hwnu, enterCourtesy_eq]
  refine toneSteps_notSilent.evalTogether _ readsPower (courtesyReady s) ?_
  rw [hready]
  exact h

theorem enterRun_takenUp (h : TakenUp s) : TakenUp (refresh (enterRun s)) := by
  have hready := runReadied s
  have hlink : (runReady s).link = s.link := hready.touches .link (by simp)
  have hsteps := (warnSteps_takesUp.evalTogether (runReady s).serviceRaises readsPower (runReady s)).trans
    (TakesUp.of_link (t := refresh (enterRun s)) (by simp [enterRun_eq]) (by simp [enterRun_eq]))
  refine hsteps.2 ?_ (by unfold TakenUp at h ⊢; rwa [hlink])
  rw [State.sendingAllowed, State.awake, hready.power]
  rfl

theorem enterCourtesy_takenUp (h : TakenUp s) : TakenUp (refresh (enterCourtesy s)) := by
  have hbegun : TakesUp (courtesyBegun s) (courtesyReady s) := by
    unfold courtesyReady
    split_ifs
    · exact takesUp_offer _ _
    · exact TakesUp.refl _
  have hsteps := (hbegun.trans (warnSteps_takesUp.evalTogether [] readsPower (courtesyReady s))).trans
    (TakesUp.of_link (t := refresh (enterCourtesy s)) (by simp [enterCourtesy_eq]) (by simp [enterCourtesy_eq]))
  exact hsteps.2 rfl h

/-- A gauge whose contact is closed as it begins to home (R70 to R72). -/
theorem homed_closed_state {contacts : BitVec 6} {g : GaugeId} (sweepMark : Bool) (h : contacts.getLsbD g.ix.val = true)
    (hpark : s.gdu.parkInForce = false) :
    (homed sweepMark false contacts s g).state = if sweepMark = true ∧ s.ignitionOn = true then .sweep else .tracking := by
  rw [homed_closed h, hpark]
  unfold Gauge.close
  rw [if_neg Bool.false_ne_true]
  have hmarks : ((s.gauge g).enterHoming (s.span g) sweepMark false).sweepMark = sweepMark ∧
      ((s.gauge g).enterHoming (s.span g) sweepMark false).testMark = false := ⟨rfl, rfl⟩
  rw [hmarks.1, hmarks.2]
  by_cases hsweep : sweepMark = true ∧ s.ignitionOn = true
  · rw [if_pos (.inl hsweep), if_pos hsweep]
    unfold Gauge.beginSweep Gauge.atGoal
    dsimp only
    split_ifs <;> rfl
  · rw [if_neg (by simpa using hsweep), if_neg hsweep]
    unfold Gauge.examine
    split_ifs <;> rfl

theorem homed_state (sweepMark : Bool) (contacts : BitVec 6) (s : State) (g : GaugeId) :
    (homed sweepMark false contacts s g).state ∈ [GaugeState.homing, .parked, .sweep, .tracking] := by
  cases h : contacts.getLsbD g.ix.val with
  | false => rw [homed_open h]; simp [Gauge.enterHoming]
  | true =>
    rw [homed_closed h]
    exact List.mem_cons_of_mem _ (Gauge.close_position _ _ _ _ _).2

/-! ## The end of STARTING (R180) -/

/-- Where the gauges are not all off, STARTING leaves each homing, or homed. -/
theorem gauge_endStarting (contacts : BitVec 6) (y : State) (g : GaugeId) :
    (y.gdu.parkInForce = false →
        (refresh (endStarting contacts y)).gauge g = homed y.settings.sweepEnable false contacts y g) ∧
      ((refresh (endStarting contacts y)).gauge g).state ≠ .unhomed := by
  have hleft := startLeft_spec contacts y
  have hstate := homed_state y.settings.sweepEnable contacts y g
  have hgdu : (refresh (endStarting contacts y)).gdu = (endStarting contacts y).gdu := touches_refresh _ .gdu (by simp)
  have hsame : (refresh (endStarting contacts y)).gauge g = (endStarting contacts y).gauge g := by
    rw [State.gauge, State.gauge, hgdu]
  rw [hsame, endStarting_eq]
  split_ifs
  · have hrun : (enterRun (startLeft contacts y)).gdu =
        (withdrawPark ((startLeft contacts y).setPower (startLeft contacts y).power.inRun)).gdu := by
      have hkept := touches_evalTogether (runReady (startLeft contacts y)).serviceRaises readsPower (runReady (startLeft contacts y))
      rw [← enterRun_eq] at hkept
      exact (hkept .gdu (by simp)).trans (runReadied _).gdu
    obtain ⟨-, -, hkeep, hresume⟩ := withdrawPark_spec ((startLeft contacts y).setPower (startLeft contacts y).power.inRun)
    have hgauge : (enterRun (startLeft contacts y)).gauge g =
        (withdrawPark ((startLeft contacts y).setPower (startLeft contacts y).power.inRun)).gauge g := by
      rw [State.gauge, State.gauge, hrun]
    have hplain (hpark : y.gdu.parkInForce = false) :
        (enterRun (startLeft contacts y)).gauge g = homed y.settings.sweepEnable false contacts y g := by
      rw [hgauge, State.gauge, hkeep (hleft.park.trans hpark)]
      exact hleft.gauge g
    refine ⟨hplain, ?_⟩
    cases hpark : y.gdu.parkInForce with
    | false =>
      rw [hplain hpark]
      intro h
      rw [h] at hstate
      exact absurd hstate (by decide)
    | true =>
      have hg : ((startLeft contacts y).setPower (startLeft contacts y).power.inRun).gauge g =
          homed y.settings.sweepEnable false contacts y g := hleft.gauge g
      rw [hgauge, hresume (hleft.park.trans hpark)]
      by_cases hparked : (homed y.settings.sweepEnable false contacts y g).state = .parked
      · rw [resumed_parked (hg ▸ hparked)]
        simp
      · rw [resumed_other, hg]
        · intro h
          rw [h] at hstate
          exact absurd hstate (by decide)
        · rw [hg]
          intro h
          rw [h] at hstate
          exact absurd hstate (by decide)
        · rw [hg]
          exact hparked
  · have hready := touches_courtesyReady (startLeft contacts y)
    have hkept := touches_evalTogether [] readsPower (courtesyReady (startLeft contacts y))
    rw [← enterCourtesy_eq] at hkept
    have hcourtesy : (enterCourtesy (startLeft contacts y)).gdu = (startLeft contacts y).gdu :=
      (hkept .gdu (by simp)).trans (hready .gdu (by simp))
    have hgauge : (enterCourtesy (startLeft contacts y)).gauge g = homed y.settings.sweepEnable false contacts y g := by
      rw [State.gauge, hcourtesy]
      exact hleft.gauge g
    rw [hgauge]
    refine ⟨fun _ => rfl, fun h => ?_⟩
    rw [h] at hstate
    exact absurd hstate (by decide)

theorem touches_endStarting (contacts : BitVec 6) (y : State) :
    Touches [.power, .link, .input, .gdu, .odo, .trc, .wnu, .sru, .msc, .seq, .draw] y (refresh (endStarting contacts y)) := by
  have hleft := (startLeft_spec contacts y).touches
  rw [endStarting_eq]
  split_ifs
  · exact (hleft.mono (by simp)).trans ((touches_enterRun _).mono (by simp))
  · exact (hleft.mono (by simp)).trans ((touches_enterCourtesy _).mono (by simp))

/-- The figures that the end of STARTING leaves, whichever entry it is. -/
theorem endStarting_kept (contacts : BitVec 6) (y : State) :
    let t := refresh (endStarting contacts y)
    t.input = { y.input with gate := openGate } ∧
      t.odo =
        { y.odo with echoWait := some 2000, distTimer := t.odo.distTimer, courtesyOffered := t.odo.courtesyOffered } ∧
      t.sru.items = y.sru.items := by
  have hleft := startLeft_spec contacts y
  have hsru : (startLeft contacts y).sru = y.sru := hleft.touches .sru (by simp)
  rw [endStarting_eq]
  split_ifs
  · have hready := runReadied (startLeft contacts y)
    have hkept := enterRun_kept (startLeft contacts y)
    have hodo : (refresh (enterRun (startLeft contacts y))).odo = (runReady (startLeft contacts y)).odo := hkept .odo (by simp)
    have hitems : (refresh (enterRun (startLeft contacts y))).sru = (runReady (startLeft contacts y)).sru := hkept .sru (by simp)
    refine ⟨(touches_enterRun _ .input (by simp)).trans hleft.input, ?_, ?_⟩
    · dsimp only
      rw [hodo, hready.odo, hleft.odo]
    · rw [hitems, hready.sru, hsru]
  · have hready := touches_courtesyReady (startLeft contacts y)
    have hkept := enterCourtesy_kept (startLeft contacts y)
    have hodo : (refresh (enterCourtesy (startLeft contacts y))).odo = (courtesyBegun (startLeft contacts y)).odo :=
      (hkept .odo (by simp)).trans (hready .odo (by simp))
    refine ⟨(touches_enterCourtesy _ .input (by simp)).trans hleft.input, ?_, ?_⟩
    · dsimp only
      rw [hodo]
      simp only [courtesyBegun, State.setMsc_odo, State.setWnu_odo, State.setTrc_odo, State.setOdo_odo, hleft.odo]
    · exact congrArg ServiceUnit.items ((touches_enterCourtesy _ .sru (by simp)).trans hsru)

/-- A state in which STARTING ends stands for one before the command that ends it. -/
structure StartEndsFrom (ks : List Warning) (s y : State) : Prop extends EntersFrom ks s y where
  power : y.power = { s.power with step := y.power.step }
  gdu : y.gdu = s.gdu
  tx : y.link.tx = s.link.tx

theorem StartEndsFrom.leavesStarting (h : StartEndsFrom ks s y) (contacts : BitVec 6) :
    LeavesStarting contacts s (refresh (endStarting contacts y)) := by
  have hleft := startLeft_spec contacts y
  have hfrom := h.toEntersFrom.startLeft contacts
  obtain ⟨hinput, hodo, -⟩ := endStarting_kept contacts y
  have hgauges := gauge_endStarting contacts y
  have hon : ((refresh (endStarting contacts y)).input.filters[SwitchLine.ignition.ix]).level = .active ↔
      y.ignitionOn = true := by
    rw [hinput, State.ignitionOn, beq_iff_eq]
    rfl
  have hmade := endStarting_eq contacts y
  have htaken (htx : s.link.tx = .idle) : TakenUp (startLeft contacts y) := by
    unfold TakenUp
    rw [hleft.link, h.tx, htx]
    by_cases hq : y.link.txQueue = [] <;> simp [hq]
  have htone : (startLeft contacts y).wnu.tone ≠ .silent := by
    rw [hleft.wnu]
    exact y.wnu.allowTone_tone
  refine ⟨fun hactive => ?_, fun hinactive => ?_, by rw [hodo], by rw [hinput]; rfl, ?_, fun htx => ?_, fun hpark g => ?_⟩
  · have hi := hon.mp hactive
    rw [hmade, if_pos hi]
    refine ⟨?_, hfrom.runEntered⟩
    have hpower : (refresh (enterRun (startLeft contacts y))).power = (runReady (startLeft contacts y)).power :=
      enterRun_kept _ .power (by simp)
    rw [hpower, (runReadied _).power, hleft.power, h.power]
    rfl
  · have hi := hon.not.mp hinactive
    rw [hmade, if_neg hi]
    refine ⟨?_, hfrom.courtesyEntered⟩
    have hpower : (refresh (enterCourtesy (startLeft contacts y))).power = (courtesyBegun (startLeft contacts y)).power :=
      (enterCourtesy_kept _ .power (by simp)).trans (touches_courtesyReady _ .power (by simp))
    have hbegun : (courtesyBegun (startLeft contacts y)).power =
        (startLeft contacts y).power.inCourtesy (startLeft contacts y).settings.courtesyS := rfl
    rw [hpower, hbegun, hleft.power, hfrom.settings, h.power]
    rfl
  · rw [hmade]
    split_ifs
    · exact enterRun_tone _
    · exact enterCourtesy_tone htone
  · have htakes : TakenUp (refresh (endStarting contacts y)) := by
      rw [hmade]
      split_ifs
      · exact enterRun_takenUp (htaken htx)
      · exact enterCourtesy_takenUp (htaken htx)
    exact htakes
  · have hgauge := (hgauges g).1 (by rw [h.gdu, hpark])
    have hsame : y.gauge g = s.gauge g := by rw [State.gauge, State.gauge, h.gdu]
    have hspan : y.span g = s.span g := by rw [State.span, State.span, h.settings]
    rw [hgauge]
    refine ⟨fun hopen => ?_, fun hclosed => ⟨?_, ?_⟩⟩
    · rw [homed_open hopen, hsame, hspan, h.settings]
      rfl
    · rw [homed_closed hclosed]
      exact (Gauge.close_position _ _ _ _ _).1
    · rw [homed_closed_state _ hclosed (by rw [h.gdu, hpark]), h.settings]
      exact if_congr (and_congr_right fun _ => hon.symm) rfl rfl

end Sys2Proof.Machine
end

section
/-! CLAIM. The filtered ignition level moves the part between RUN and COURTESY, and out of STARTING (R180 to R182). -/

namespace Sys2Proof.Machine

open Sys2Proof

variable {s t u v y : State} {ks : List Warning} {level : Level} {samples : List Level}

/-- The ignition filter has completed at a level. -/
def ignited (level : Level) (s : State) : State :=
  withFilter .ignition { level := level, last := some level, run := s.input.ignLength, completed := true } s

theorem touches_ignited (level : Level) (s : State) : Touches [.input] s (ignited level s) := by
  intro b hb
  cases b
  case input => simp at hb
  all_goals rfl

/-- The samples of the ignition, the last of which completes its filter. -/
theorem exec_ignition (hpowered : s.power.state ≠ .off) (contacts : BitVec 6)
    (h : LastCompletes (s.filter .ignition) s.input.ignLength samples level) :
    exec (.switchFilterCompletion .ignition samples contacts) s =
      .next (refresh (readerTakes .ignition level ((s.filter .ignition).level != level) contacts (ignited level s))) := by
  have hs : lineSampled s .ignition = true := by simp [lineSampled, hpowered]
  exact congrArg (fun x => (.next x : Answer)) (foldl_sampleLine_completes (line := .ignition) hs contacts h)

theorem entersFrom_of_touches (h : Touches [.input, .msc] s y) : EntersFrom [] s y := by
  have hlink : y.link = s.link := h .link (by simp)
  have hpower : y.power = s.power := h .power (by simp)
  have hodo : y.odo = s.odo := h .odo (by simp)
  have hsru : y.sru = s.sru := h .sru (by simp)
  exact ⟨Settled.of_before (WarnBefore.of_wnu (h .wnu (by simp)) (by rw [hlink]) (by rw [hpower])), by simp, h .trc (by simp),
    by rw [hsru], h .clock (by simp), h .settings (by simp), by rw [hodo], OffersKey.of_txQueue (by rw [hlink])⟩

theorem touches_beginLampTest (s : State) : Touches [.msc] s (beginLampTest s) := by
  unfold beginLampTest
  split_ifs
  · exact touches_setMsc s _
  · exact Touches.refl _ s

/-! ## Out of STARTING -/

/-- While sending is not allowed the warnings leave the transmitter as it is. -/
theorem warnSteps_waits :
    WarnSteps (fun s t => t.power = s.power ∧ (s.sendingAllowed = false → t.link.tx = s.link.tx)) where
  refl _ := ⟨rfl, fun _ => rfl⟩
  trans h h' := ⟨h'.1.trans h.1, fun hs =>
    (h'.2 (by rwa [State.sendingAllowed, State.awake, h.1])).trans (h.2 hs)⟩
  setWnu _ _ := ⟨rfl, fun _ => rfl⟩
  nextMoment _ := ⟨rfl, fun _ => rfl⟩
  nextDraw _ := ⟨rfl, fun _ => rfl⟩
  offerWarnings s := ⟨by simp, fun hs => by rw [offerWarnings_eq, offer_link]; simp [hs]⟩

theorem startEndsFrom_of_touches (h : Touches [.input, .msc] s y) : StartEndsFrom [] s y where
  toEntersFrom := entersFrom_of_touches h
  power := by
    have hpower : y.power = s.power := h .power (by simp)
    rw [hpower]
  gdu := h .gdu (by simp)
  tx := congrArg Link.tx (h .link (by simp) : y.link = s.link)

/-- KEY_IN is worked out in STARTING before it ends. -/
theorem startEndsFrom_keyIn (h : Touches [.input, .msc] s y) (hstarting : s.power.state = .starting) :
    StartEndsFrom [.keyIn] s (evalWarnings [.keyIn] y) := by
  have hfrom := entersFrom_of_touches h
  have hpower : y.power = s.power := h .power (by simp)
  have hlink : y.link = s.link := h .link (by simp)
  have htouch := touches_evalWarnings [.keyIn] y
  have hsettled := hfrom.settled.evalTogether (ws := [.keyIn]) (raised := []) (by rw [State.powered, hpower, hstarting]; rfl)
    (raisedOk_nil y) (by simp) (by simp) (by simp) (by simp) (by simp)
  have hall : Touches [.link, .input, .wnu, .msc, .seq, .draw] s (evalWarnings [.keyIn] y) :=
    (h.mono (by simp)).trans (htouch.mono (by simp))
  have hodo : (evalWarnings [.keyIn] y).odo = s.odo := hall .odo (by simp)
  have hsru : (evalWarnings [.keyIn] y).sru = s.sru := hall .sru (by simp)
  have hpow : (evalWarnings [.keyIn] y).power = s.power := hall .power (by simp)
  refine
    { settled := hsettled, keys := by simp, trc := hall .trc (by simp), sru := by rw [hsru], clock := hall .clock (by simp)
      settings := hall .settings (by simp), resolved := by rw [hodo]
      queue := hfrom.queue.trans (warnSteps_offersKey.evalWarnings [.keyIn] y)
      power := by rw [hpow], gdu := hall .gdu (by simp), tx := ?_ }
  have hwaits := (warnSteps_waits.evalWarnings [.keyIn] y).2 (by rw [State.sendingAllowed, State.awake, hpower, hstarting]; rfl)
  rw [hwaits, hlink]

theorem maybeEndStarting_of_done {contacts : BitVec 6} (hstate : s.power.state = .starting) (hstep : s.power.step = .done)
    (hdone : (s.filter .ignition).completed = true) : maybeEndStarting contacts s = endStarting contacts s :=
  if_pos ⟨hstate, hstep, hdone⟩

/-- The end of STARTING leaves the lamp test as it is. -/
theorem endStarting_lamp (contacts : BitVec 6) (y : State) :
    (refresh (endStarting contacts y)).msc.lampTest = y.msc.lampTest ∧
      (refresh (endStarting contacts y)).msc.lampTimer = y.msc.lampTimer := by
  have hleft : (startLeft contacts y).msc = y.msc := (startLeft_spec contacts y).touches .msc (by simp)
  have hmsc : (endStarting contacts y).msc.lampTest = y.msc.lampTest ∧
      (endStarting contacts y).msc.lampTimer = y.msc.lampTimer := by
    rw [endStarting_eq]
    split_ifs
    · have h : (enterRun (startLeft contacts y)).msc = y.msc := by
        rw [enterRun_eq]
        exact ((touches_evalTogether _ _ _ .msc (by simp)).trans ((runReadied _).touches .msc (by simp))).trans hleft
      rw [h]
      exact ⟨rfl, rfl⟩
    · have h : (enterCourtesy (startLeft contacts y)).msc = (courtesyBegun (startLeft contacts y)).msc := by
        rw [enterCourtesy_eq]
        exact (touches_evalTogether _ _ _ .msc (by simp)).trans (touches_courtesyReady _ .msc (by simp))
      rw [h, ← hleft]
      exact ⟨rfl, rfl⟩
  rw [refresh_msc_kept]
  exact hmsc

/-- The state in which STARTING ends, as the completion of the ignition filter finds it. -/
theorem exists_startEnds (contacts : BitVec 6) (hstate : s.power.state = .starting) (hstep : s.power.step = .done) :
    ∃ ks v, readerTakes .ignition level ((s.filter .ignition).level != level) contacts (ignited level s) =
        endStarting contacts v ∧
      StartEndsFrom ks s v ∧ Touches [.link, .input, .wnu, .msc, .seq, .draw] s v ∧ v.input = (ignited level s).input ∧
      ((s.filter .ignition).level = .inactive → level = .active → s.msc.lampTest = .notRun →
        v.msc.lampTest = .running ∧ v.msc.lampTimer = some 3000) := by
  set y := ignited level s with hy
  have htouch := touches_ignited level s
  have hpower : y.power = s.power := htouch .power (by simp)
  have hmsc : y.msc = s.msc := htouch .msc (by simp)
  have hfilter : (y.filter .ignition).completed = true := by rw [hy, ignited, filter_withFilter_same]
  have hlast {v : State} (hv : v.power = s.power) (hin : v.input = y.input) :
      maybeEndStarting contacts v = endStarting contacts v := by
    refine maybeEndStarting_of_done (by rw [hv, hstate]) (by rw [hv, hstep]) ?_
    rw [State.filter, hin]
    exact hfilter
  by_cases hedge : (s.filter .ignition).level = level
  · have hmade : readerTakes .ignition level ((s.filter .ignition).level != level) contacts y = maybeEndStarting contacts y := by
      rw [hedge, bne_self_eq_false]
      rfl
    refine ⟨[], y, hmade.trans (hlast hpower rfl), startEndsFrom_of_touches (htouch.mono (by simp)), htouch.mono (by simp), rfl,
      fun hi ha => ?_⟩
    rw [hi, ha] at hedge
    exact Level.noConfusion hedge
  · have hne : ((s.filter .ignition).level != level) = true := bne_iff_ne.mpr hedge
    have heval (z : State) (hz : Touches [.input, .msc] s z) (hin : z.input = y.input) :
        maybeEndStarting contacts (evalWarnings [.keyIn] z) = endStarting contacts (evalWarnings [.keyIn] z) := by
      have he := touches_evalWarnings [.keyIn] z
      exact hlast ((he .power (by simp)).trans (hz .power (by simp))) ((he .input (by simp)).trans hin)
    have hends (z : State) (hz : Touches [.input, .msc] s z) : Touches [.link, .input, .wnu, .msc, .seq, .draw] s (evalWarnings [.keyIn] z) :=
      (hz.mono (by simp)).trans ((touches_evalWarnings [.keyIn] z).mono (by simp))
    cases level with
    | inactive =>
      have hmade : readerTakes .ignition .inactive ((s.filter .ignition).level != .inactive) contacts y =
          maybeEndStarting contacts (evalWarnings [.keyIn] y) := by
        rw [hne]
        unfold readerTakes ignitionInactiveEdge
        rw [hpower, hstate]
        rfl
      have hz : Touches [.input, .msc] s y := htouch.mono (by simp)
      exact ⟨[.keyIn], _, hmade.trans (heval y hz rfl), startEndsFrom_keyIn hz hstate, hends y hz,
        touches_evalWarnings [.keyIn] y .input (by simp), fun _ h => Level.noConfusion h⟩
    | active =>
      have hmade : readerTakes .ignition .active ((s.filter .ignition).level != .active) contacts y =
          maybeEndStarting contacts (evalWarnings [.keyIn] (beginLampTest y)) := by
        rw [hne]
        unfold readerTakes ignitionActiveEdge
        rw [hpower, hstate, hstep]
        rfl
      have hlamp := touches_beginLampTest y
      have hin : (beginLampTest y).input = y.input := hlamp .input (by simp)
      have hz : Touches [.input, .msc] s (beginLampTest y) := (htouch.mono (by simp)).trans (hlamp.mono (by simp))
      refine ⟨[.keyIn], _, hmade.trans (heval _ hz hin), startEndsFrom_keyIn hz hstate, hends _ hz,
        (touches_evalWarnings [.keyIn] (beginLampTest y) .input (by simp)).trans hin, fun _ _ hnot => ?_⟩
      have hm : (evalWarnings [.keyIn] (beginLampTest y)).msc = (beginLampTest y).msc :=
        touches_evalWarnings [.keyIn] (beginLampTest y) .msc (by simp)
      rw [hm, beginLampTest, if_pos (by rw [hmsc, hnot])]
      exact ⟨rfl, rfl⟩

/-! ## Between RUN and COURTESY -/

theorem ignitionInactiveEdge_of_run {contacts : BitVec 6} (h : s.power.state = .run) :
    ignitionInactiveEdge contacts s = enterCourtesy s := by
  unfold ignitionInactiveEdge
  rw [h]

theorem ignitionActiveEdge_of_courtesy {contacts : BitVec 6} (h : s.power.state = .courtesy) :
    ignitionActiveEdge contacts s = enterRun (beginLampTest s) := by
  unfold ignitionActiveEdge
  rw [h]

/-- An entry to RUN withdraws the park, and each gauge that was ordered to it resumes its target (R67, R68, R82). -/
theorem gauges_enterRun (y : State) :
    let t := refresh (enterRun y)
    t.gdu.parkInForce = false ∧ (y.gdu.parkInForce = false → t.gdu = y.gdu) ∧
      (y.gdu.parkInForce = true → ∀ g,
        let q := y.gauge g
        let p := (t.gauge g).target
        (q.state ≠ .parking → q.state ≠ .parked → t.gauge g = q) ∧
        (q.state = .parking ∨ q.state = .parked → TargetIs t g q.staleTarget p) ∧
        (q.state = .parking → t.gauge g = { q with state := .tracking, target := p }) ∧
        (q.state = .parked →
          t.gauge g =
            { q with
              state := .tracking, target := p, ramp := 0
              motion :=
                if (q.position - p) + (p - q.position) ≤ y.settings.deadband then .atRest
                else if q.position < p then .movingUp else .movingDown })) := by
  set x := y.setPower y.power.inRun with hx
  obtain ⟨-, hforce, hkeep, hresume⟩ := withdrawPark_spec x
  have hready := runReadied y
  have hkept := enterRun_kept y
  have hall := touches_enterRun y
  generalize refresh (enterRun y) = t at hkept hall
  intro t'
  have hgdu : t.gdu = (withdrawPark x).gdu := (hkept .gdu (by simp)).trans hready.gdu
  have hpower : t.power = x.power := (hkept .power (by simp)).trans hready.power
  have hsignals : t.signals = x.signals := hall .signals (by simp)
  have hsettings : t.settings = x.settings := hall .settings (by simp)
  have hgauge (g : GaugeId) : t.gauge g = (withdrawPark x).gauge g := by rw [State.gauge, State.gauge, hgdu]
  have htarget (g : GaugeId) : TargetIs t g (y.gauge g).staleTarget (x.targetOf g) := by
    refine TargetIs.congr (by rw [hpower]) (congrFun (State.curve_of_power hpower) g) (by rw [State.signal, State.signal, hsignals]) hsettings
      (targetIs_targetOf fun _ => rfl)
  refine ⟨by rw [hgdu, hforce], fun hpark => by rw [hgdu, hkeep hpark]; rfl, fun hpark g => ?_⟩
  have hg := (hgauge g).trans (hresume hpark g)
  intro q p
  have hp (h : q.state = .parking ∨ q.state = .parked) : p = x.targetOf g := by
    rcases h with h | h
    · exact congrArg Gauge.target (hg.trans (resumed_parking h))
    · exact congrArg Gauge.target (hg.trans (resumed_parked h))
  refine ⟨fun h1 h2 => hg.trans (resumed_other h1 h2), fun h => hp h ▸ htarget g, fun h => ?_, fun h => ?_⟩
  · rw [hp (.inl h)]
    exact hg.trans (resumed_parking h)
  · rw [hp (.inr h)]
    exact hg.trans (resumed_parked h)

/-- Settles O33: each completion runs into the entry that its power state and its level call for. -/
theorem ignitionMovesRunAndCourtesy : Obligations.IgnitionMovesRunAndCourtesy := by
  unfold Obligations.IgnitionMovesRunAndCourtesy
  intro s samples contacts f
  refine ⟨fun hstate hlevel hlast => ?courtesy, fun hstate hlevel hlast => ?run, fun level hstate hstep hlast => ?starting⟩
  case courtesy =>
    have hexec := exec_ignition (by rw [hstate]; decide) contacts hlast
    set y := ignited .inactive s
    have hy := touches_ignited .inactive s
    have hpower : y.power = s.power := hy .power (by simp)
    have hodo : y.odo = s.odo := hy .odo (by simp)
    have hsettings : y.settings = s.settings := hy .settings (by simp)
    have hmade : readerTakes .ignition .inactive ((s.filter .ignition).level != .inactive) contacts y = enterCourtesy y := by
      have hne : ((s.filter .ignition).level != .inactive) = true := by rw [hlevel]; rfl
      rw [hne]
      exact ignitionInactiveEdge_of_run (by rw [hpower, hstate])
    rw [hmade] at hexec
    have hkept := enterCourtesy_kept y
    have hready := touches_courtesyReady y
    refine ⟨_, hexec, (hy.mono (by simp)).trans ((touches_enterCourtesy y).mono (by simp)), ?_, ?_,
      (entersFrom_of_touches (hy.mono (by simp))).courtesyEntered⟩
    · have h : (refresh (enterCourtesy y)).power = y.power.inCourtesy y.settings.courtesyS :=
        (hkept .power (by simp)).trans (hready .power (by simp))
      rw [h, hpower, hsettings]
      rfl
    · have h : (refresh (enterCourtesy y)).odo = { y.odo with distTimer := none, courtesyOffered := y.odo.resolved } :=
        (hkept .odo (by simp)).trans (hready .odo (by simp))
      rw [h, hodo]
  case run =>
    have hexec := exec_ignition (by rw [hstate]; decide) contacts hlast
    set y := ignited .active s
    have hy := touches_ignited .active s
    have hpower' : y.power = s.power := hy .power (by simp)
    have hmade : readerTakes .ignition .active ((s.filter .ignition).level != .active) contacts y =
        enterRun (beginLampTest y) := by
      have hne : ((s.filter .ignition).level != .active) = true := by rw [hlevel]; rfl
      rw [hne]
      exact ignitionActiveEdge_of_courtesy (by rw [hpower', hstate])
    rw [hmade] at hexec
    have hz : Touches [.input, .msc] s (beginLampTest y) := (hy.mono (by simp)).trans ((touches_beginLampTest y).mono (by simp))
    have hlamp : s.msc.lampTest = .notRun →
        (beginLampTest y).msc.lampTest = .running ∧ (beginLampTest y).msc.lampTimer = some 3000 := fun hnot => by
      have hmsc : y.msc = s.msc := hy .msc (by simp)
      rw [beginLampTest, if_pos (by rw [hmsc, hnot])]
      exact ⟨rfl, rfl⟩
    generalize beginLampTest y = z at hexec hz hlamp
    have hpower : z.power = s.power := hz .power (by simp)
    have hodo : z.odo = s.odo := hz .odo (by simp)
    have hgdu : z.gdu = s.gdu := hz .gdu (by simp)
    have hsru : z.sru = s.sru := hz .sru (by simp)
    have hsettings : z.settings = s.settings := hz .settings (by simp)
    have hready := runReadied z
    have hkept := enterRun_kept z
    have hall := touches_enterRun z
    have hentered := (entersFrom_of_touches hz).runEntered
    have hmsc : (enterRun z).msc = z.msc := by
      rw [enterRun_eq]
      exact (touches_evalTogether _ _ _ .msc (by simp)).trans (hready.touches .msc (by simp))
    have hreview := refresh_msc_kept (enterRun z)
    rw [hmsc] at hreview
    obtain ⟨hforce, hsame, hgauges⟩ := gauges_enterRun z
    have hgauge (g : GaugeId) : z.gauge g = s.gauge g := by rw [State.gauge, State.gauge, hgdu]
    simp only [hgauge, hsettings] at hgauges
    refine ⟨_, hexec, ?_, ?_, (hall .store (by simp)).trans (hz .store (by simp)), (hall .stc (by simp)).trans (hz .stc (by simp)),
      (hall .signals (by simp)).trans (hz .signals (by simp)), (hall .settings (by simp)).trans hsettings,
      (hall .clock (by simp)).trans (hz .clock (by simp)), ?_, hentered, fun hnot => ?_, hforce,
      fun hpark => (hsame (by rw [hgdu, hpark])).trans hgdu, fun hpark => hgauges (by rw [hgdu, hpark])⟩
    · have h : (refresh (enterRun z)).power = z.power.inRun := (hkept .power (by simp)).trans hready.power
      rw [h, hpower]
      rfl
    · have h : (refresh (enterRun z)).odo = (runReady z).odo := hkept .odo (by simp)
      rw [h, hready.odo, hodo]
    · have h : (refresh (enterRun z)).sru = (runReady z).sru := hkept .sru (by simp)
      rw [h, hready.sru, hsru]
    · rw [hreview]
      exact hlamp hnot
  case starting =>
    have hexec := exec_ignition (by rw [hstate]; decide) contacts hlast
    obtain ⟨ks, v, hmade, hfrom, hv, hinput, hlamp⟩ := exists_startEnds (level := level) contacts hstate hstep
    rw [hmade] at hexec
    obtain ⟨hin, hodo, hitems⟩ := endStarting_kept contacts v
    have hall := touches_endStarting contacts v
    have hlampKept := endStarting_lamp contacts v
    have hfilter : (refresh (endStarting contacts v)).filter .ignition =
        { level := level, last := some level, run := s.input.ignLength, completed := true } := by
      rw [State.filter, hin, hinput]
      exact filter_withFilter_same .ignition _ s
    have hvodo : v.odo = s.odo := hv .odo (by simp)
    have hvsru : v.sru = s.sru := hv .sru (by simp)
    refine ⟨_, hexec, (hv.mono (by simp)).trans (hall.mono (by simp)), by rw [hfilter], by rw [hfilter],
      hfrom.leavesStarting contacts, ?_, by rw [hitems, hvsru], fun hi ha hnot => ?_⟩
    · rw [hodo, hvodo]
    · obtain ⟨h1, h2⟩ := hlamp hi ha hnot
      exact ⟨hlampKept.1.trans h1, hlampKept.2.trans h2⟩

end Sys2Proof.Machine
end

section
/-! SUPPORT. What the start reads of the serial memory: the slots of the ring, the service records, the reconciliation of the
kept values (R109, R110, R113, R114, R145, R147). -/

namespace Sys2Proof.Machine

open Sys2Proof

variable {s t u v : State} {m : Memory} {i : ServiceItem}

/-! ## Bytes with their check (R4, R109, R145) -/

theorem checkOf_eq (seed : Byte) (bytes : List Byte) : CheckOf seed bytes = rotateXor seed bytes := rfl

theorem readBytes_getElem? (m : Memory) (a n j : Nat) (h : j < n) : (m.readBytes a n)[j]? = some (m.read (a + j)) := by
  simp [Memory.readBytes, h]

theorem byteAt_readBytes (m : Memory) (a n j : Nat) (h : j < n) : byteAt (m.readBytes a n) j = m.read (a + j) := by
  simp [byteAt, List.getD_eq_getElem?_getD, readBytes_getElem? m a n j h]

theorem take_readBytes (m : Memory) (a : Nat) {k n : Nat} (h : k ≤ n) : (m.readBytes a n).take k = m.readBytes a k := by
  simp [Memory.readBytes, ← List.map_take, List.take_range, h]

theorem blankBytes_readBytes (m : Memory) (a n : Nat) :
    blankBytes (m.readBytes a (n + 1)) = false ↔ (∃ j ≤ n, m.read (a + j) ≠ 0x00) ∧ ∃ j ≤ n, m.read (a + j) ≠ 0xFF := by
  simp [blankBytes, Memory.readBytes, List.all_eq_false]

theorem checked_iff (m : Memory) (a n : Nat) (seed : Byte) :
    Checked m a n seed ↔ blankBytes (m.readBytes a (n + 1)) = false ∧ rotateXor seed (m.readBytes a n) = m.read (a + n) := by
  rw [blankBytes_readBytes, Checked, checkOf_eq, and_comm, eq_comm]
  rfl

/-! ## The ring (R109, R110) -/

theorem beNat_readBytes_four (m : Memory) (a : Nat) :
    beNat (m.readBytes a 4) = 16777216 * (m.read a).toNat + 65536 * (m.read (a + 1)).toNat + 256 * (m.read (a + 2)).toNat
      + (m.read (a + 3)).toNat := by
  simp [beNat, Memory.readBytes, List.range_succ]
  omega

theorem beNat_readBytes_three (m : Memory) (a : Nat) :
    beNat (m.readBytes a 3) = 65536 * (m.read a).toNat + 256 * (m.read (a + 1)).toNat + (m.read (a + 2)).toNat := by
  simp [beNat, Memory.readBytes, List.range_succ]
  omega

theorem beNat_readBytes_two (m : Memory) (a : Nat) :
    beNat (m.readBytes a 2) = 256 * (m.read a).toNat + (m.read (a + 1)).toNat := by
  simp [beNat, Memory.readBytes, List.range_succ]

theorem slice_readBytes (m : Memory) (a : Nat) {n j k : Nat} (h : j + k ≤ n) :
    slice (m.readBytes a n) j k = m.readBytes (a + j) k := by
  apply List.ext_getElem
  · simp [slice, Memory.readBytes]
    omega
  · intro x hx hy
    simp [slice, Memory.readBytes, Nat.add_assoc]

/-- A slot that is valid holds its value and its mark. -/
theorem ringSlot_of_valid {j : Nat} (h : SlotValid m j) :
    ringSlot m j = some (SlotValue m j, (m.read (0x40 + 8 * j + 4)).getLsbD 0) := by
  obtain ⟨hblank, hcheck⟩ := (checked_iff m _ 5 _).mp h
  unfold ringSlot slotRead slotAddress
  rw [hblank, if_neg Bool.false_ne_true, take_readBytes m _ (by decide), byteAt_readBytes m _ _ _ (by decide), if_pos hcheck,
    take_readBytes m _ (by decide), beNat_readBytes_four, byteAt_readBytes m _ _ _ (by decide)]
  rfl

theorem ringSlot_of_invalid {j : Nat} (h : ¬SlotValid m j) : ringSlot m j = none := by
  unfold ringSlot slotRead slotAddress
  split_ifs with hblank hcheck
  · rfl
  · refine absurd ((checked_iff m _ 5 _).mpr ⟨by simpa using hblank, ?_⟩) h
    rwa [take_readBytes m _ (by decide), byteAt_readBytes m _ _ _ (by decide)] at hcheck
  · rfl

theorem valid_of_ringSlot {j : Nat} {x : Nat × Bool} (h : ringSlot m j = some x) : SlotValid m j := by
  by_contra hnot
  rw [ringSlot_of_invalid hnot] at h
  exact absurd h (by simp)

/-- The newest slot as the ring is read. -/
theorem newestSlot_of_newest {j : Nat} (h : NewestSlotIs m j) :
    newestSlot m 16 = some (j, SlotValue m j, (m.read (0x40 + 8 * j + 4)).getLsbD 0) := by
  obtain ⟨hlt, hvalid, hgreatest⟩ := h
  obtain ⟨hnone, hsome⟩ := newestSlot_spec m 16
  rcases hn : newestSlot m 16 with _ | ⟨i, v, mark⟩
  · exact absurd (hnone hn j hlt) (by simp [ringSlot_of_valid hvalid])
  · obtain ⟨hi, hslot, hmax⟩ := hsome i v mark hn
    have hiv := valid_of_ringSlot hslot
    rw [ringSlot_of_valid hiv] at hslot
    obtain ⟨rfl, rfl⟩ := Prod.mk.inj (Option.some.inj hslot)
    have h1 := hmax j hlt _ _ (ringSlot_of_valid hvalid)
    have h2 := hgreatest i hi hiv
    have hij : i = j := by omega
    rw [hij]

theorem newestSlot_of_empty (h : ∀ j < 16, ¬SlotValid m j) : newestSlot m 16 = none := by
  rcases hn : newestSlot m 16 with _ | ⟨i, v, mark⟩
  · rfl
  · obtain ⟨hi, hslot, -⟩ := (newestSlot_spec m 16).2 i v mark hn
    exact absurd (valid_of_ringSlot hslot) (h i hi)

theorem exists_newest (h : ¬∀ j < 16, ¬SlotValid m j) : ∃ j, NewestSlotIs m j := by
  rcases hn : newestSlot m 16 with _ | ⟨i, v, mark⟩
  · refine absurd (fun j hj hvalid => ?_) h
    exact absurd ((newestSlot_spec m 16).1 hn j hj) (by simp [ringSlot_of_valid hvalid])
  · obtain ⟨hi, hslot, hmax⟩ := (newestSlot_spec m 16).2 i v mark hn
    have hiv := valid_of_ringSlot hslot
    rw [ringSlot_of_valid hiv] at hslot
    obtain ⟨rfl, rfl⟩ := Prod.mk.inj (Option.some.inj hslot)
    exact ⟨i, hi, hiv, fun j hj hvalid => hmax j hj _ _ (ringSlot_of_valid hvalid)⟩

/-! ## The service records (R145) -/

theorem storedRecord_of_valid (h : RecordValid m i) : storedRecord m i = some (RecordAt m i) := by
  obtain ⟨hblank, hcheck⟩ := (checked_iff m _ 7 _).mp h
  unfold storedRecord recordRead recordAddress recordCheck
  rw [hblank, if_neg Bool.false_ne_true, take_readBytes m _ (by decide), byteAt_readBytes m _ _ _ (by decide), if_pos hcheck,
    take_readBytes m _ (by decide), slice_readBytes m _ (by decide), slice_readBytes m _ (by decide), beNat_readBytes_three,
    beNat_readBytes_two, beNat_readBytes_two]
  rfl

theorem storedRecord_of_invalid (h : ¬RecordValid m i) : storedRecord m i = none := by
  unfold storedRecord recordRead recordAddress recordCheck
  split_ifs with hblank hcheck
  · rfl
  · refine absurd ((checked_iff m _ 7 _).mpr ⟨by simpa using hblank, ?_⟩) h
    rwa [take_readBytes m _ (by decide), byteAt_readBytes m _ _ _ (by decide)] at hcheck
  · rfl

/-- An item as step 4 takes it from the memory (R147). -/
def recordTaken (m : Memory) (i : ServiceItem) : ServiceState :=
  match storedRecord m i with
  | some r => { record := r, awaiting := false, dirty := false }
  | none => { record := { dueKm := 0, dueDay := none, penalty := 0 }, awaiting := true, dirty := false }

theorem takeRecord_eq (s : State) (i : ServiceItem) :
    takeRecord s i =
      if (storedRecord s.store i).isNone then recordCode 0x13 (s.setItem i (recordTaken s.store i))
      else s.setItem i (recordTaken s.store i) := by
  unfold takeRecord recordTaken
  cases storedRecord s.store i <;> rfl

theorem takeRecord_spec (s : State) (i : ServiceItem) :
    Touches [.sru, .rqs] s (takeRecord s i) ∧
      (takeRecord s i).sru = { s.sru with items := (takeRecord s i).sru.items } ∧
      (takeRecord s i).rqs.lastError = if (storedRecord s.store i).isNone then 0x13 else s.rqs.lastError := by
  rw [takeRecord_eq]
  split_ifs
  · refine ⟨fun b hb => ?_, rfl, rfl⟩
    cases b
    case sru | rqs => simp at hb
    all_goals rfl
  · refine ⟨fun b hb => ?_, rfl, rfl⟩
    cases b
    case sru | rqs => simp at hb
    all_goals rfl

theorem foldl_takeRecord (l : List ServiceItem) (s : State) :
    Touches [.sru, .rqs] s (l.foldl takeRecord s) ∧
      (l.foldl takeRecord s).sru = { s.sru with items := (l.foldl takeRecord s).sru.items } ∧
      (l.foldl takeRecord s).rqs.lastError =
        if l.any (fun i => (storedRecord s.store i).isNone) then 0x13 else s.rqs.lastError := by
  induction l generalizing s with
  | nil => exact ⟨Touches.refl _ s, rfl, rfl⟩
  | cons i l ih =>
    obtain ⟨htouch, hsru, herror⟩ := takeRecord_spec s i
    obtain ⟨htouch', hsru', herror'⟩ := ih (takeRecord s i)
    have hstore : (takeRecord s i).store = s.store := htouch .store (by simp)
    refine ⟨htouch.trans htouch', ?_, ?_⟩
    · rw [List.foldl_cons, hsru', hsru]
    · rw [List.foldl_cons, herror', herror, hstore, List.any_cons]
      by_cases h1 : (storedRecord s.store i).isNone = true <;>
        by_cases h2 : l.any (fun i => (storedRecord s.store i).isNone) = true <;> simp [h1, h2]

theorem item_foldl_takeRecord (s : State) (i : ServiceItem) :
    (ServiceItem.all.foldl takeRecord s).item i = recordTaken s.store i := by
  have h := foldl_item (f := takeRecord) (F := fun s i => recordTaken s.store i) (fun s i => ?_) (fun s i j hj => ?_)
    (fun s i j _ => ?_) (l := ServiceItem.all) (by decide) s i
  · rw [h, if_pos (mem_serviceItems i)]
  · rw [takeRecord_eq]
    split_ifs
    · exact State.item_setItem_same _ _ _
    · exact State.item_setItem_same _ _ _
  · rw [takeRecord_eq]
    split_ifs
    · exact State.item_setItem_other _ _ hj
    · exact State.item_setItem_other _ _ hj
  · rw [(takeRecord_spec s i).1 .store (by simp)]

/-! ## The ring taken (R110, R114) -/

/-- What step 4 reconciles. -/
def reconciled (s : State) : Option Nat × Nat × Bool :=
  reconcile ((newestSlot s.store 16).map (·.2.1)) s.odo.verified s.odo.pending

theorem takeRing_spec (s : State) :
    Touches [.odo, .stc, .rqs] s (takeRing s) ∧
      (takeRing s).stc = { s.stc with writePos := ringWritePosition (newestSlot s.store 16) } ∧
      (takeRing s).odo =
        { s.odo with
          committed := (reconciled s).1.getD 0, pending := (reconciled s).2.1, base := (reconciled s).1
          baseCommit := (reconciled s).2.2, restored := ((newestSlot s.store 16).map (·.2.2)).getD false } ∧
      (takeRing s).rqs.lastError = if (newestSlot s.store 16).isNone then 0x12 else s.rqs.lastError := by
  unfold takeRing
  dsimp only
  split_ifs
  · refine ⟨fun b hb => ?_, rfl, rfl, rfl⟩
    cases b
    case odo | stc | rqs => simp at hb
    all_goals rfl
  · refine ⟨fun b hb => ?_, rfl, rfl, rfl⟩
    cases b
    case odo | stc | rqs => simp at hb
    all_goals rfl

/-! ## The due days filled and the port open (R111, R147, R151) -/

theorem fillDueDays_of_invalid (h : s.clock.valid = false) : fillDueDays s = s := if_neg (by simp [h])

/-- A job that begins is the store's affair: the odometer's figures stand but for the commit, and so does what the write
position is. -/
theorem stcBegin_kept (s : State) :
    Touches [.odo, .stc] s (stcBegin s) ∧ (stcBegin s).odo = { s.odo with commit := (stcBegin s).odo.commit } ∧
      (stcBegin s).stc.writePos = s.stc.writePos ∧ (stcBegin s).stc.portOpen = s.stc.portOpen := by
  refine ⟨touches_stcBegin s, odo_stcBegin s, stcBegin_writePos s, stcBegin_portOpen s⟩

theorem withStore_stcBegin (h : WithStore s i) : WithStore (stcBegin s) i := by
  obtain ⟨e, hitem, hrecord, hin⟩ := h
  have hsru : (stcBegin s).sru = s.sru := touches_stcBegin s .sru (by simp)
  refine ⟨e, hitem, by rw [hrecord, State.item, State.item, hsru], ?_⟩
  rcases hin with hwait | ⟨es, n, x, hmem, hactive⟩
  · exact mem_service_stcBegin hwait
  · rw [stcBegin_of_busy (by simp [hactive])]
    exact .inr ⟨es, n, x, hmem, hactive⟩

theorem withStore_openPort (h : WithStore s i) : WithStore (openPort s) i :=
  withStore_stcBegin (s := s.setStc { s.stc with portOpen := true }) h

theorem openPort_spec (s : State) :
    Touches [.odo, .stc] s (openPort s) ∧ (openPort s).odo = { s.odo with commit := (openPort s).odo.commit } ∧
      (openPort s).stc.writePos = s.stc.writePos ∧ (openPort s).stc.portOpen = true := by
  set x := s.setStc { s.stc with portOpen := true } with hx
  obtain ⟨htouch, hodo, hpos, hopen⟩ := stcBegin_kept x
  have hsx : Touches [.stc] s x := by
    intro b hb
    cases b
    case stc => simp at hb
    all_goals rfl
  exact ⟨(hsx.mono (by simp)).trans htouch, hodo, hpos, hopen⟩

theorem fillDueDays_kept (s : State) :
    (fillDueDays s).odo = { s.odo with commit := (fillDueDays s).odo.commit } ∧
      (fillDueDays s).stc.writePos = s.stc.writePos := by
  unfold fillDueDays
  split_ifs
  · set x := ServiceItem.all.foldl fillItem s
    have htouch := (foldl_fillItem_frame ServiceItem.all s).1
    have hodo : x.odo = s.odo := htouch .odo (by simp)
    have hstc : x.stc = s.stc := htouch .stc (by simp)
    obtain ⟨-, hkept, hpos, -⟩ := stcBegin_kept (x.setStc { x.stc with waitService := serviceJob none x })
    rw [← hodo, ← hstc]
    exact ⟨hkept, hpos⟩
  · exact ⟨rfl, rfl⟩

theorem takeRecords_spec (s : State) :
    Touches [.odo, .stc, .sru, .rqs] s (takeRecords s) ∧
      (takeRecords s).odo = { s.odo with commit := (takeRecords s).odo.commit } ∧
      (takeRecords s).stc.writePos = s.stc.writePos ∧
      (takeRecords s).sru = { s.sru with items := (takeRecords s).sru.items } ∧
      (takeRecords s).rqs.lastError =
        (if ServiceItem.all.any (fun i => (storedRecord s.store i).isNone) then 0x13 else s.rqs.lastError) ∧
      ∀ i, let taken := recordTaken s.store i
        let fills : Prop := s.clock.valid = true ∧ taken.awaiting = false ∧ 0 < intervalDays s.settings i ∧ taken.record.dueDay = none
        (fills →
          (takeRecords s).item i =
              { taken with
                record := { taken.record with dueDay := some (s.clock.day + intervalDays s.settings i) }, dirty := true } ∧
            WithStore (takeRecords s) i) ∧
        (¬fills → (takeRecords s).item i = taken) := by
  obtain ⟨htouch, hsru, herror⟩ := foldl_takeRecord ServiceItem.all s
  have hitem := item_foldl_takeRecord s
  have hmade : takeRecords s = fillDueDays (ServiceItem.all.foldl takeRecord s) := rfl
  rw [hmade]
  generalize ServiceItem.all.foldl takeRecord s = x at htouch hsru herror hitem
  have hclock : x.clock = s.clock := htouch .clock (by simp)
  have hsettings : x.settings = s.settings := htouch .settings (by simp)
  have hodo : x.odo = s.odo := htouch .odo (by simp)
  have hstc : x.stc = s.stc := htouch .stc (by simp)
  cases hvalid : s.clock.valid with
  | false =>
    rw [fillDueDays_of_invalid (by rw [hclock, hvalid])]
    exact ⟨htouch.mono (by simp), by rw [hodo], by rw [hstc], hsru, herror, fun i =>
      ⟨fun h => Bool.noConfusion h.1, fun _ => hitem i⟩⟩
  | true =>
    obtain ⟨hfill, hfsru, hfitem⟩ := fillDueDays_spec (s := x) (by rw [hclock, hvalid])
    have hrqs : (fillDueDays x).rqs = x.rqs := hfill .rqs (by simp)
    refine ⟨(htouch.mono (by simp)).trans (hfill.mono (by simp)), ?_, ?_, by rw [hfsru, hsru], by rw [hrqs, herror], fun i => ?_⟩
    · rw [(fillDueDays_kept x).1, hodo]
    · rw [(fillDueDays_kept x).2, hstc]
    · obtain ⟨hfilled, hwith⟩ := hfitem i
      have hneeds : needsFill x i = true ↔ (recordTaken s.store i).awaiting = false ∧ 0 < intervalDays s.settings i ∧
          (recordTaken s.store i).record.dueDay = none := by
        simp [needsFill, hitem, hsettings, and_assoc]
      refine ⟨fun h => ?_, fun h => ?_⟩
      · have hn := hneeds.mpr h.2
        rw [hfilled, if_pos hn, filled, hitem, hclock, hsettings]
        exact ⟨rfl, hwith hn⟩
      · rw [hfilled, if_neg fun hn => h ⟨rfl, hneeds.mp hn⟩, hitem]

end Sys2Proof.Machine
end

section
/-! CLAIM. Step 4 takes the ring and the service records, and STARTING ends if the ignition filter has completed (R113, R114,
R147, R180). -/

namespace Sys2Proof.Machine

open Sys2Proof

variable {s t y : State} {m : Memory} {i : ServiceItem}

/-- The state as step 4 leaves it. -/
def storeTaken (s : State) : State :=
  let x := openPort (takeRecords (takeRing s))
  x.setPower { x.power with step := .done }

theorem recordTaken_of_valid (h : RecordValid m i) :
    recordTaken m i = { record := RecordAt m i, awaiting := false, dirty := false } := by
  simp only [recordTaken, storedRecord_of_valid h]

theorem recordTaken_of_invalid (h : ¬RecordValid m i) :
    (recordTaken m i).awaiting = true ∧ (recordTaken m i).dirty = false := by
  simp only [recordTaken, storedRecord_of_invalid h, and_self]

/-- What step 4 has taken. -/
structure StoreTaken (s t : State) : Prop where
  touches : Touches [.power, .odo, .stc, .sru, .rqs] s t
  power : t.power = { s.power with step := .done }
  odo : t.odo =
    { s.odo with
      committed := (reconciled s).1.getD 0, pending := (reconciled s).2.1, base := (reconciled s).1
      baseCommit := (reconciled s).2.2, restored := ((newestSlot s.store 16).map (·.2.2)).getD false
      commit := t.odo.commit }
  writePos : t.stc.writePos = ringWritePosition (newestSlot s.store 16)
  portOpen : t.stc.portOpen = true
  sru : t.sru = { s.sru with items := t.sru.items }
  error : t.rqs.lastError =
    if ServiceItem.all.any (fun i => (storedRecord s.store i).isNone) then 0x13
    else if (newestSlot s.store 16).isNone then 0x12 else s.rqs.lastError
  item : ∀ i, let taken := recordTaken s.store i
    let fills : Prop := s.clock.valid = true ∧ taken.awaiting = false ∧ 0 < intervalDays s.settings i ∧ taken.record.dueDay = none
    (fills →
      t.item i =
          { taken with
            record := { taken.record with dueDay := some (s.clock.day + intervalDays s.settings i) }, dirty := true } ∧
        WithStore t i) ∧
    (¬fills → t.item i = taken)

theorem storeTaken_spec (s : State) : StoreTaken s (storeTaken s) := by
  obtain ⟨h1, hstc1, hodo1, herror1⟩ := takeRing_spec s
  obtain ⟨h2, hodo2, hpos2, hsru2, herror2, hitem2⟩ := takeRecords_spec (takeRing s)
  obtain ⟨h3, hodo3, hpos3, hopen3⟩ := openPort_spec (takeRecords (takeRing s))
  have hstore : (takeRing s).store = s.store := h1 .store (by simp)
  have hclock : (takeRing s).clock = s.clock := h1 .clock (by simp)
  have hsettings : (takeRing s).settings = s.settings := h1 .settings (by simp)
  have hsru1 : (takeRing s).sru = s.sru := h1 .sru (by simp)
  rw [hstore, hclock, hsettings] at hitem2
  rw [hstore, herror1] at herror2
  rw [hstc1] at hpos2
  have hwith (i : ServiceItem) (h : WithStore (takeRecords (takeRing s)) i) : WithStore (openPort (takeRecords (takeRing s))) i :=
    withStore_openPort h
  have hmade : storeTaken s = (openPort (takeRecords (takeRing s))).setPower
      { (openPort (takeRecords (takeRing s))).power with step := .done } := rfl
  rw [hmade]
  generalize openPort (takeRecords (takeRing s)) = x at h3 hodo3 hpos3 hopen3 hwith
  generalize takeRecords (takeRing s) = v at *
  have hsx : Touches [.odo, .stc, .sru, .rqs] s x :=
    ((h1.mono (by simp)).trans (h2.mono (by simp))).trans (h3.mono (by simp))
  have hpower : x.power = s.power := hsx .power (by simp)
  have hsru3 : x.sru = v.sru := h3 .sru (by simp)
  have hrqs3 : x.rqs = v.rqs := h3 .rqs (by simp)
  have hitem (i : ServiceItem) : x.item i = v.item i := by rw [State.item, State.item, hsru3]
  refine ⟨fun b hb => ?_, by rw [State.setPower_power, hpower], ?_, ?_, hopen3, ?_, ?_, fun i => ⟨fun hf => ?_, fun hf => ?_⟩⟩
  · have hall := hsx b
    cases b
    case power | odo | stc | sru | rqs => simp at hb
    all_goals exact hall (by simp)
  · rw [State.setPower_odo, hodo3, hodo2, hodo1]
  · exact hpos3.trans hpos2
  · rw [State.setPower_sru, hsru3, hsru2, hsru1]
  · rw [State.setPower_rqs, hrqs3, herror2]
  · obtain ⟨hfilled, hw⟩ := (hitem2 i).1 hf
    exact ⟨(hitem i).trans hfilled, hwith i hw⟩
  · exact (hitem i).trans ((hitem2 i).2 hf)

theorem StoreTaken.startEndsFrom (h : StoreTaken s y) : StartEndsFrom [] s y := by
  have hlink : y.link = s.link := h.touches .link (by simp)
  have hwnu : y.wnu = s.wnu := h.touches .wnu (by simp)
  exact
    { settled := Settled.of_before (WarnBefore.of_wnu hwnu (by rw [hlink]) (by rw [h.power]))
      keys := by simp
      trc := h.touches .trc (by simp)
      sru := h.sru
      clock := h.touches .clock (by simp)
      settings := h.touches .settings (by simp)
      resolved := by rw [h.odo]
      queue := OffersKey.of_txQueue (by rw [hlink])
      power := by rw [h.power]
      gdu := h.touches .gdu (by simp)
      tx := by rw [hlink] }

/-- The reconciliation of a slot with the kept verified value (R114). -/
theorem reconcile_slot (v pending : Nat) : reconcile (some v) none pending = (some v, pending, false) := rfl

theorem reconcile_both (v x pending : Nat) :
    reconcile (some v) (some x) pending = (some (max v x), pending - (v - x), decide (v < x)) := by
  unfold reconcile
  dsimp only
  rcases Nat.lt_trichotomy v x with h | h | h
  · rw [if_neg (by omega), if_pos h, Nat.max_eq_right h.le, Nat.sub_eq_zero_of_le h.le]
    simp [h]
  · subst h
    simp
  · rw [if_pos h, Nat.max_eq_left h.le]
    simp [h.le]

theorem reconcile_empty (verified : Option Nat) (pending : Nat) :
    reconcile none verified pending = (verified, pending, verified.isSome) := by
  cases verified <;> rfl

theorem any_invalid_iff (m : Memory) :
    ServiceItem.all.any (fun i => (storedRecord m i).isNone) = true ↔ ∃ i, ¬RecordValid m i := by
  rw [List.any_eq_true]
  refine ⟨fun ⟨i, _, h⟩ => ⟨i, fun hvalid => ?_⟩, fun ⟨i, h⟩ => ⟨i, mem_serviceItems i, ?_⟩⟩
  · rw [storedRecord_of_valid hvalid] at h
    exact Bool.noConfusion h
  · rw [storedRecord_of_invalid h]
    rfl

/-- Settles O54: what step 4 takes stands also where STARTING ends with it. -/
theorem ringStepTakesTheStore : Obligations.RingStepTakesTheStore := by
  unfold Obligations.RingStepTakesTheStore
  intro s contacts hstate hstep f empty fills
  have hy := storeTaken_spec s
  have hexec : exec (.ringAndServiceRead contacts) s = .next (refresh (maybeEndStarting contacts (storeTaken s))) :=
    if_pos (by rw [State.atStep, hstate, hstep]; rfl)
  have hfrom := hy.startEndsFrom
  generalize storeTaken s = y at hy hexec hfrom
  have hinput : y.input = s.input := hy.touches .input (by simp)
  have hfilter : y.filter .ignition = f := by rw [State.filter, hinput]; rfl
  obtain ⟨t, ht, htouch, hodo, hitems, hplain, hdone⟩ : ∃ t, exec (.ringAndServiceRead contacts) s = .next t ∧
      Touches [.power, .link, .input, .gdu, .odo, .trc, .wnu, .sru, .msc, .seq, .draw] y t ∧
      t.odo =
        { y.odo with
          echoWait := t.odo.echoWait, distTimer := t.odo.distTimer, courtesyOffered := t.odo.courtesyOffered } ∧
      t.sru.items = y.sru.items ∧ (f.completed = false → t.power = y.power) ∧
      (f.completed = true → (t.filter .ignition).level = f.level ∧ LeavesStarting contacts s t ∧
        ∀ g, (t.gauge g).state ≠ .unhomed) := by
    cases hcompleted : f.completed with
    | false =>
      have hmade : maybeEndStarting contacts y = y := by
        refine if_neg fun h => ?_
        have hc : (y.filter .ignition).completed = true := h.2.2
        rw [hfilter, hcompleted] at hc
        exact Bool.noConfusion hc
      rw [hmade] at hexec
      have htouch := touches_refresh y
      have hodo : (refresh y).odo = y.odo := htouch .odo (by simp)
      have hsru : (refresh y).sru = y.sru := htouch .sru (by simp)
      exact ⟨_, hexec, htouch.mono (by simp), by rw [hodo], by rw [hsru], fun _ => htouch .power (by simp),
        fun h => Bool.noConfusion h⟩
    | true =>
      have hmade : maybeEndStarting contacts y = endStarting contacts y :=
        maybeEndStarting_of_done (by rw [hy.power, hstate]) (by rw [hy.power]) (by rw [hfilter, hcompleted])
      rw [hmade] at hexec
      obtain ⟨hin, hodo, hitems⟩ := endStarting_kept contacts y
      refine ⟨_, hexec, touches_endStarting contacts y, ?_, hitems, fun h => Bool.noConfusion h, fun _ =>
        ⟨?_, hfrom.leavesStarting contacts, fun g => (gauge_endStarting contacts y g).2⟩⟩
      · rw [hodo]
      · rw [State.filter, hin]
        exact congrArg SwitchFilter.level hfilter
  have hstc : t.stc = y.stc := htouch .stc (by simp)
  have hrqs : t.rqs = y.rqs := htouch .rqs (by simp)
  have hitem (i : ServiceItem) : t.item i = y.item i := by rw [State.item, State.item, hitems]
  have hwith (i : ServiceItem) (h : WithStore y i) : WithStore t i := by
    unfold WithStore at h ⊢
    rwa [hstc, hitem]
  rw [hy.odo] at hodo
  refine ⟨t, ht, (htouch .store (by simp)).trans (hy.touches .store (by simp)),
    (htouch .settings (by simp)).trans (hy.touches .settings (by simp)),
    (htouch .clock (by simp)).trans (hy.touches .clock (by simp)), by rw [hstc, hy.portOpen], fun j hj => ?newest,
    fun hempty => ?empty, exists_newest, fun i hvalid => ?valid, fun i hinvalid => ?invalid, fun hinvalid => ?code13,
    fun hall hempty => ?code12, fun hall hring => ?code, fun hc => (hplain hc).trans hy.power, hdone⟩
  case newest =>
    have hslot := newestSlot_of_newest hj
    have hmark : t.odo.restored = ((newestSlot s.store 16).map (·.2.2)).getD false := by rw [hodo]
    refine ⟨by rw [hstc, hy.writePos, hslot]; rfl, by rw [hmark, hslot]; rfl, fun hnone => ?_, fun x hx => ?_⟩
    · have hr : reconciled s = (some (SlotValue s.store j), s.odo.pending, false) := by
        rw [reconciled, hslot, hnone]
        rfl
      rw [hodo, hr]
      exact ⟨rfl, rfl, rfl, rfl⟩
    · have hr : reconciled s = (some (max (SlotValue s.store j) x), s.odo.pending - (SlotValue s.store j - x),
          decide (SlotValue s.store j < x)) := by
        rw [reconciled, hslot, hx, ← reconcile_both]
        rfl
      rw [hodo, hr]
      exact ⟨rfl, rfl, rfl, decide_eq_true_iff⟩
  case empty =>
    have hslot := newestSlot_of_empty hempty
    have hr : reconciled s = (s.odo.verified, s.odo.pending, s.odo.verified.isSome) := by
      rw [reconciled, hslot, ← reconcile_empty]
      rfl
    refine ⟨by rw [hstc, hy.writePos, hslot]; rfl, ?_⟩
    rw [hodo, hr, hslot]
    exact ⟨rfl, rfl, rfl, rfl, Iff.rfl⟩
  case valid =>
    have htaken := recordTaken_of_valid hvalid
    have hspec := hy.item i
    rw [htaken] at hspec
    refine ⟨fun hf => ?_, fun hf => (hitem i).trans (hspec.2 fun h => hf ⟨h.1, h.2.2.1, h.2.2.2⟩)⟩
    obtain ⟨hfilled, hw⟩ := hspec.1 ⟨hf.1, rfl, hf.2.1, hf.2.2⟩
    exact ⟨(hitem i).trans hfilled, hwith i hw⟩
  case invalid =>
    obtain ⟨hawaiting, hdirty⟩ := recordTaken_of_invalid hinvalid
    rw [hitem, (hy.item i).2 fun h => Bool.noConfusion (h.2.1.symm.trans hawaiting)]
    exact ⟨hawaiting, hdirty⟩
  case code13 => rw [hrqs, hy.error, if_pos ((any_invalid_iff _).mpr hinvalid)]
  case code12 =>
    rw [hrqs, hy.error, if_neg fun h => ?_, newestSlot_of_empty hempty]
    · rfl
    · obtain ⟨i, hi⟩ := (any_invalid_iff _).mp h
      exact hi (hall i)
  case code =>
    obtain ⟨j, hj⟩ := exists_newest hring
    rw [hrqs, hy.error, if_neg fun h => ?_, newestSlot_of_newest hj]
    · rfl
    · obtain ⟨i, hi⟩ := (any_invalid_iff _).mp h
      exact hi (hall i)

end Sys2Proof.Machine
end

section
/-! CLAIM. The commit and the total: a state whose pending distance has gone beyond its 32-bit limit refutes O9. -/

namespace Sys2Proof.Machine

open Sys2Proof

variable {s : State}

/-- A metre taken before the resolution, in CLEAR, sets the pending distance back to its limit where it stands beyond it
(R105). -/
theorem odo_odometerMetre_beyond (hcommit : s.odo.commit = .clear) (hres : s.odo.resolved = false)
    (hpending : 4294967295 ≤ s.odo.pending) : (odometerMetre s).odo = { s.odo with pending := 4294967295 } := by
  have hlimit : satInc max32 s.odo.pending = 4294967295 := min_eq_right (by unfold max32; omega)
  simp [odometerMetre, hcommit, hres, hlimit]

/-- RUN before the resolution, one pulse short of a metre, with a pending distance one metre beyond what 32 bits hold.
The bounds of the odometer exclude it, but neither the commit state nor what the total bounds does. -/
def State.beyondLimit : State :=
  { State.reset with
    power := { State.reset.power with state := .run, kind := .warm, step := .none }
    input := { State.reset.input with residue := State.reset.settings.ppk }
    odo := { State.reset.odo with pending := 4294967296 }
    pending := [.speedPulse 0] }

theorem commitInv_beyondLimit : CommitInv State.beyondLimit := by
  simp [CommitInv, State.beyondLimit, State.reset, State.cold]

theorem totalInv_beyondLimit : TotalInv State.beyondLimit := by
  simp [TotalInv, State.beyondLimit, State.reset, State.cold]

/-- The pulse of that state makes a metre, and the total falls by one. -/
theorem step_beyondLimit : ∃ t, step State.beyondLimit = .next t ∧ t.power = State.beyondLimit.power ∧
    t.odo = { State.beyondLimit.odo with pending := 4294967295 } := by
  set y := State.beyondLimit.setPending [] with hy
  obtain ⟨i, hpulse, -⟩ := takePulse_metre (s := y) (Nat.le_add_right _ _)
  have hmetre : (odometerMetre (y.setInput i)).odo = { y.odo with pending := 4294967295 } :=
    odo_odometerMetre_beyond (s := y.setInput i) rfl rfl (Nat.le_succ 4294967295)
  refine ⟨_, exec_speedPulse (s := y) 0 rfl, ?_, ?_⟩
  · simp [hy]
  · have hodo : (metreEvent (y.setInput i)).odo = (odometerMetre (y.setInput i)).odo := (tripMetre_frame _).2.2.2.2.2.1
    simp only [refresh_frame, State.setInput_odo, hpulse, hodo, hmetre]
    rfl

/-- Refutes O9: the statement does not take the 32-bit bound of the pending distance among its hypotheses, and a metre
that is counted beyond the limit sets the pending distance back to it, so the total falls in RUN. -/
theorem not_stepKeepsCommit : ¬ Obligations.StepKeepsCommit := by
  rintro ⟨-, htotal, -⟩
  obtain ⟨t, hstep, hpower, hodo⟩ := step_beyondLimit
  have hawake : t.awake = true := by rw [State.awake, hpower]; rfl
  have hfalls := ((htotal _ t commitInv_beyondLimit totalInv_beyondLimit hstep).2 rfl hawake).2
  rw [hodo] at hfalls
  exact absurd hfalls (by decide)

end Sys2Proof.Machine
end
